-- ==== Sys2Proof/Word.lean ====
section
/-! DEFINITION. The word types of the EKV-416: bytes of DRAM and the 16-bit words of every record
(00_scope.md, section 0.5, "Byte order"). -/

namespace Sys2Proof

/-- One byte of DRAM, of a record or of a frame. -/
abbrev Byte := BitVec 8

/-- A 16-bit word: a record field, a counter that counts modulo 65536, an EEPROM word. -/
abbrev Word := BitVec 16

end Sys2Proof
end

