-- ==== Sys2Proof/Config.lean ====
section
/-! DEFINITION. What an implementation fixes: the fixed times of the book, and the FREE VALUES, which
have no body, so that a claim about the model holds whatever they are. -/

namespace Sys2Proof.Config

/-- Words of a burst that have passed when it is suspended or cut off (01 R22, R23: the book does not
say how far it has got). FREE VALUE, log 10; used modulo the words that are left. -/
opaque burstProgress : Nat → Nat

/-- Which of two requests of ONE channel, an entry fetch and a line transfer, the channel presents
first (01 R22 says only that it has one request waiting). FREE VALUE, log 11. -/
opaque fetchFirst : Nat → Bool

/-- Ticks of the shift and latch of a line (04 R83, R86). -/
def shiftLatchTicks : Nat := 108

/-- Ticks of the CRSTN pulse of an engine reset (05 R109). -/
def linkResetTicks : Nat := 50

/-- Ticks of the exit from self-refresh (08 R163). -/
def selfRefreshExitTicks : Nat := 50

/-- Ticks from one refresh to the next (01 R23). -/
def refreshTicks : Nat := 7

/-- Ticks the EEPROM is waited for after a word (09 R178). -/
def eepromReadyTicks : Nat := 5000

/-- Dots of a line, and so pixel samples of a capture (03 R59). -/
def dotsPerLine : Nat := 1728

/-- Dot bytes of a line (03 R71). -/
def bytesPerLine : Nat := 216

/-- Dots of one strobe section of the head (01 R14). -/
def dotsPerSection : Nat := 432

/-- Line slots of a band (01 R1). -/
def linesPerBand : Nat := 64

/-- Entries the print queue can hold (04 R77). -/
def queueRoom : Nat := 16

end Sys2Proof.Config
end

