-- ==== Sys2Proof/Syntax.lean ====
section
/-! DEFINITION. The commands of the block: one constructor for each row of spec/opcode_table.json,
with what comes from OUTSIDE the block at that step as its operands. A command row (START_CHAIN and
the like) has no operand: the step acts on the command record the record unit has in hand (10 R182);
an entry row acts on the entry in the named channel's window (02 R30). Log 4. -/

namespace Sys2Proof

/-- The four line channels (00_scope.md, section 0.5). -/
inductive Channel where
  /-- Channel 0, a writer. -/
  | scan
  /-- Channel 1, a reader. -/
  | print
  /-- Channel 2, a reader. -/
  | codeOut
  /-- Channel 3, a writer. -/
  | codeIn
  deriving DecidableEq, Repr

/-- The three motors: scan feed, print feed, auxiliary (00_scope.md, section 0.5). -/
inductive MotorId where
  | m0
  | m1
  | m2
  deriving DecidableEq, Repr

/-- What started the last start-up (09 R166). -/
inductive ResetCause where
  | powerOn
  | pin
  deriving DecidableEq, Repr

/-- What the coder offers with CRXV at a step: nothing, a frame it offered while Code-in was in a LINES
entry, or one it offered while Code-in was in none (05 R99, R106). -/
inductive CoderOffer where
  | nothing
  | inLines
  | outside
  deriving DecidableEq, Repr

/-- A step of the block, one constructor for each row of the table. -/
inductive Instr where
  /-- HARD_RESET (R166): the cause, and for a power-on what the EEPROM found fitted holds (`none`: it
  holds what it held). -/
  | hardReset (cause : ResetCause) (rom : Option (List Word))
  /-- PROBE (R168): the level of CFGSKIP and of G0 to G15 (bit g) at the first sample. -/
  | probe (cfgskip : Bool) (lines : BitVec 16)
  /-- PROBE_WORD_READ_END (R168). -/
  | probeWordReadEnd (lines : BitVec 16)
  /-- IMAGE_READ_END (R169). -/
  | imageReadEnd (lines : BitVec 16)
  /-- HOST_RELEASE (R173). -/
  | hostRelease
  /-- COMMAND_WORD_WRITE (R180): the value written. -/
  | commandWordWrite (value : Word)
  /-- REPORT_WORD_WRITE (R189): the value written. -/
  | reportWordWrite (value : Word)
  /-- HOST_MEMORY_CYCLE (R24): HASEL active beside HMSEL, the word address on HA1 to HA21, and the
  word written (`none` for a read). -/
  | hostMemoryCycle (hasel : Bool) (wordAddr : BitVec 21) (write : Option Word)
  /-- HOST_WORD_SERVED (R24). -/
  | hostWordServed
  /-- REFRESH_DUE (R23). -/
  | refreshDue
  /-- COMMAND_FETCH_END (R182). -/
  | commandFetchEnd
  /-- UNKNOWN_COMMAND (R183). -/
  | unknownCommand
  /-- START_CHAIN (R52). -/
  | startChain
  /-- STOP_CHANNEL_PAUSE (R53). -/
  | stopChannelPause
  /-- STOP_CHANNEL_ABORT (R54). -/
  | stopChannelAbort
  /-- RESUME_CHANNEL (R55). -/
  | resumeChannel
  /-- MOTOR_MOVE (R118). -/
  | motorMove
  /-- MOTOR_STOP_RAMP (R119). -/
  | motorStopRamp
  /-- MOTOR_STOP_IMMEDIATE (R119). -/
  | motorStopImmediate
  /-- MOTOR_RESUME (R120). -/
  | motorResume
  /-- MOTOR_RELEASE (R120). -/
  | motorRelease
  /-- LOAD_TABLE_SCAN (R73). -/
  | loadTableScan
  /-- LOAD_TABLE_STROBE (R92). -/
  | loadTableStrobe
  /-- LOAD_TABLE_RAMP (R116). -/
  | loadTableRamp
  /-- LOAD_TABLE_PHASE (R117). -/
  | loadTablePhase
  /-- HEAD_CLASS (R91). -/
  | headClass
  /-- PAGE_QUERY (R21). -/
  | pageQuery
  /-- PAGE_QUERY_WRITE_END (R21). -/
  | pageQueryWriteEnd
  /-- PAGE_RELEASE (R20). -/
  | pageRelease
  /-- SENSOR_CONFIG (R143). -/
  | sensorConfig
  /-- EVENT_PRIORITY (R145). -/
  | eventPriority
  /-- EVENT_THRESHOLD (R147). -/
  | eventThreshold
  /-- POWER_RUN (R155). -/
  | powerRun
  /-- POWER_DOZE (R155). -/
  | powerDoze
  /-- POWER_SLEEP (R155). -/
  | powerSleep
  /-- STATUS_QUERY (R190). -/
  | statusQuery
  /-- CLEAR_FLAGS (R192). -/
  | clearFlags
  /-- ENGINE_RESET (R193). -/
  | engineReset
  /-- CONFIG_RELOAD (R175). -/
  | configReload
  /-- RELOAD_READ_END (R176). -/
  | reloadReadEnd
  /-- CONFIG_STORE (R177). -/
  | configStore
  /-- REPORT_WRITE_END (R186). -/
  | reportWriteEnd
  /-- CONSUMER_INDEX_WRITE_END (R182). -/
  | consumerIndexWriteEnd
  /-- ENTRY_FETCH_END (R30): the channel is the one whose fetch holds the grant. -/
  | entryFetchEnd
  /-- OPEN_WRITE (R35). -/
  | openWrite (ch : Channel)
  /-- OPEN_READ (R36). -/
  | openRead (ch : Channel)
  /-- LINES (R39). -/
  | lines (ch : Channel)
  /-- SET_PROCESSING (R42). -/
  | setProcessing (ch : Channel)
  /-- LINK_MOTOR (R43). -/
  | linkMotor (ch : Channel)
  /-- UNLINK (R44). -/
  | unlink (ch : Channel)
  /-- WAIT_LINE (R45). -/
  | waitLine (ch : Channel)
  /-- CLOSE_WRITER (R46). -/
  | closeWriter (ch : Channel)
  /-- CLOSE_READER (R47). -/
  | closeReader (ch : Channel)
  /-- MARK (R48). -/
  | mark (ch : Channel)
  /-- JUMP (R32). -/
  | jump (ch : Channel)
  /-- END_ENTRY (R49). -/
  | endEntry (ch : Channel)
  /-- UNKNOWN_ENTRY (R50). -/
  | unknownEntry (ch : Channel)
  /-- SLOT_HANDED (R7): the writer is the one whose wait began first. -/
  | slotHanded
  /-- PEER_PAGE_RESOLVED (R37). -/
  | peerPageResolved (ch : Channel)
  /-- WAIT_COMPLETE_END (R38). -/
  | waitCompleteEnd (ch : Channel)
  /-- WAIT_LINES_END (R15). -/
  | waitLinesEnd (ch : Channel)
  /-- WAIT_SPACE_END (R11). -/
  | waitSpaceEnd
  /-- WAIT_GATE_END (R45). -/
  | waitGateEnd (ch : Channel)
  /-- WAIT_LINE_TIMEOUT (R45). -/
  | waitLineTimeout (ch : Channel)
  /-- WAIT_MOTOR_END (R56). -/
  | waitMotorEnd (ch : Channel)
  /-- WAIT_TABLE_END (R42). -/
  | waitTableEnd
  /-- PAUSE_BOUNDARY_REACHED (R53). -/
  | pauseBoundaryReached (ch : Channel)
  /-- ABORT_BOUNDARY_REACHED (R54). -/
  | abortBoundaryReached (ch : Channel)
  /-- LINE_READ_END (R41): the channel is the one whose read holds the grant. -/
  | lineReadEnd
  /-- MOTOR_STEP (R125). -/
  | motorStep (m : MotorId)
  /-- HOLD_TIMER_EXPIRY (R114). -/
  | holdTimerExpiry (m : MotorId)
  /-- CAPTURE_END (R65): the 1728 samples of the capture, pixel 0 first. -/
  | captureEnd (samples : List Byte)
  /-- SCAN_WRITE_END (R66). -/
  | scanWriteEnd
  /-- SHIFT_LATCH_END (R86). -/
  | shiftLatchEnd
  /-- STROBE_PHASE_END (R87). -/
  | strobePhaseEnd
  /-- SCAN_TABLE_BURST_END (R74). -/
  | scanTableBurstEnd
  /-- STROBE_LOAD_END (R92). -/
  | strobeLoadEnd
  /-- RAMP_LOAD_END (R116). -/
  | rampLoadEnd
  /-- PHASE_LOAD_END (R117). -/
  | phaseLoadEnd
  /-- FRAME_SEND_START (R100), CTXR being active: what the coder offers with CRXV (R99, R106). -/
  | frameSendStart (crxv : CoderOffer)
  /-- FRAME_TAKEN (R100). -/
  | frameTaken
  /-- LINE_RECEIVED (R103): the 216 dot bytes of the frame. -/
  | lineReceived (dots : List Byte)
  /-- BAD_LINE_RECEIVED (R104). -/
  | badLineReceived
  /-- MALFORMED_FRAME (R104): the frame's length in bytes, its header counted. -/
  | malformedFrame (length : Nat)
  /-- PAGE_END_RECEIVED (R105). -/
  | pageEndReceived
  /-- UNSOLICITED_FRAME (R106): the frame's length in bytes, its header counted. -/
  | unsolicitedFrame (length : Nat)
  /-- CODE_IN_SLOT_WRITE_END (R103). -/
  | codeInSlotWriteEnd
  /-- CONCEALMENT_STORED (R104). -/
  | concealmentStored
  /-- CRSTN_PULSE_END (R109). -/
  | crstnPulseEnd
  /-- DEBOUNCE_LEVEL_CHANGE (R137) of line g. -/
  | debounceLevelChange (g : Fin 16)
  /-- DRAIN_TIMER_EXPIRY (R157). -/
  | drainTimerExpiry
  /-- DOZE_ENTRY (R158): the time the drain took, in units of 10 ms. -/
  | dozeEntry (drainTime : Nat)
  /-- SLEEP_ENTRY (R160). -/
  | sleepEntry
  /-- SLEEP_TIMER_EXPIRY (R162). -/
  | sleepTimerExpiry
  /-- SELF_REFRESH_EXIT_END (R163). -/
  | selfRefreshExitEnd
  /-- STORE_SOURCE_BURST_END (R178). -/
  | storeSourceBurstEnd
  /-- STORE_WORD_SHIFTED (R178). -/
  | storeWordShifted
  /-- EEPROM_READY (R178). -/
  | eepromReady
  /-- EEPROM_READY_TIMEOUT (R178). -/
  | eepromReadyTimeout
  /-- STORE_READBACK_END (R178): the word the EEPROM returns. -/
  | storeReadbackEnd (word : Word)
  /-- SENSOR_SAMPLE (R137): the levels of G0 to G15 (bit g). -/
  | sensorSample (lines : BitVec 16)
  /-- RECEIVE_FRAME_HEADER (R103): the header byte, whether the coder offered the frame while Code-in
  was not in a LINES entry (R106), and whether CTXR is active (R99). -/
  | receiveFrameHeader (header : Byte) (offeredOutside : Bool) (ctxr : Bool)
  /-- FRAME_CUT_SHORT_END (R108): the frame's length in bytes, its header counted. -/
  | frameCutShortEnd (length : Nat)
  /-- REFRESH_END (R23). -/
  | refreshEnd
  /-- PRODUCER_INDEX_WRITE_END (R186). -/
  | producerIndexWriteEnd
  /-- PAGE_QUERY_FIRST_WRITE_END (R21). -/
  | pageQueryFirstWriteEnd
  deriving DecidableEq, Repr

end Sys2Proof
end

