-- ==== Sys2Proof/WellFormed.lean ====
section
/-! DEFINITION. Which terms of `Instr` are steps the block can be given: operands inside the ranges
the book gives them. -/

namespace Sys2Proof

/-- The operand checks of a step: an EEPROM has 1024 words (00_scope.md, section 0.1), a capture 1728
samples (03 R59), a good LINE frame 216 dot bytes (05 R97), a frame at least its header (05 R98), and
a drain lasts at most 255 units of 10 ms (08 R153). -/
def Instr.wf : Instr → Bool
  | .hardReset _ (some rom) => decide (rom.length ≤ 1024)
  | .captureEnd samples => decide (samples.length = Config.dotsPerLine)
  | .lineReceived dots => decide (dots.length = Config.bytesPerLine)
  | .malformedFrame n => decide (1 ≤ n)
  | .unsolicitedFrame n => decide (1 ≤ n)
  | .frameCutShortEnd n => decide (1 ≤ n)
  | .dozeEntry t => decide (t ≤ 255)
  | _ => true

end Sys2Proof
end

