-- ==== Sys2Proof/Decode.lean ====
section
/-! DEFINITION. The decoder of table words. spec/opcode_table.json gives no row of this block any bits: a
command is an operation, not a word, so no word spells one. -/

namespace Sys2Proof

/-- The command that a word spells by the table's bits: none, the table giving no row a bit. -/
def decodeTableWord (_nbits _w : Nat) : Option Instr := none

end Sys2Proof
end

