-- ==== Sys2Proof/Machine/State.lean ====
section
/-! DEFINITION. The state of the EKV-416 as plain data, one structure for each block of
00_scope.md section 0.3, the queue of commands that are waiting, and the state right after reset. -/

namespace Sys2Proof.Machine

/-! ## DRAM and the DRAM port (01_page_memory.md, section 1.9) -/

/-- What an unlisted byte of DRAM reads as: the book gives DRAM no contents after power-on (09 R166).
DESIGN CHOICE, log 5. -/
def blankByte : Byte := 0x00

/-- The two line buffers of the scan path (03 R61). -/
inductive BufId where
  | bufA
  | bufB
  deriving DecidableEq, Repr

/-- What a grant of the DRAM port is for (01 R22). -/
inductive Job where
  /-- A refresh of one row. -/
  | refresh
  /-- The host memory cycle that is waiting. -/
  | hostWord
  /-- The record unit's read of a command. -/
  | commandFetch
  /-- The record unit's write of the report in writing. -/
  | reportWrite
  /-- The write of the report producer index, with the value it had at the grant (10 R186). -/
  | producerWord (value : Nat)
  /-- The write of the command consumer index. -/
  | consumerWord (value : Nat)
  /-- One of the two record writes of a page query result. -/
  | queryWrite (second : Bool)
  /-- A channel's chain entry fetch. -/
  | entryFetch (ch : Channel)
  /-- A reader's burst read of the line slot at an address. -/
  | lineRead (ch : Channel) (addr : Nat)
  /-- Scan's burst write of a buffer into the line slot at an address. -/
  | scanWrite (buf : BufId) (addr : Nat)
  /-- Code-in's burst write of the held line into the line slot at an address. -/
  | codeInWrite (addr : Nat)
  /-- A table loader burst of a LOAD TABLE: address and words. -/
  | tableBurst (addr : Nat) (words : Nat)
  /-- A table loader burst of a CONFIG STORE: address and words. -/
  | storeBurst (addr : Nat) (words : Nat)
  deriving DecidableEq, Repr

/-- The six requesters of the arbiter's rotation (01 R22, order 4). -/
inductive Requester where
  | recUnit
  | chan (ch : Channel)
  | loader
  deriving DecidableEq, Repr

/-- Whether the DRAM port serves DRAM (01 R23, 08 R160, R163, 09 R166). -/
inductive DramMode where
  /-- Before the DRAM stage: no refresh. -/
  | off
  | running
  /-- SLEEP entered, the grant in progress still ending (08 R160 step 2). -/
  | entering
  | selfRefresh
  /-- Leaving self-refresh at WAKE (08 R163 step 1). -/
  | leaving
  deriving DecidableEq, Repr

/-- The DRAM port. -/
structure DramPort where
  mode : DramMode
  /-- The grant in progress. -/
  busy : Option Job
  /-- Words of the burst in `busy` or `suspended` that have passed. -/
  done : Nat
  /-- The bytes a read burst has read so far. -/
  partialData : List Byte
  /-- The burst that stands while a host word or a refresh is served (01 R23). -/
  suspended : Option Job
  /-- The host word was waiting already when the burst in `busy` or `suspended` was granted, so it does not
  suspend it (01 R22, R23). -/
  hostHeld : Bool
  refreshDue : Bool
  /-- Requests that waited through self-refresh have not yet been served (08 R163 step 1, 01 R22). -/
  backlog : Bool
  /-- The requester last granted in order 4. -/
  rotation : Requester
  deriving DecidableEq, Repr

/-! ## Page memory (01) -/

/-- The geometry (01 section 1.1). -/
structure Geometry where
  dramSize : Nat
  cmdBase : Nat
  cmdSize : Nat
  repBase : Nat
  repSize : Nat
  idxBase : Nat
  bandBase : Nat
  bands : Nat
  guard : Bool
  deriving DecidableEq, Repr

inductive PageState where
  | empty
  | filling
  | complete
  deriving DecidableEq, Repr

/-- A page record (01 R5). First band, last band and bands held are views of `chain`. -/
structure Page where
  state : PageState
  /-- The generation number the book calls "instance". -/
  gen : Nat
  writer : Option Channel
  consume : Bool
  permitPrint : Bool
  permitCodeOut : Bool
  limit : Nat
  assigned : Nat
  stored : Nat
  chain : List Nat
  freed : Nat
  readPrint : Bool
  readCodeOut : Bool
  release : Bool
  truncated : Bool
  concealed : Nat
  deriving DecidableEq, Repr

/-- The page memory block. -/
structure PageMem where
  geo : Geometry
  lowMark : Nat
  /-- Lines used of each band (01 R2). -/
  used : List Nat
  /-- The free band list (01 R3). -/
  free : List Nat
  slots : Vector Page 16
  /-- The scan reservation (01 R13). -/
  r : Nat
  /-- The band-pool condition is LOW (01 R19). -/
  low : Bool
  staleRef : Bool
  taken : Word
  returned : Word
  /-- The writers in WAIT_SLOT, the one whose wait began first in front (01 R7). -/
  slotWait : List Channel
  deriving DecidableEq, Repr

/-- A page slot and the generation a reference names (01 R8). -/
structure PageRef where
  slot : Fin 16
  gen : Nat
  deriving DecidableEq, Repr

/-! ## Record unit (10) -/

inductive RecState where
  | waiting
  | fetching
  | executing
  | completing
  | advancing
  deriving DecidableEq, Repr

/-- The twelve tables of LOAD TABLE (10 R183). -/
inductive Table where
  | shading (bankB : Bool)
  | tone (bankB : Bool)
  | strobe
  | ramp (n : Fin 4)
  | phase (m : MotorId)
  deriving DecidableEq, Repr

/-- An accepted LOAD TABLE in flight (03 R73, R74). -/
structure Load where
  table : Table
  first : Nat
  count : Nat
  source : Nat
  /-- Entries loaded so far. -/
  got : Nat
  /-- Entries whose value the clamp changed. -/
  clamped : Nat
  deriving DecidableEq, Repr

/-- An accepted PAGE QUERY: destination, the 32-byte copy, the completion's result words (01 R21). -/
structure Query where
  dest : Nat
  data : List Byte
  result : List Nat
  /-- The first record write has ended. -/
  second : Bool
  deriving DecidableEq, Repr

/-- Work of the command in hand that goes on after its acceptance (10 R184). -/
inductive Work where
  | load (l : Load)
  | query (q : Query)
  | reload
  deriving DecidableEq, Repr

/-- The result codes (10 R185). -/
inductive ResultCode where
  | done
  | busy
  | badKind
  | badTarget
  | badAddress
  | badRange
  | stalePage
  | pageState
  | tableInvalid
  | tableBusy
  | motorBusy
  | motorLinked
  | powerPending
  | notQuiescent
  | romBusy
  | romInvalid
  deriving DecidableEq, Repr

/-- A completion waiting for its report slot (10 R183). -/
structure Completion where
  kind : Nat
  tag : Nat
  code : ResultCode
  /-- The result words at bytes 8, 10, 12 and 14. -/
  result : List Nat
  deriving DecidableEq, Repr

/-- Who a report being written comes from (10 R187). -/
inductive Producer where
  | completion
  | notice (ch : Channel) (final : Bool)
  | event
  | boot
  deriving DecidableEq, Repr

/-- The report the arbiter has in writing: its producer and its 16 bytes (11 R196). -/
structure Writing where
  who : Producer
  bytes : List Byte
  deriving DecidableEq, Repr

/-- The record unit. -/
structure RecordUnit where
  state : RecState
  consumer : Nat
  producer : Nat
  /-- The 16 bytes of the command in hand, as they stood at the fetch. -/
  command : Option (List Byte)
  work : Option Work
  completion : Option Completion
  writing : Option Writing
  /-- The write of the producer index word is asked for. -/
  producerAsk : Bool
  badKind : Bool
  badAddress : Bool
  stall : Bool
  completed : Word
  posted : Word
  deriving DecidableEq, Repr

/-! ## Line channels (02) -/

/-- The wait reasons (02 R29). -/
inductive Wait where
  | slot
  | space
  | page
  | complete
  | lines
  | gate
  | motor
  | table
  | device
  | report
  deriving DecidableEq, Repr

inductive ChState where
  | idle
  | running
  | waiting (w : Wait)
  | paused
  deriving DecidableEq, Repr

/-- The cause of a pause (02 R53). -/
inductive PauseCause where
  | command
  | line (g : Fin 16)
  deriving DecidableEq, Repr

inductive PauseReq where
  | pause (cause : PauseCause)
  | abort
  deriving DecidableEq, Repr

/-- The fault codes (02 R50). -/
inductive FaultCode where
  | badAddress
  | badEntry
  | badTarget
  | pageOpen
  | noPage
  | pageState
  | stalePage
  | notPermitted
  | readersFull
  | notLinked
  | linkTooFast
  | waitExpired
  deriving DecidableEq, Repr

/-- The trailing-edge option of a LINES entry (02 R40). -/
structure EdgeOption where
  line : Fin 16
  high : Bool
  tail : Nat
  deriving DecidableEq, Repr

/-- A chain entry as its fields decode (11 section 11.5). -/
inductive Entry where
  | openWrite (consume permitPrint permitCodeOut : Bool) (limit : Nat)
  | openRead (follow release peer : Bool) (slot gen scale : Nat)
  | lines (count : Nat) (edge : Option EdgeOption) (burst : Nat)
  | setProcessing (shadingB toneB : Bool) (mode threshold : Nat)
  | linkMotor (spl : Nat) (ramp : Fin 4) (top : Nat)
  | unlink
  | waitLine (line : Fin 16) (high : Bool) (timeout : Nat)
  | close
  | mark (value : Nat)
  | jump (target : Nat)
  | finish
  | unknown
  /-- The window's mark for a next entry whose address lies outside the general area (02 R30). -/
  | notFetched
  deriving DecidableEq, Repr

/-- An entry in the window and the address it was fetched from. -/
structure WinEntry where
  addr : Nat
  entry : Entry
  deriving DecidableEq, Repr

/-- How far the current entry has come: not begun, begun, or over with its notice not yet posted. -/
inductive Phase where
  | fresh
  | begun
  | ending
  deriving DecidableEq, Repr

/-- A fetch asked for: its address, whether it is fetched as the current entry, and whether it is the
target of a JUMP followed from the window (02 R32). -/
structure Fetch where
  addr : Nat
  asCurrent : Bool
  viaJump : Bool
  deriving DecidableEq, Repr

/-- The notice kinds with their data (02 R34). The entry address and the lines remaining of PAUSED are those of its
channel at the grant of its slot (11 R196). -/
inductive NoticeBody where
  | pageOpened
  | pageClosed (stored : Nat) (truncated : Bool) (concealed : Nat)
  | readShort (read count : Nat)
  | pageLimit (limit : Nat)
  | mark (value count : Nat)
  | paused (cause : PauseCause)
  | chainEnd (aborted : Bool) (addr : Nat)
  | chainFault (code : FaultCode) (addr : Nat)
  deriving DecidableEq, Repr

/-- A notice with its page, where it has one. -/
structure Notice where
  body : NoticeBody
  page : Option PageRef
  deriving DecidableEq, Repr

/-- A processing selection (02 R27, R42). -/
structure Selection where
  shadingB : Bool
  toneB : Bool
  diffuse : Bool
  threshold : Nat
  deriving DecidableEq, Repr

/-- A channel context (02 R27). Its link and the link's parameters are views of the motor's context:
`State.linkedMotor`, `State.linkSteps`, `State.linkRamp`, `State.linkTop`. -/
structure Chan where
  state : ChState
  pauseReq : Option PauseReq
  entryAddr : Nat
  current : Option WinEntry
  next : Option WinEntry
  phase : Phase
  fetch : Option Fetch
  remaining : Nat
  /-- `some k`: the trailing-edge event has occurred in this entry and k lines were assigned since. -/
  edge : Option Nat
  openPage : Option PageRef
  /-- The reference an OPEN READ resolved before it began to wait (02 R37, R38). -/
  resolved : Option PageRef
  position : Nat
  /-- A line read is asked for or in progress. -/
  reading : Bool
  sel : Selection
  scale : Nat
  scaleAcc : Nat
  releaseOnClose : Bool
  badRun : Nat
  held : Option Nat
  /-- The held line, when it was assigned, brought its page to the limit with lines of the entry remaining: the end
  of its frame ends the entry with PAGE LIMIT (05 R102). -/
  limitDue : Bool
  /-- An ABORT request has ended the channel's link (02 R54; log 67). -/
  linkCut : Bool
  notices : List Notice
  /-- Time left of a WAIT LINE entry in ms, 0 while no WAIT LINE has loaded it. -/
  waitTimer : Nat
  moved : Word
  posted : Word
  chainFault : Bool
  deriving DecidableEq, Repr

structure Chans where
  scan : Chan
  print : Chan
  codeOut : Chan
  codeIn : Chan
  deriving DecidableEq, Repr

/-! ## Scan path (03) -/

/-- Black dots in each of the four sections of a line (01 R14). -/
structure Counts where
  c0 : Nat
  c1 : Nat
  c2 : Nat
  c3 : Nat
  deriving DecidableEq, Repr

inductive BufState where
  | free
  | armed
  | capturing
  | ready
  | writing
  deriving DecidableEq, Repr

/-- A line buffer (03 R61). -/
structure LineBuf where
  state : BufState
  line : Nat
  page : PageRef
  addr : Nat
  sel : Selection
  tail : Bool
  dots : List Byte
  counts : Counts
  error : Int
  deriving DecidableEq, Repr

/-- The scan path (03 R61, R72). A shading entry is its black offset and its white gain. -/
structure ScanPath where
  /-- The sensor is BUSY. -/
  busy : Bool
  bufA : LineBuf
  bufB : LineBuf
  tLine : Nat
  /-- T_line as it stood when the last capture began (03 R59). -/
  captureTicks : Nat
  /-- Pulses of SSTART since power-on; the model's own count of an output, log 46. -/
  starts : Nat
  shadingA : List (Nat × Nat)
  shadingB : List (Nat × Nat)
  toneA : List Nat
  toneB : List Nat
  deriving DecidableEq, Repr

/-! ## Print path (04) -/

/-- A queued copy (04 R77). `cap = none` is the cap −1. -/
structure Copy where
  line : Nat
  index : Nat
  dots : List Byte
  counts : Counts
  phases : Nat
  width : Nat
  burn : Nat
  cap : Option Nat
  ended : Bool
  deriving DecidableEq, Repr

inductive HeadSeq where
  | idle
  | shifting
  | strobing (phase : Nat)
  | ended
  deriving DecidableEq, Repr

/-- The print path (04 R77). -/
structure PrintPath where
  queue : List Copy
  strobe : List Nat
  headClass : Nat
  dmax : Nat
  head : HeadSeq
  /-- Copies promised to the line whose read is in progress. -/
  readRequest : Option Nat
  /-- Abort clearing (04 R94): the final notice kept back until the queue is empty. -/
  clearing : Option Notice
  /-- Pulses of PLATN since power-on; the model's own count of an output, log 46. -/
  latches : Nat
  deriving DecidableEq, Repr

/-! ## Coder link (05) -/

inductive SendDir where
  | idle
  | offering
  | sending
  deriving DecidableEq, Repr

inductive RecvDir where
  | idle
  | ready
  | receiving
  | storing
  | discard
  deriving DecidableEq, Repr

/-- A frame toward the coder (05 R97). -/
inductive Frame where
  | line (concealed tail : Bool) (dots : List Byte)
  | pageEnd
  deriving DecidableEq, Repr

/-- The coder link (05 R96). -/
structure CoderLink where
  send : SendDir
  sendBuf : Option Frame
  bytesSent : Nat
  recv : RecvDir
  header : Byte
  rxDots : List Byte
  rxCounts : Counts
  bytesReceived : Nat
  /-- STORING writes a concealment copy, not a good line. -/
  conceal : Bool
  /-- DISCARD is of a frame that a Code-in fault cut short (05 R108). -/
  cutShort : Bool
  copyDots : List Byte
  copyCounts : Counts
  burstLimit : Nat
  burstReported : Bool
  /-- The direction that last used the data lines is RECEIVE. -/
  lastReceive : Bool
  unsolicited : Bool
  frameError : Bool
  badLines : Bool
  sent : Word
  received : Word
  /-- CRSTN is low. -/
  resetLow : Bool
  deriving DecidableEq, Repr

/-! ## Motor unit (06) -/

inductive MotorState where
  | off
  | hold
  | moving
  deriving DecidableEq, Repr

inductive Dir where
  | forward
  | reverse
  deriving DecidableEq, Repr

/-- A host move in force (06 R111), and whether MOTOR STOP RAMP shortened it (06 R121). -/
structure HostMove where
  dir : Dir
  ramp : Fin 4
  top : Nat
  shortened : Bool
  deriving DecidableEq, Repr

inductive HaltMode where
  | ramp
  | immediate
  deriving DecidableEq, Repr

inductive HaltCause where
  | command
  | line (g : Fin 16)
  deriving DecidableEq, Repr

structure Halt where
  mode : HaltMode
  cause : HaltCause
  deriving DecidableEq, Repr

/-- A link (06 R122): motor 0 to Scan, motor 1 to Print. `kLine` is used by Scan alone. -/
structure Link where
  spl : Nat
  ramp : Fin 4
  top : Nat
  kLine : Nat
  deriving DecidableEq, Repr

/-- A motor context (06 R111). `k = none` is the index −1 of a motor at rest. -/
structure Motor where
  state : MotorState
  k : Option Nat
  committed : Option Nat
  group : Nat
  move : Option HostMove
  remaining : Nat
  budget : Option Nat
  position : Int
  phase : Nat
  halted : Option Halt
  link : Option Link
  /-- Time left before auto-release in ms; `none` is stopped. -/
  holdTimer : Option Nat
  /-- The auto-release option with which the hold timer was loaded (06 R114). -/
  timerRelease : Bool
  /-- Hold time in units of 10 ms. -/
  holdTime : Nat
  autoRelease : Bool
  /-- The step intervals in use since the motor left rest (06 R115). -/
  run : List Nat
  /-- A RAMP halt's stop path is being run out, the cause being this (06 R133). -/
  rampPath : Option HaltCause
  /-- The committed step is due and held for the burn (04 R88). -/
  heldStep : Bool
  /-- MOVING from OFF, the first step not yet issued: the outputs are still off (06 R114). -/
  dark : Bool
  /-- Ticks from the last decision to the committed step (06 R125). -/
  due : Option Nat
  phaseTable : List (BitVec 4)
  phaseLen : Nat
  deriving DecidableEq, Repr

/-- The motor unit (06 R111, R135). -/
structure MotorUnit where
  m0 : Motor
  m1 : Motor
  m2 : Motor
  ramps : Vector (List Nat) 4
  haltedByAction : Bool
  steps : Word
  halts : Word
  deriving DecidableEq, Repr

/-! ## Sensor and event unit (07) -/

inductive GateMode where
  | edgeRise
  | edgeFall
  | edgeBoth
  | levelHigh
  | levelLow
  deriving DecidableEq, Repr

/-- The configured part of a gateway (07 R136). Bit m of the halt set is motor m, bit c of the pause
set channel c. -/
structure GateCfg where
  mode : GateMode
  debounce : Nat
  haltSet : BitVec 3
  haltMode : HaltMode
  pauseSet : BitVec 4
  wake : Bool
  deriving DecidableEq, Repr

structure Gateway where
  cfg : GateCfg
  /-- The filtered level is HIGH. -/
  high : Bool
  run : Nat
  armed : Bool
  deriving DecidableEq, Repr

/-- The event kinds (11 section 11.2). -/
inductive EventKind where
  | rise
  | fall
  | active
  | done
  | halted
  | low
  | ok
  | burst
  | storeDone
  | storeFailed
  | doze
  | resumed
  | abandoned
  | wake
  | frame
  | unsolicited
  deriving DecidableEq, Repr

/-- Reasons of motor events (06 R121). -/
inductive MotorReason where
  | complete
  | stopped
  | halt (cause : HaltCause)
  deriving DecidableEq, Repr

/-- The data of an event (07 R144). -/
inductive EventData where
  | level (high : Bool)
  | motor (position : Int) (reason : MotorReason)
  | word (value : Nat)
  | abandoned (sleep : Bool) (condition : Nat)
  deriving DecidableEq, Repr

structure PendingEvent where
  kind : EventKind
  data : EventData
  repeated : Bool
  deriving DecidableEq, Repr

structure Source where
  priority : Nat
  entry : Option PendingEvent
  deriving DecidableEq, Repr

/-- The sensor and event unit (07). -/
structure SensorUnit where
  gates : Vector Gateway 16
  sources : Vector Source 24
  threshold : Nat
  merged : Bool
  raises : Word
  posted : Word
  /-- Sampling has begun (07 R138). -/
  sampling : Bool
  /-- Groups sampled in SLEEP, bit n for group n (07 R150). -/
  groups : BitVec 4
  deriving DecidableEq, Repr

/-! ## Power unit (08) -/

inductive PowerState where
  | run
  | drain
  | doze
  | sleep
  | wake
  deriving DecidableEq, Repr

/-- The quiet states a drain can head for (08 R153). -/
inductive Quiet where
  | doze
  | sleep
  deriving DecidableEq, Repr

inductive WakeCause where
  | line (g : Fin 16)
  | timer
  deriving DecidableEq, Repr

/-- The power unit (08 R153). -/
structure PowerUnit where
  state : PowerState
  target : Option Quiet
  /-- ms; `none` is stopped. -/
  drainTimer : Option Nat
  drainLimit : Nat
  sleepTime : Nat
  /-- Seconds; `none` is stopped. -/
  sleepTimer : Option Nat
  wakeCause : Option WakeCause
  hclken : Bool
  abandoned : Word
  sleeps : Word
  deriving DecidableEq, Repr

/-! ## Start-up unit (09) -/

inductive Stage where
  | reset
  | probe
  | load
  | dram
  | tables
  | ready
  deriving DecidableEq, Repr

inductive RomStatus where
  | valid
  | blank
  | invalid
  | checksum
  | skipped
  deriving DecidableEq, Repr

/-- What the READY stage still has to do (09 R173). -/
inductive ReadyStep where
  /-- READY not reached. -/
  | none
  | report
  | producerWord
  | consumerWord
  | release
  /-- The host has been released. -/
  | released
  deriving DecidableEq, Repr

/-- A CONSTANTS section (09 section 9.2). -/
structure Constants where
  tLine : Nat
  dmax : Nat
  drainLimit : Nat
  lowMark : Nat
  hold0 : Nat × Bool
  hold1 : Nat × Bool
  hold2 : Nat × Bool
  deriving DecidableEq, Repr

/-- A PHASE section: the patterns and the sequence length. -/
structure PhaseCfg where
  patterns : List (BitVec 4)
  length : Nat
  deriving DecidableEq, Repr

/-- The sections decoded from an image (09 section 9.2), and the values clamped. -/
structure Sections where
  geometry : Option Geometry
  constants : Option Constants
  ramp0 : Option (List Nat)
  ramp1 : Option (List Nat)
  ramp2 : Option (List Nat)
  ramp3 : Option (List Nat)
  phase0 : Option PhaseCfg
  phase1 : Option PhaseCfg
  phase2 : Option PhaseCfg
  strobe : Option (List Nat)
  gateways : Option (List GateCfg)
  priorities : Option (List Nat)
  clamped : Nat
  deriving DecidableEq, Repr

/-- Where a CONFIG STORE stands (09 R178). -/
inductive StorePhase where
  /-- Its next source burst is to be read. -/
  | source
  /-- A word is being shifted to the EEPROM. -/
  | shifting
  /-- The EEPROM's ready is waited for. -/
  | waiting
  /-- The word is being read back. -/
  | readback
  deriving DecidableEq, Repr

/-- The store operation (09 R166). -/
structure StoreOp where
  addr : Nat
  count : Nat
  source : Nat
  /-- Index of the next word, 0..count. -/
  next : Nat
  /-- Source words read and not yet written, the next one in front. -/
  words : List Word
  phase : StorePhase
  deriving DecidableEq, Repr

/-- The start-up unit (09 R166). -/
structure BootUnit where
  stage : Stage
  cause : ResetCause
  rom : RomStatus
  version : Nat
  pendingConfig : Option Sections
  store : Option StoreOp
  romBlank : Bool
  romInvalid : Bool
  romChecksum : Bool
  romSkipped : Bool
  storeFail : Bool
  read : Word
  written : Word
  ready : ReadyStep
  deriving DecidableEq, Repr

/-! ## Host port (10, 01) -/

/-- A host memory cycle waiting with HWAITN low: its byte address and the word it writes. -/
structure HostCycle where
  addr : Nat
  write : Option Word
  /-- The host port has passed it to the arbiter (it is held unjudged while DRAM is not running). -/
  asked : Bool
  deriving DecidableEq, Repr

/-- The host port (10 R180, 01 R24). -/
structure HostPort where
  producer : Nat
  consumer : Nat
  unmapped : Bool
  guardDrop : Bool
  noGrant : Word
  attention : Word
  cycle : Option HostCycle
  /-- HD0 to HD15 as last driven for a read. -/
  data : Word
  deriving DecidableEq, Repr

/-! ## The machine -/

/-- The block, plain data. -/
structure State where
  mem : List Host.Cell
  port : DramPort
  page : PageMem
  recUnit : RecordUnit
  chans : Chans
  scan : ScanPath
  print : PrintPath
  coder : CoderLink
  motors : MotorUnit
  sensor : SensorUnit
  power : PowerUnit
  boot : BootUnit
  host : HostPort
  /-- The contents of the EEPROM (external, non-volatile). -/
  eeprom : List Word
  /-- The counter the free values are applied to. -/
  free : Nat
  /-- The commands that are waiting, first in, first out. -/
  pending : List Instr
  deriving DecidableEq, Repr

/-- No step of this model ends in a fault: the book describes every one of them (NOTES.md, Stops), and
a chain fault (02 R51) is a next state. The type has no constructor, so nobody raises one: safe. -/
inductive Fault where
  deriving DecidableEq, Repr

/-- Why a step has no meaning here. -/
inductive Refusal where
  /-- An arm of Dispatch.lean without a meaning; no arm raises it now. Safe: the run stops. -/
  | notModelled (mnemonic : String)
  deriving DecidableEq, Repr

/-! ## The state right after reset: the "After power-on" columns of the book -/

/-- The default geometry (01 section 1.1, 09 R170). -/
def Geometry.default : Geometry :=
  { dramSize := 0x100000, cmdBase := 0x00000, cmdSize := 64, repBase := 0x00400, repSize := 64,
    idxBase := 0x00800, bandBase := 0x80000, bands := 32, guard := false }

/-- A page slot before it is first opened (01 R5). -/
def Page.reset : Page :=
  { state := .empty, gen := 0, writer := none, consume := false, permitPrint := false,
    permitCodeOut := false, limit := 65535, assigned := 0, stored := 0, chain := [], freed := 0,
    readPrint := false, readCodeOut := false, release := false, truncated := false, concealed := 0 }

/-- Page memory's power-on values under a geometry (01 R2, R3, R13, R19, R26; 09 R171). -/
def PageMem.reset (g : Geometry) (lowMark : Nat) : PageMem :=
  { geo := g, lowMark, used := List.replicate g.bands 0, free := List.range g.bands,
    slots := Vector.replicate 16 Page.reset, r := 0, low := false, staleRef := false, taken := 0,
    returned := 0, slotWait := [] }

def DramPort.reset : DramPort :=
  { mode := .off, busy := none, done := 0, partialData := [], suspended := none, hostHeld := false,
    refreshDue := false, backlog := false, rotation := .loader }

def RecordUnit.reset : RecordUnit :=
  { state := .waiting, consumer := 0, producer := 0, command := none, work := none,
    completion := none, writing := none, producerAsk := false, badKind := false, badAddress := false,
    stall := false, completed := 0, posted := 0 }

/-- The selection of a channel that has executed no SET PROCESSING (02 R27). -/
def Selection.reset : Selection :=
  { shadingB := false, toneB := false, diffuse := false, threshold := 128 }

/-- The "After power-on" column of 02 R27. -/
def Chan.reset : Chan :=
  { state := .idle, pauseReq := none, entryAddr := 0, current := none, next := none, phase := .fresh,
    fetch := none, remaining := 0, edge := none, openPage := none, resolved := none, position := 1,
    reading := false, sel := Selection.reset, scale := 256, scaleAcc := 0, releaseOnClose := false,
    badRun := 0, held := none, limitDue := false, linkCut := false, notices := [], waitTimer := 0, moved := 0,
    posted := 0, chainFault := false }

def Counts.zero : Counts := ⟨0, 0, 0, 0⟩

/-- The dots of an all-white line. -/
def whiteDots : List Byte := List.replicate Config.bytesPerLine 0

/-- The "After power-on" column of 03 R61; the fields it gives no value are DESIGN CHOICE, log 9. -/
def LineBuf.reset : LineBuf :=
  { state := .free, line := 0, page := ⟨0, 0⟩, addr := 0, sel := Selection.reset, tail := false,
    dots := [], counts := Counts.zero, error := 0 }

/-- 03 R61, R72; T_line's default of 09 R170. -/
def ScanPath.reset : ScanPath :=
  { busy := false, bufA := LineBuf.reset, bufB := LineBuf.reset, tLine := 2500, captureTicks := 0, starts := 0,
    shadingA := List.replicate 1728 (0, 256), shadingB := List.replicate 1728 (0, 256),
    toneA := List.range 256, toneB := List.range 256 }

/-- 04 R77. -/
def PrintPath.reset : PrintPath :=
  { queue := [], strobe := List.replicate 8 500, headClass := 0, dmax := 432, head := .idle,
    readRequest := none, clearing := none, latches := 0 }

/-- 05 R96. -/
def CoderLink.reset : CoderLink :=
  { send := .idle, sendBuf := none, bytesSent := 0, recv := .idle, header := 0, rxDots := [],
    rxCounts := Counts.zero, bytesReceived := 0, conceal := false, cutShort := false,
    copyDots := whiteDots, copyCounts := Counts.zero, burstLimit := 0, burstReported := false,
    lastReceive := false, unsolicited := false, frameError := false, badLines := false, sent := 0,
    received := 0, resetLow := true }

/-- The two-phase sequence of length 4 of 06 R113, entries 4 to 7 repeating entries 0 to 3. -/
def PhaseCfg.default : PhaseCfg := { patterns := [3, 6, 12, 9, 3, 6, 12, 9], length := 4 }

/-- 06 R111, R114. -/
def Motor.reset : Motor :=
  { state := .off, k := none, committed := none, group := 0, move := none, remaining := 0,
    budget := none, position := 0, phase := 0, halted := none, link := none, holdTimer := none,
    timerRelease := false, holdTime := 50, autoRelease := true, run := [], rampPath := none,
    heldStep := false, dark := false, due := none,
    phaseTable := PhaseCfg.default.patterns, phaseLen := PhaseCfg.default.length }

/-- A ramp table without an image (06 R115). -/
def rampDefault : List Nat := [5000, 5000]

def MotorUnit.reset : MotorUnit :=
  { m0 := Motor.reset, m1 := Motor.reset, m2 := Motor.reset, ramps := Vector.replicate 4 rampDefault,
    haltedByAction := false, steps := 0, halts := 0 }

/-- A gateway's defaults (07 R136). -/
def GateCfg.default : GateCfg :=
  { mode := .edgeBoth, debounce := 3, haltSet := 0, haltMode := .ramp, pauseSet := 0, wake := false }

/-- 07 R136; the filtered level before the first sample is DESIGN CHOICE LOW, log 7. -/
def Gateway.reset : Gateway := { cfg := GateCfg.default, high := false, run := 0, armed := false }

/-- The default priority of a source (07 R145). -/
def defaultPriority (i : Nat) : Nat := if i < 16 then 0 else 4

def SensorUnit.reset : SensorUnit :=
  { gates := Vector.replicate 16 Gateway.reset,
    sources := (List.finRange 8).foldl
      (fun v i => v.set (16 + i.val) { priority := 4, entry := none })
      (Vector.replicate 24 { priority := 0, entry := none }),
    threshold := 0, merged := false, raises := 0, posted := 0, sampling := false, groups := 0 }

/-- 08 R153. -/
def PowerUnit.reset : PowerUnit :=
  { state := .run, target := none, drainTimer := none, drainLimit := 100, sleepTime := 0,
    sleepTimer := none, wakeCause := none, hclken := true, abandoned := 0, sleeps := 0 }

/-- 09 R166; the ROM status before PROBE and LOAD set it is DESIGN CHOICE, log 8. -/
def BootUnit.reset (cause : ResetCause) : BootUnit :=
  { stage := .reset, cause, rom := .valid, version := 0, pendingConfig := none, store := none,
    romBlank := false, romInvalid := false, romChecksum := false, romSkipped := false,
    storeFail := false, read := 0, written := 0, ready := .none }

def HostPort.reset : HostPort :=
  { producer := 0, consumer := 0, unmapped := false, guardDrop := false, noGrant := 0, attention := 0,
    cycle := none, data := 0 }

/-- Every block at its power-on values (09 R166): DRAM holds nothing that is listed, and the EEPROM
what it is given. -/
def State.powerOn (cause : ResetCause) (eeprom : List Word) (free : Nat) (pending : List Instr) :
    State :=
  { mem := [], port := DramPort.reset, page := PageMem.reset Geometry.default 4,
    recUnit := RecordUnit.reset,
    chans := { scan := Chan.reset, print := Chan.reset, codeOut := Chan.reset, codeIn := Chan.reset },
    scan := ScanPath.reset, print := PrintPath.reset, coder := CoderLink.reset,
    motors := MotorUnit.reset, sensor := SensorUnit.reset, power := PowerUnit.reset,
    boot := BootUnit.reset cause, host := HostPort.reset, eeprom, free, pending }

/-- The machine right after a power-on reset, with an erased EEPROM fitted (DESIGN CHOICE, log 6) and
nothing waiting. -/
def State.reset : State := State.powerOn .powerOn (List.replicate 1024 0xFFFF) 0 []

end Sys2Proof.Machine
end

