-- ==== Sys2Proof/Machine/Ops.lean ====
section
/-! DEFINITION. The named operations over DRAM and over the records of the state: every read and every
write of the meanings goes through these. -/

namespace Sys2Proof.Machine

/-! ## DRAM: one canonical list of cells (00 section 0.5, 01 section 1.1) -/

/-- The byte at an address. -/
def Memory.read : List Host.Cell → Nat → Byte
  | [], _ => blankByte
  | (k, v) :: rest, a => if k = a then v else Memory.read rest a

/-- The memory with one byte written; writing the blank byte removes the cell. -/
def Memory.write : List Host.Cell → Nat → Byte → List Host.Cell
  | [], a, b => if b = blankByte then [] else [(a, b)]
  | (k, v) :: rest, a, b =>
    if a < k then (if b = blankByte then (k, v) :: rest else (a, b) :: (k, v) :: rest)
    else if a = k then (if b = blankByte then rest else (a, b) :: rest)
    else (k, v) :: Memory.write rest a b

/-- The canonical form from address `lo` on: addresses strictly rising, no blank byte listed. -/
def Memory.wfFrom : Nat → List Host.Cell → Bool
  | _, [] => true
  | lo, (k, v) :: rest => decide (lo ≤ k) && decide (v ≠ blankByte) && Memory.wfFrom (k + 1) rest

/-- The canonical form of a memory. -/
def Memory.wf (m : List Host.Cell) : Bool := Memory.wfFrom 0 m

/-- `n` bytes from an address on. -/
def Memory.readBytes (m : List Host.Cell) (a : Nat) : Nat → List Byte
  | 0 => []
  | n + 1 => Memory.read m a :: Memory.readBytes m (a + 1) n

/-- The memory with a run of bytes written from an address on. -/
def Memory.writeBytes : List Host.Cell → Nat → List Byte → List Host.Cell
  | m, _, [] => m
  | m, a, b :: rest => Memory.writeBytes (Memory.write m a b) (a + 1) rest

/-! ## Little-endian fields (00 section 0.5, 11) -/

/-- A 16-bit field as two bytes, the low one first. -/
def le16 (n : Nat) : List Byte := [BitVec.ofNat 8 n, BitVec.ofNat 8 (n / 256)]

/-- A 32-bit field, the low word first. -/
def le32 (n : Nat) : List Byte := le16 n ++ le16 (n / 65536)

/-- The byte at offset `i` of a record. -/
def byteAt (bs : List Byte) (i : Nat) : Nat := (bs.getD i 0).toNat

/-- The 16-bit field at offset `i` of a record. -/
def wordAt (bs : List Byte) (i : Nat) : Nat := byteAt bs i + 256 * byteAt bs (i + 1)

/-- The 32-bit field at offset `i` of a record. -/
def dwordAt (bs : List Byte) (i : Nat) : Nat := wordAt bs i + 65536 * wordAt bs (i + 2)

/-- Bit `i` of a field. -/
def bitOf (n i : Nat) : Bool := n / 2 ^ i % 2 == 1

/-- A flag as the bit of weight `w`. -/
def flag (b : Bool) (w : Nat) : Nat := if b then w else 0

/-- A value clamped to a range (00 section 0.5, "clamped to a..b"). -/
def clamp (lo hi n : Nat) : Nat := max lo (min hi n)

/-! ## The areas of DRAM (01 R1) -/

/-- Address of line slot `m` of band `b`. -/
def Geometry.slotAddr (g : Geometry) (b m : Nat) : Nat := g.bandBase + 16384 * b + 256 * m

/-- Whether two byte ranges [a, a + n) and [b, b + m) have no byte in common. -/
def disjointRanges (a n b m : Nat) : Bool := decide (a + n ≤ b) || decide (b + m ≤ a)

/-- Whether the `n` bytes from `a` on lie wholly in the general area (01 R1). -/
def Geometry.inGeneral (g : Geometry) (a n : Nat) : Bool :=
  decide (a + n ≤ g.dramSize) && disjointRanges a n g.cmdBase (16 * g.cmdSize) &&
    disjointRanges a n g.repBase (16 * g.repSize) && disjointRanges a n g.idxBase 4 &&
    disjointRanges a n g.bandBase (16384 * g.bands)

/-- Whether a byte address lies in the band area (01 R1). -/
def Geometry.inBands (g : Geometry) (a : Nat) : Bool :=
  decide (g.bandBase ≤ a) && decide (a < g.bandBase + 16384 * g.bands)

/-- A 16-byte aligned source, destination or entry whose `n` bytes lie in the general area. -/
def Geometry.goodSource (g : Geometry) (a n : Nat) : Bool := decide (a % 16 = 0) && g.inGeneral a n

/-! ## Access to the records of the state -/

/-- The context of a line channel. -/
def State.chan (s : State) : Channel → Chan
  | .scan => s.chans.scan
  | .print => s.chans.print
  | .codeOut => s.chans.codeOut
  | .codeIn => s.chans.codeIn

/-- The contexts with one of them replaced. -/
def Chans.set (cs : Chans) (ch : Channel) (c : Chan) : Chans :=
  match ch with
  | .scan => { cs with scan := c }
  | .print => { cs with print := c }
  | .codeOut => { cs with codeOut := c }
  | .codeIn => { cs with codeIn := c }

/-- The state with one channel context replaced. -/
def State.setChan (s : State) (ch : Channel) (c : Chan) : State :=
  { s with chans := s.chans.set ch c }

/-- The context of a motor. -/
def State.motor (s : State) : MotorId → Motor
  | .m0 => s.motors.m0
  | .m1 => s.motors.m1
  | .m2 => s.motors.m2

/-- The motor unit with one context replaced. -/
def MotorUnit.set (u : MotorUnit) (m : MotorId) (x : Motor) : MotorUnit :=
  match m with
  | .m0 => { u with m0 := x }
  | .m1 => { u with m1 := x }
  | .m2 => { u with m2 := x }

/-- The state with one motor context replaced. -/
def State.setMotor (s : State) (m : MotorId) (x : Motor) : State :=
  { s with motors := s.motors.set m x }

/-- The record of a page slot. -/
def State.slot (s : State) (i : Fin 16) : Page := s.page.slots[i]

/-- The state with one page record replaced. -/
def State.setSlot (s : State) (i : Fin 16) (p : Page) : State :=
  { s with page := { s.page with slots := s.page.slots.set i.val p i.isLt } }

/-- The gateway of a sensor line. -/
def State.gate (s : State) (g : Fin 16) : Gateway := s.sensor.gates[g]

/-- The state with one gateway replaced. -/
def State.setGate (s : State) (g : Fin 16) (x : Gateway) : State :=
  { s with sensor := { s.sensor with gates := s.sensor.gates.set g.val x g.isLt } }

/-- The record of an event source. -/
def State.source (s : State) (i : Fin 24) : Source := s.sensor.sources[i]

/-- The state with one source record replaced. -/
def State.setSource (s : State) (i : Fin 24) (x : Source) : State :=
  { s with sensor := { s.sensor with sources := s.sensor.sources.set i.val x i.isLt } }

/-- The intervals of a ramp table. -/
def State.ramp (s : State) (n : Fin 4) : List Nat := s.motors.ramps[n]

/-- The state with one ramp table replaced. -/
def State.setRamp (s : State) (n : Fin 4) (t : List Nat) : State :=
  { s with motors := { s.motors with ramps := s.motors.ramps.set n.val t n.isLt } }

/-- A line buffer of the scan path. -/
def State.buf (s : State) : BufId → LineBuf
  | .bufA => s.scan.bufA
  | .bufB => s.scan.bufB

/-- The other line buffer. -/
def BufId.other : BufId → BufId
  | .bufA => .bufB
  | .bufB => .bufA

/-- The state with one line buffer replaced. -/
def State.setBuf (s : State) (b : BufId) (x : LineBuf) : State :=
  match b with
  | .bufA => { s with scan := { s.scan with bufA := x } }
  | .bufB => { s with scan := { s.scan with bufB := x } }

/-- The sixteen page slots, sensor lines and the twenty-four sources, in ascending order. -/
def ids16 : List (Fin 16) := List.finRange 16

/-- The event sources in ascending order. -/
def ids24 : List (Fin 24) := List.finRange 24

/-- The channels in channel order. -/
def allChannels : List Channel := [.scan, .print, .codeOut, .codeIn]

/-- The motors in motor order. -/
def allMotors : List MotorId := [.m0, .m1, .m2]

/-! ## Numbers of channels and motors (00 section 0.5) -/

/-- The number of a channel. -/
def chanNumber : Channel → Nat
  | .scan => 0
  | .print => 1
  | .codeOut => 2
  | .codeIn => 3

/-- The channel of a number. -/
def chanOf (n : Nat) : Option Channel :=
  match n with
  | 0 => some .scan
  | 1 => some .print
  | 2 => some .codeOut
  | 3 => some .codeIn
  | _ => none

/-- The number of a motor. -/
def motorNumber : MotorId → Nat
  | .m0 => 0
  | .m1 => 1
  | .m2 => 2

/-- The motor of a number. -/
def motorOf (n : Nat) : Option MotorId :=
  match n with
  | 0 => some .m0
  | 1 => some .m1
  | 2 => some .m2
  | _ => none

/-- Writers put lines into pages (00 section 0.5). -/
def isWriter : Channel → Bool
  | .scan => true
  | .print => false
  | .codeOut => false
  | .codeIn => true

/-- The motor a channel can be linked to (02 R43). -/
def motorFor : Channel → Option MotorId
  | .scan => some .m0
  | .print => some .m1
  | .codeOut => none
  | .codeIn => none

/-- The channel a motor can be linked to. -/
def chanFor : MotorId → Option Channel
  | .m0 => some .scan
  | .m1 => some .print
  | .m2 => none

/-- The event source of a motor (06 R121). -/
def motorSource : MotorId → Fin 24
  | .m0 => 16
  | .m1 => 17
  | .m2 => 18

/-- The event source of a sensor line (07 R144). -/
def lineSource (g : Fin 16) : Fin 24 := ⟨g.val, by omega⟩

/-- A page slot number in range. -/
def slotOf (n : Nat) : Option (Fin 16) := if h : n < 16 then some ⟨n, h⟩ else none

/-- A sensor line number in range. -/
def lineOf (n : Nat) : Option (Fin 16) := if h : n < 16 then some ⟨n, h⟩ else none

/-- An event source number in range. -/
def sourceOf (n : Nat) : Option (Fin 24) := if h : n < 24 then some ⟨n, h⟩ else none

/-- The host has been released and the part is at work (09 R173 step 3, R174). -/
def State.atReady (s : State) : Bool := s.boot.ready == .released

/-- A step whose condition does not hold in a state does not take place: the state stays as it is.
DESIGN CHOICE, log 1. -/
def stepIf (due : Bool) (s next : State) : Host.Outcome State Fault Refusal :=
  .next (if due then next else s)

end Sys2Proof.Machine
end

