-- ==== Sys2Proof/Machine/Operands.lean ====
section
/-! DEFINITION. The record layouts of 11_record_layouts.md: the codes, the fields of command records
and chain entries as the part reads them, and the bytes of every record the part writes. -/

namespace Sys2Proof.Machine

/-! ## Codes (11 section 11.2) -/

def ResultCode.code : ResultCode → Nat
  | .done => 0
  | .busy => 1
  | .badKind => 2
  | .badTarget => 3
  | .badAddress => 4
  | .badRange => 5
  | .stalePage => 6
  | .pageState => 7
  | .tableInvalid => 8
  | .tableBusy => 9
  | .motorBusy => 10
  | .motorLinked => 11
  | .powerPending => 12
  | .notQuiescent => 13
  | .romBusy => 14
  | .romInvalid => 15

def FaultCode.code : FaultCode → Nat
  | .badAddress => 1
  | .badEntry => 2
  | .badTarget => 3
  | .pageOpen => 4
  | .noPage => 5
  | .pageState => 6
  | .stalePage => 7
  | .notPermitted => 8
  | .readersFull => 9
  | .notLinked => 10
  | .linkTooFast => 11
  | .waitExpired => 12

def EventKind.code : EventKind → Nat
  | .rise => 1
  | .fall => 2
  | .active => 3
  | .done => 4
  | .halted => 5
  | .low => 6
  | .ok => 7
  | .burst => 8
  | .storeDone => 9
  | .storeFailed => 10
  | .doze => 11
  | .resumed => 12
  | .abandoned => 13
  | .wake => 14
  | .frame => 15
  | .unsolicited => 16

def PowerState.code : PowerState → Nat
  | .run => 0
  | .drain => 1
  | .doze => 2
  | .sleep => 3
  | .wake => 4

def Wait.code : Wait → Nat
  | .slot => 0
  | .space => 1
  | .page => 2
  | .complete => 3
  | .lines => 4
  | .gate => 5
  | .motor => 6
  | .table => 7
  | .device => 8
  | .report => 9

/-- Bits 0 and 1 the state, bits 2 to 5 the wait reason (11 section 11.4). -/
def ChState.code : ChState → Nat
  | .idle => 0
  | .running => 1
  | .waiting w => 2 + 4 * w.code
  | .paused => 3

def MotorState.code : MotorState → Nat
  | .off => 0
  | .hold => 1
  | .moving => 2

def SendDir.code : SendDir → Nat
  | .idle => 0
  | .offering => 1
  | .sending => 2

def RecvDir.code : RecvDir → Nat
  | .idle => 0
  | .ready => 1
  | .receiving => 2
  | .storing => 3
  | .discard => 4

def RomStatus.code : RomStatus → Nat
  | .valid => 0
  | .blank => 1
  | .invalid => 2
  | .checksum => 3
  | .skipped => 4

def resetCauseCode : ResetCause → Nat
  | .powerOn => 0
  | .pin => 1

def PageState.code : PageState → Nat
  | .empty => 0
  | .filling => 1
  | .complete => 2

/-- Gateway mode codes; none above 4 is a mode (07 R136). -/
def gateModeOf (n : Nat) : Option GateMode :=
  match n with
  | 0 => some .edgeRise
  | 1 => some .edgeFall
  | 2 => some .edgeBoth
  | 3 => some .levelHigh
  | 4 => some .levelLow
  | _ => none

/-- The table a selector names (11 section 11.2). -/
def tableOf (n : Nat) : Option Table :=
  match n with
  | 0 => some (.shading false)
  | 1 => some (.shading true)
  | 2 => some (.tone false)
  | 3 => some (.tone true)
  | 4 => some .strobe
  | 5 => some (.ramp 0)
  | 6 => some (.ramp 1)
  | 7 => some (.ramp 2)
  | 8 => some (.ramp 3)
  | 9 => some (.phase .m0)
  | 10 => some (.phase .m1)
  | 11 => some (.phase .m2)
  | _ => none

/-! ## Command records (11 section 11.3) -/

/-- The command kind, word 0. -/
def cmdKind (bs : List Byte) : Nat := wordAt bs 0

/-- The tag, the word at byte 2. -/
def cmdTag (bs : List Byte) : Nat := wordAt bs 2

/-! ## Chain entries (11 section 11.5, 11 R195) -/

/-- The fields of a fetched chain entry, clamped where its rule clamps them (10 R185). -/
def Entry.decode (bs : List Byte) : Entry :=
  let w2 := wordAt bs 2
  let w4 := wordAt bs 4
  let w6 := wordAt bs 6
  let w8 := wordAt bs 8
  match wordAt bs 0 with
  | 1 => .openWrite (bitOf w2 0) (bitOf w2 1) (bitOf w2 2) (if w4 = 0 then 65535 else w4)
  | 2 => .openRead (bitOf w2 0) (bitOf w2 1) (bitOf w2 2) w4 w6 (clamp 64 1024 w8)
  | 3 =>
    .lines w2
      (if bitOf w4 0 then
        some { line := Fin.ofNat 16 (w4 / 256), high := bitOf w4 1, tail := w6 % 256 }
      else none)
      (w8 % 256)
  | 4 => .setProcessing (bitOf w2 0) (bitOf w4 0) w6 (w8 % 256)
  | 5 => .linkMotor (clamp 1 8 w2) (Fin.ofNat 4 w4) w6
  | 6 => .unlink
  | 7 => .waitLine (Fin.ofNat 16 w2) (bitOf w4 0) (max 1 w6)
  | 8 => .close
  | 9 => .mark w2
  | 10 => .jump (dwordAt bs 4)
  | 11 => .finish
  | _ => .unknown

/-! ## Report records (11 section 11.4) -/

/-- Eight result bytes from at most four words. -/
def resultBytes (ws : List Nat) : List Byte :=
  le16 (ws.getD 0 0) ++ le16 (ws.getD 1 0) ++ le16 (ws.getD 2 0) ++ le16 (ws.getD 3 0)

/-- A completion. Byte 1 is the low byte of the kind as read (log 24). -/
def Completion.bytes (c : Completion) : List Byte :=
  [1, BitVec.ofNat 8 c.kind] ++ le16 c.tag ++ [BitVec.ofNat 8 c.code.code, 0, 0, 0] ++
    resultBytes c.result

/-- The slot and generation bytes of a notice, 0xFF where it has no page. -/
def pageBytes : Option PageRef → List Byte
  | none => [0xFF, 0xFF]
  | some p => [BitVec.ofNat 8 p.slot.val, BitVec.ofNat 8 p.gen]

/-- The code of a notice kind. -/
def NoticeBody.code : NoticeBody → Nat
  | .pageOpened => 1
  | .pageClosed .. => 2
  | .readShort .. => 3
  | .pageLimit .. => 4
  | .mark .. => 5
  | .paused .. => 6
  | .chainEnd .. => 7
  | .chainFault .. => 8

/-- The cause word of PAUSED. -/
def PauseCause.code : PauseCause → Nat
  | .command => 0xFFFF
  | .line g => g.val

/-- The ten data bytes of a notice. Those of PAUSED carry the entry address `addr` and the lines remaining `left` that
its channel has at the grant of the slot (R196; log 62). -/
def NoticeBody.data (addr left : Nat) : NoticeBody → List Byte
  | .pageOpened => le32 0 ++ le32 0 ++ le16 0
  | .pageClosed n t c => le16 n ++ le16 (flag t 1) ++ le16 c ++ le32 0
  | .readShort n c => le16 n ++ le16 c ++ le32 0 ++ le16 0
  | .pageLimit l => le16 l ++ le32 0 ++ le32 0
  | .mark v n => le16 v ++ le16 n ++ le32 0 ++ le16 0
  | .paused c => le16 c.code ++ le32 addr ++ le16 left ++ le16 0
  | .chainEnd f a => le16 (flag f 1) ++ le32 a ++ le32 0
  | .chainFault c a => le16 c.code ++ le32 a ++ le32 0

/-- A notice of a channel, whose context is `c` at the grant of its slot. -/
def Notice.bytes (ch : Channel) (c : Chan) (n : Notice) : List Byte :=
  [2, BitVec.ofNat 8 (chanNumber ch)] ++ le16 n.body.code ++ pageBytes n.page ++
    n.body.data c.entryAddr c.remaining

/-- The final notices of a chain: its channel becomes IDLE when one is posted (02 R28). -/
def Notice.final (n : Notice) : Bool :=
  match n.body with
  | .chainEnd .. => true
  | .chainFault .. => true
  | _ => false

/-- A signed position in 32 bits. -/
def positionBytes (p : Int) : List Byte := le32 (p % 4294967296).toNat

/-- The reason byte and the line byte of a motor event. -/
def MotorReason.bytes : MotorReason → List Byte
  | .complete => [0, 0]
  | .stopped => [1, 0]
  | .halt .command => [2, 0]
  | .halt (.line g) => [3, BitVec.ofNat 8 g.val]

/-- The ten data bytes of an event. -/
def EventData.bytes : EventData → List Byte
  | .level h => le16 (flag h 1) ++ le32 0 ++ le32 0
  | .motor p r => positionBytes p ++ r.bytes ++ le32 0
  | .word v => le16 v ++ le32 0 ++ le32 0
  | .abandoned sleep c =>
    [if sleep then 3 else 2, BitVec.ofNat 8 c] ++ le32 0 ++ le32 0

/-- An EVENT record. -/
def eventBytes (src : Fin 24) (priority : Nat) (e : PendingEvent) : List Byte :=
  [3, BitVec.ofNat 8 src.val] ++ le16 e.kind.code ++
    [BitVec.ofNat 8 priority, if e.repeated then 1 else 0] ++ e.data.bytes

/-- The BOOT report (09 R173 step 1). -/
def bootBytes (b : BootUnit) (g : Geometry) : List Byte :=
  [4, 0] ++ le16 (resetCauseCode b.cause) ++ [BitVec.ofNat 8 b.rom.code, 0] ++ le16 b.version ++
    le16 0x0416 ++ le16 1 ++ le16 g.bands ++ le16 (g.dramSize / 1048576)

/-! ## Line slot and page query result (11 section 11.6) -/

/-- The 256 bytes of a line slot: dots, trailer, zeros (01 R14, 11 R196). -/
def slotBytes (dots : List Byte) (c : Counts) (concealed tail : Bool) (n : Nat) : List Byte :=
  dots ++ le16 c.c0 ++ le16 c.c1 ++ le16 c.c2 ++ le16 c.c3 ++
    le16 (flag concealed 1 + flag tail 2) ++ le16 n ++ List.replicate 28 0

/-- The section counts of a slot's trailer. -/
def trailerCounts (bs : List Byte) : Counts :=
  ⟨wordAt bs 216, wordAt bs 218, wordAt bs 220, wordAt bs 222⟩

/-- A band index of a page query result, 0xFF for none. -/
def bandByte : Option Nat → Byte
  | none => 0xFF
  | some b => BitVec.ofNat 8 b

/-- The 32 bytes of a page query result. -/
def queryBytes (i : Fin 16) (p : Page) : List Byte :=
  [BitVec.ofNat 8 p.state.code, BitVec.ofNat 8 p.gen,
    match p.writer with
    | some ch => BitVec.ofNat 8 (chanNumber ch)
    | none => 0xFF,
    BitVec.ofNat 8 (flag p.consume 1 + flag p.permitPrint 2 + flag p.permitCodeOut 4),
    BitVec.ofNat 8 (flag p.readPrint 2 + flag p.readCodeOut 4),
    BitVec.ofNat 8 (flag p.release 1 + flag p.truncated 2)] ++
  le16 p.limit ++ le16 p.assigned ++ le16 p.stored ++ le16 p.freed ++ le16 p.concealed ++
  [bandByte p.chain.head?, bandByte p.chain.getLast?] ++ le16 p.chain.length ++ le16 i.val ++
  List.replicate 10 0

end Sys2Proof.Machine
end

