-- ==== Sys2Proof/Machine/Flags.lean ====
section
/-! DEFINITION. The sticky error flags, the block states and the block counters that STATUS QUERY
returns and CLEAR FLAGS clears (10 R190, R191, R192; bits in the order of the Flags column, 11 section
11.2). -/

namespace Sys2Proof.Machine

/-- Unread count of the report ring (R186). -/
def State.unread (s : State) : Nat :=
  (s.recUnit.producer + s.page.geo.repSize - s.host.consumer) % s.page.geo.repSize

/-- The report ring is full (R186). -/
def State.ringFull (s : State) : Bool :=
  decide ((s.recUnit.producer + 1) % s.page.geo.repSize = s.host.consumer)

/-- The entries of the pending set (R146). -/
def State.pendingCount (s : State) : Nat :=
  (ids24.filter fun i => (s.source i).entry.isSome).length

/-- The channel a block number stands for (R190). -/
def blockChan (b : Nat) : Option Channel := if 2 ≤ b then chanOf (b - 2) else none

/-- The flag bits of a block (R190). -/
def State.blockFlags (s : State) (b : Nat) : Nat :=
  match b with
  | 0 => flag s.recUnit.badKind 1 + flag s.recUnit.badAddress 2 + flag s.recUnit.stall 4
  | 1 => flag s.page.staleRef 1
  | 2 => flag s.chans.scan.chainFault 1
  | 3 => flag s.chans.print.chainFault 1
  | 4 => flag s.chans.codeOut.chainFault 1
  | 5 => flag s.chans.codeIn.chainFault 1
  | 6 => flag s.motors.haltedByAction 1
  | 7 => flag s.sensor.merged 1
  | 8 => flag s.coder.unsolicited 1 + flag s.coder.frameError 2 + flag s.coder.badLines 4
  | 10 =>
    flag s.boot.romBlank 1 + flag s.boot.romInvalid 2 + flag s.boot.romChecksum 4 +
      flag s.boot.romSkipped 8 + flag s.boot.storeFail 16
  | 11 => flag s.host.unmapped 1 + flag s.host.guardDrop 2
  | _ => 0

/-- A flag after CLEAR FLAGS with bit `i` of the set `m`. -/
def keepFlag (m i : Nat) (f : Bool) : Bool := f && !bitOf m i

/-- The state with the named flags of a block cleared (R192). -/
def State.clearBlock (s : State) (b m : Nat) : State :=
  match b with
  | 0 =>
    { s with recUnit :=
        { s.recUnit with
          badKind := keepFlag m 0 s.recUnit.badKind
          badAddress := keepFlag m 1 s.recUnit.badAddress
          stall := keepFlag m 2 s.recUnit.stall } }
  | 1 => { s with page := { s.page with staleRef := keepFlag m 0 s.page.staleRef } }
  | 6 =>
    { s with motors := { s.motors with haltedByAction := keepFlag m 0 s.motors.haltedByAction } }
  | 7 => { s with sensor := { s.sensor with merged := keepFlag m 0 s.sensor.merged } }
  | 8 =>
    { s with coder :=
        { s.coder with
          unsolicited := keepFlag m 0 s.coder.unsolicited
          frameError := keepFlag m 1 s.coder.frameError
          badLines := keepFlag m 2 s.coder.badLines } }
  | 10 =>
    { s with boot :=
        { s.boot with
          romBlank := keepFlag m 0 s.boot.romBlank
          romInvalid := keepFlag m 1 s.boot.romInvalid
          romChecksum := keepFlag m 2 s.boot.romChecksum
          romSkipped := keepFlag m 3 s.boot.romSkipped
          storeFail := keepFlag m 4 s.boot.storeFail } }
  | 11 =>
    { s with host :=
        { s.host with
          unmapped := keepFlag m 0 s.host.unmapped
          guardDrop := keepFlag m 1 s.host.guardDrop } }
  | _ =>
    match blockChan b with
    | some ch =>
      s.setChan ch { s.chan ch with chainFault := keepFlag m 0 (s.chan ch).chainFault }
    | none => s

/-- The block state byte (R190, 11 section 11.4). -/
def State.blockState (s : State) (b : Nat) : Nat :=
  match b with
  | 0 => s.unread
  | 1 => s.page.free.length
  | 2 => s.chans.scan.state.code
  | 3 => s.chans.print.state.code
  | 4 => s.chans.codeOut.state.code
  | 5 => s.chans.codeIn.state.code
  | 6 => s.motors.m0.state.code + 4 * s.motors.m1.state.code + 16 * s.motors.m2.state.code
  | 7 => s.pendingCount
  | 8 => s.coder.send.code + 4 * s.coder.recv.code
  | 9 => s.power.state.code
  | 10 => s.boot.rom.code
  | _ => 0

/-- The two block counters (R190). -/
def State.blockCounters (s : State) (b : Nat) : Word × Word :=
  match b with
  | 0 => (s.recUnit.completed, s.recUnit.posted)
  | 1 => (s.page.taken, s.page.returned)
  | 2 => (s.chans.scan.moved, s.chans.scan.posted)
  | 3 => (s.chans.print.moved, s.chans.print.posted)
  | 4 => (s.chans.codeOut.moved, s.chans.codeOut.posted)
  | 5 => (s.chans.codeIn.moved, s.chans.codeIn.posted)
  | 6 => (s.motors.steps, s.motors.halts)
  | 7 => (s.sensor.raises, s.sensor.posted)
  | 8 => (s.coder.sent, s.coder.received)
  | 9 => (s.power.abandoned, s.power.sleeps)
  | 10 => (s.boot.read, s.boot.written)
  | 11 => (s.host.noGrant, s.host.attention)
  | _ => (0, 0)

/-- The block status record as the result words of a completion (R190, 11 section 11.4); the block
version is 1. -/
def State.statusRecord (s : State) (b : Nat) : List Nat :=
  [b + 16 + 256 * (s.blockState b % 256), s.blockFlags b, (s.blockCounters b).1.toNat,
    (s.blockCounters b).2.toNat]

end Sys2Proof.Machine
end

