-- ==== Sys2Proof/Machine/Pages.lean ====
section
/-! DEFINITION. Raising events (07 R146), the band-pool test (01 R19) and the operations of page memory
on bands, pages and readers (01_page_memory.md). -/

namespace Sys2Proof.Machine

/-- A raise of a source is handed to the pending set (R146, R152). -/
def State.raise (s : State) (i : Fin 24) (kind : EventKind) (data : EventData) : State :=
  let src := s.source i
  let s1 := { s with sensor := { s.sensor with raises := s.sensor.raises + 1 } }
  if src.priority = 0 then s1
  else
    match src.entry with
    | none => s1.setSource i { src with entry := some { kind, data, repeated := false } }
    | some _ =>
      let s2 := s1.setSource i { src with entry := some { kind, data, repeated := true } }
      { s2 with sensor := { s2.sensor with merged := true } }

/-- The free count F (R3). -/
def State.freeCount (s : State) : Nat := s.page.free.length

/-- The unreserved free count F − r (R11). -/
def State.unreserved (s : State) : Nat := s.freeCount - s.page.r

/-- The band-pool test, made after every change of F, r or the low mark (R19). -/
def State.poolTest (s : State) : State :=
  if s.page.low then
    if s.page.lowMark ≤ s.unreserved then
      { s with page := { s.page with low := false } }.raise 19 .ok (.word s.unreserved)
    else s
  else if s.unreserved < s.page.lowMark then
    { s with page := { s.page with low := true } }.raise 19 .low (.word s.unreserved)
  else s

/-- Page memory sets the scan reservation (R13). -/
def State.reserve (s : State) (v : Nat) : State :=
  { s with page := { s.page with r := if v ≤ s.page.r then v else min v s.freeCount } }.poolTest

/-! ## Views of the band records (R2, R5; log 36) -/

/-- The page slot that holds a band, `none` for a FREE band. -/
def State.bandSlot (s : State) (b : Nat) : Option (Fin 16) :=
  ids16.find? fun i => (s.slot i).chain.contains b

/-- The element that follows a value in a list. -/
def nextIn : List Nat → Nat → Option Nat
  | a :: b :: rest, x => if a = x then some b else nextIn (b :: rest) x
  | _, _ => none

/-- The next band of the same page. -/
def State.bandNext (s : State) (b : Nat) : Option Nat :=
  (s.bandSlot b).bind fun i => nextIn (s.slot i).chain b

/-- Lines used of a band. -/
def State.bandUsed (s : State) (b : Nat) : Nat := s.page.used.getD b 0

/-- Bands return to the free list, at its tail and in the order given (R2, R3, R26). -/
def State.returnBands (s : State) (bs : List Nat) : State :=
  { s with page :=
      { s.page with
        free := s.page.free ++ bs
        used := bs.foldl (fun u b => u.set b 0) s.page.used
        returned := s.page.returned + BitVec.ofNat 16 bs.length } }

/-! ## References and readers (R8, R15) -/

/-- How page memory answers a reference of slot and instance. -/
inductive RefAnswer where
  | good (i : Fin 16)
  | noSlot
  | isEmpty
  | stale
  deriving DecidableEq, Repr

/-- The checks of a page reference, in order (R8). -/
def State.checkRef (s : State) (slot gen : Nat) : RefAnswer :=
  match slotOf slot with
  | none => .noSlot
  | some i =>
    if (s.slot i).state = .empty then .isEmpty
    else if (s.slot i).gen = gen then .good i
    else .stale

/-- STALE_REF is set by a reference refused with STALE_PAGE (R8). -/
def State.markStale (s : State) : State := { s with page := { s.page with staleRef := true } }

/-- The number of readers of a page. -/
def Page.readers (p : Page) : Nat := flag p.readPrint 1 + flag p.readCodeOut 1

/-- Whether a channel may open the page for reading. -/
def Page.permits (p : Page) : Channel → Bool
  | .print => p.permitPrint
  | .codeOut => p.permitCodeOut
  | .scan => false
  | .codeIn => false

/-- The page with a reader channel in or out of its reader set. -/
def Page.setReader (p : Page) (ch : Channel) (on : Bool) : Page :=
  match ch with
  | .print => { p with readPrint := on }
  | .codeOut => { p with readCodeOut := on }
  | .scan => p
  | .codeIn => p

/-- The FILLING page whose writer is a channel (R15, R37). -/
def State.pageOf (s : State) (ch : Channel) : Option (Fin 16) :=
  ids16.find? fun i => (s.slot i).state == .filling && (s.slot i).writer == some ch

/-- The slot address of line `n` of a page (R9). -/
def State.lineAddr (s : State) (i : Fin 16) (n : Nat) : Nat :=
  s.page.geo.slotAddr ((s.slot i).chain.getD ((n - 1) / 64 - (s.slot i).freed / 64) 0) ((n - 1) % 64)

/-- How page memory answers a reader that asks for a line. -/
inductive ReadAnswer where
  | line (addr : Nat)
  | notYet
  | pageEnded
  deriving DecidableEq, Repr

/-- A reader asks for line `n` (R15). -/
def State.readLine (s : State) (i : Fin 16) (n : Nat) : ReadAnswer :=
  let p := s.slot i
  if n ≤ p.stored ∧ p.freed < n then .line (s.lineAddr i n)
  else if p.stored < n ∧ p.state = .filling then .notYet
  else .pageEnded

/-! ## Release (R17) and freeing behind a consume reader (R18) -/

/-- The release is carried out when its conditions hold (R17). -/
def State.releaseTest (s : State) (i : Fin 16) : State :=
  let p := s.slot i
  if p.state = .complete ∧ p.release ∧ p.readers = 0 then
    ((s.setSlot i { Page.reset with gen := p.gen }).returnBands p.chain).poolTest
  else s

/-- The position of the reader of a consume page: its next line, when it has a reader. A reader that has
left by a fault, an ABORT or a CLOSE without release has none, so a band it had read through is not freed
at the writer's next band or at the completion (log 44). -/
def State.readerPosition (s : State) (p : Page) : Option Nat :=
  if p.readPrint then some s.chans.print.position
  else if p.readCodeOut then some s.chans.codeOut.position
  else none

/-- The first band of a consume page is freed when its 64 lines have been read and it is not the last
band of a FILLING page (R18). -/
def State.freeBehind (s : State) (i : Fin 16) : State :=
  let p := s.slot i
  match p.chain, s.readerPosition p with
  | b :: rest, some n =>
    if p.consume ∧ p.freed + 64 < n ∧ (rest ≠ [] ∨ p.state = .complete) then
      ((s.setSlot i { p with chain := rest, freed := p.freed + 64 }).returnBands [b]).poolTest
    else s
  | _, _ => s

/-- A reader leaves its page; with the release option release pending is set; then the release test
(R15, R17, R47). -/
def State.leave (s : State) (i : Fin 16) (ch : Channel) (release : Bool) : State :=
  let p := (s.slot i).setReader ch false
  (s.setSlot i { p with release := p.release || release }).releaseTest i

/-! ## Lines and bands for writers (R7, R9, R10, R11, R12, R16) -/

/-- The next generation number (R7). -/
def nextGen (g : Nat) : Nat := if g = 255 then 1 else g + 1

/-- The lowest-numbered EMPTY slot (R7). -/
def State.emptySlot (s : State) : Option (Fin 16) :=
  ids16.find? fun i => (s.slot i).state == .empty

/-- A slot is given to a writer (R7). -/
def State.giveSlot (s : State) (i : Fin 16) (ch : Channel) (consume permitPrint permitCodeOut : Bool)
    (limit : Nat) : State :=
  s.setSlot i
    { Page.reset with
      state := .filling
      gen := nextGen (s.slot i).gen
      writer := some ch
      consume
      permitPrint
      permitCodeOut
      limit }

/-- How page memory answers a writer that asks for its next line. -/
inductive Assigned where
  | line (n addr : Nat)
  | limit
  | noBand
  deriving DecidableEq, Repr

/-- The writer takes the head band of the free list for its page; with `scan` it comes from the scan
reservation (R10), otherwise from the unreserved pool (R11). The band-pool test is made on the taking, and
again when the band behind a consume reader is freed with it (R13, R18, R19). -/
def State.takeBand (s : State) (i : Fin 16) (scan : Bool) : State :=
  let p := s.slot i
  match s.page.free with
  | [] => s
  | b :: rest =>
    let s1 := s.setSlot i { p with assigned := p.assigned + 1, chain := p.chain ++ [b] }
    let s2 :=
      { s1 with page :=
          { s1.page with
            free := rest
            used := s1.page.used.set b 1
            r := if scan then s1.page.r - 1 else s1.page.r
            taken := s1.page.taken + 1 } }
    s2.poolTest.freeBehind i

/-- The writer of a FILLING page asks for its next line (R9). -/
def State.assignLine (s : State) (i : Fin 16) (scan : Bool) : State × Assigned :=
  let p := s.slot i
  let n := p.assigned + 1
  if p.assigned = p.limit then (s, .limit)
  else if p.assigned % 64 = 0 then
    if (if scan then s.freeCount else s.unreserved) = 0 then (s, .noBand)
    else
      let s1 := s.takeBand i scan
      (s1, .line n (s1.lineAddr i n))
  else
    let last := p.chain.getLastD 0
    let s1 := s.setSlot i { p with assigned := n }
    let s2 :=
      { s1 with page := { s1.page with used := s1.page.used.set last (s.bandUsed last + 1) } }
    (s2, .line n (s2.lineAddr i n))

/-- A line is stored (R12). -/
def State.storeLine (s : State) (i : Fin 16) : State :=
  s.setSlot i { s.slot i with stored := (s.slot i).stored + 1 }

/-- `d` lines that are not stored are dropped from the end of a page's chain: lines used is lowered
band by band from the last one (R16). -/
def dropUsed (used : List Nat) : List Nat → Nat → List Nat
  | [], _ => used
  | b :: before, d =>
    let u := used.getD b 0
    dropUsed (used.set b (u - d)) before (d - u)

/-- A writer's page is completed, before the release test (R16, R18); `cut` for a fault, an ABORT or an
engine reset. -/
def State.closePage (s : State) (i : Fin 16) (cut : Bool) : State :=
  let p := s.slot i
  let used := dropUsed s.page.used p.chain.reverse (p.assigned - p.stored)
  let left := p.chain.getLast?.all fun b => used.getD b 0 ≠ 0
  let keep := if left then p.chain else p.chain.dropLast
  let drop := if left then [] else p.chain.drop (p.chain.length - 1)
  let s1 := { s with page := { s.page with used } }
  let s2 := s1.setSlot i
    { p with
      state := .complete
      writer := none
      assigned := p.stored
      chain := keep
      truncated := p.truncated || cut }
  let s3 := if left then s2 else (s2.returnBands drop).poolTest
  s3.freeBehind i

/-- A writer's page is completed, the release test last (R16). -/
def State.completePage (s : State) (i : Fin 16) (cut : Bool) : State :=
  (s.closePage i cut).releaseTest i

end Sys2Proof.Machine
end

