-- ==== Sys2Proof/Machine/Governor.lean ====
section
/-! DEFINITION. The feed governor and the motors' moves between rest and motion
(06_feed_motors_and_the_governor.md). -/

namespace Sys2Proof.Machine

/-! ## What the channels and the print queue give the governor (R31, R90) -/

/-- The count of a LINES entry, 0 for an entry of another kind. -/
def Entry.lineCount : Entry → Nat
  | .lines n _ _ => n
  | _ => 0

/-- Whether an entry is a LINES entry. -/
def Entry.isLines : Entry → Bool
  | .lines .. => true
  | _ => false

/-- The current entry is a LINES entry that has begun. -/
def Chan.inLines (c : Chan) : Bool :=
  (c.current.any fun e => e.entry.isLines) && c.phase == .begun

/-- The current entry is a LINES entry, begun, not begun or ending (05 R106). -/
def Chan.atLines (c : Chan) : Bool := c.current.any fun e => e.entry.isLines

/-- The window line count of Scan (R31). -/
def Chan.windowCount (c : Chan) : Nat :=
  if c.inLines then
    c.remaining + (if c.edge.isNone then (c.next.elim 0 fun e => e.entry.lineCount) else 0)
  else 0

/-- Slots left in the last band of a page, 0 when it holds none (R129). -/
def State.slotsLeft (s : State) (i : Fin 16) : Nat :=
  match (s.slot i).chain.getLast? with
  | none => 0
  | some b => 64 - s.bandUsed b

/-- The load in flight into a ramp table (R116). -/
def State.rampLoading (s : State) (n : Fin 4) : Bool :=
  match s.recUnit.work with
  | some (.load l) => l.table == .ramp n
  | _ => false

/-- The ramp a motor's host move or link names. -/
def Motor.rampUsed (x : Motor) : Option (Fin 4) :=
  match x.move with
  | some m => some m.ramp
  | none => x.link.map fun l => l.ramp

/-- The motor is MOVING. -/
def Motor.moving (x : Motor) : Bool := x.state == .moving

/-- The steps that pass before the first step of the group of copy `i` (from 1), plus 1 (R132). -/
def groupDistance (spl s i : Nat) : Nat := if i = 1 then 1 else (spl - s) + (i - 2) * spl + 1

/-- The limits that the copies give a candidate `j`, from copy number `i` on (R132). -/
def copiesAllow (spl s j : Nat) : Nat → List Copy → Bool
  | _, [] => true
  | i, c :: rest =>
    (c.ended ||
        (match c.cap with
          | some k => decide (j ≤ k + groupDistance spl s i - 1)
          | none => decide (j + 1 ≤ groupDistance spl s i - 1))) &&
      copiesAllow spl s j (i + 1) rest

/-- Lines the decelerating path of a candidate would trigger, λ(j) (R129). -/
def lambda (spl s j : Nat) : Nat := (s + j + 1) / spl

/-- The conditions of the scan link on a candidate (R129). -/
def State.scanAllows (s : State) (x : Motor) (l : Link) (j : Nat) : Bool :=
  let c := s.chans.scan
  let n := lambda l.spl x.group j
  (x.moving || (c.state == .running && c.inLines && c.openPage.isSome && c.pauseReq.isNone)) &&
    decide (n ≤ (c.openPage.elim 0 fun p => s.slotsLeft p.slot) + 64 * s.freeCount) &&
    decide (n ≤ c.windowCount) &&
    decide (n ≤ c.openPage.elim 0 fun p => (s.slot p.slot).limit - (s.slot p.slot).assigned) &&
    decide (j ≤ l.kLine)

/-- The conditions of the print link on a candidate (R132). -/
def State.printAllows (s : State) (x : Motor) (l : Link) (j : Nat) : Bool :=
  decide (j + 1 ≤ l.spl * s.print.queue.length - x.group) &&
    copiesAllow l.spl x.group j 1 s.print.queue

/-- The conditions of a motor's link on a candidate; the channel is that of the motor. -/
def State.linkAllows (s : State) (m : MotorId) (x : Motor) (l : Link) (j : Nat) : Bool :=
  decide (j ≤ l.top) &&
    match m with
    | .m0 => s.scanAllows x l j
    | .m1 => s.printAllows x l j
    | .m2 => false

/-- A candidate satisfies every constraint that applies to the motor (R127). -/
def State.allows (s : State) (m : MotorId) (j : Nat) : Bool :=
  let x := s.motor m
  (x.budget.all fun b => decide (j + 1 ≤ b)) &&
    (x.move.all fun v => decide (j ≤ v.top) && decide (j + 1 ≤ x.remaining)) &&
    (x.link.all fun l => s.linkAllows m x l j) &&
    (x.moving ||
      (x.halted.isNone && (x.move.isSome || x.link.isSome) &&
        !(x.rampUsed.any fun n => s.rampLoading n)))

/-- The governor's decision for a motor whose last step was at `k`, `none` at rest; the answer is the
index committed, `none` for −1 (R126). -/
def State.govern (s : State) (m : MotorId) : Option Nat → Option Nat
  | none => if s.allows m 0 then some 0 else none
  | some k =>
    if k + 1 < (s.motor m).run.length ∧ s.allows m (k + 1) then some (k + 1)
    else if s.allows m k then some k
    else if k = 0 then none
    else some (k - 1)

/-- The reservation asked for after a decision for motor 0 linked to Scan (R130). -/
def State.reserveFor (s : State) (j : Option Nat) : State :=
  match s.motors.m0.link with
  | none => s
  | some l =>
    let n := j.elim 0 fun k => lambda l.spl s.motors.m0.group k
    let left := s.chans.scan.openPage.elim 0 fun p => s.slotsLeft p.slot
    s.reserve ((n - left + 63) / 64)

/-- The reservation request that goes with a decision for a motor (R130). -/
def State.afterDecision (s : State) (m : MotorId) (j : Option Nat) : State :=
  match m with
  | .m0 => s.reserveFor j
  | .m1 => s
  | .m2 => s

/-! ## The link as the channel context shows it (02 R27, log 47) -/

/-- The link of the motor a channel can have. -/
def State.linkOf (s : State) (ch : Channel) : Option Link :=
  (motorFor ch).bind fun m => (s.motor m).link

/-- The linked motor of a channel. -/
def State.linkedMotor (s : State) (ch : Channel) : Option MotorId :=
  if (s.linkOf ch).isSome then motorFor ch else none

/-- Steps per line of a channel, 1 without a link. -/
def State.linkSteps (s : State) (ch : Channel) : Nat := (s.linkOf ch).elim 1 fun l => l.spl

/-- The ramp of a channel's link, ramp 0 without one. -/
def State.linkRamp (s : State) (ch : Channel) : Fin 4 := (s.linkOf ch).elim 0 fun l => l.ramp

/-- The top index of a channel's link, 0 without one. -/
def State.linkTop (s : State) (ch : Channel) : Nat := (s.linkOf ch).elim 0 fun l => l.top

/-! ## Reaching rest and leaving it (R112, R114, R121) -/

/-- The channel a motor is linked to has a pause request or is PAUSED (R128). -/
def State.linkPaused (s : State) (m : MotorId) : Bool :=
  (s.motor m).link.isSome &&
    ((chanFor m).any fun ch => (s.chan ch).state == .paused || (s.chan ch).pauseReq.isSome)

/-- The motor in HOLD: no step committed, the hold timer loaded with the hold time and the auto-release
option that then stand; a hold time of 0 expires at once (R112, R114). -/
def Motor.hold (x : Motor) (paused : Bool) : Motor :=
  { x with
    state := if x.holdTime = 0 ∧ x.autoRelease then .off else .hold
    k := none
    committed := none
    due := none
    run := []
    heldStep := false
    rampPath := none
    budget := if paused then some 0 else none
    move := none
    remaining := 0
    holdTimer := if x.holdTime = 0 then none else some (x.holdTime * 10)
    timerRelease := x.autoRelease
    dark := false }

/-- The event of a motor that reaches rest, when it raises one (R121). -/
def Motor.restReason (x : Motor) : Option (EventKind × MotorReason) :=
  match x.rampPath with
  | some cause => some (.halted, .halt cause)
  | none =>
    x.move.map fun v => (.done, if v.shortened then .stopped else .complete)

/-- A MOVING motor reaches rest under the governor (R112, R121, R135). -/
def State.reachRest (s : State) (m : MotorId) : State :=
  let x := s.motor m
  let s1 := s.setMotor m (x.hold (s.linkPaused m))
  let s2 := if x.rampPath.isSome then
      { s1 with motors := { s1.motors with halts := s1.motors.halts + 1 } } else s1
  match x.restReason with
  | some (kind, r) => s2.raise (motorSource m) kind (.motor x.position r)
  | none => s2

/-- A motor leaves rest: index 0 of the ramp its move or link names is committed (R112, R125). Out of OFF
its outputs stay off until its first step (R114). -/
def State.leaveRest (s : State) (m : MotorId) : State :=
  let x := s.motor m
  let run := x.rampUsed.elim [] fun n => s.ramp n
  s.setMotor m
    { x with
      state := .moving
      committed := some 0
      due := some (run.getD 0 0)
      run
      dark := x.state == .off
      holdTimer := none }

/-- The governor's decision from rest, with its reservation (R125, R126, R130). -/
def State.restDecision (s : State) (m : MotorId) : State :=
  if (s.motor m).moving then s
  else
    let j := s.govern m none
    let s1 := if j.isSome then s.leaveRest m else s
    s1.afterDecision m j

/-! ## Halts (R119, R133) and the end of a link (R123) -/

/-- The HALTED field after a halt: a second halt takes the stricter mode, with its cause (R133). -/
def mergeHalt : Option Halt → Halt → Halt
  | none, h => h
  | some old, h => if old.mode = .ramp ∧ h.mode = .immediate then h else old

/-- A stop point is shrunk to the committed path (R128). In the instant of a step before its decision no step is
committed and the motor is not at rest: the budget is then 0 (log 60). -/
def Motor.shrink (x : Motor) : Motor :=
  let b := x.committed.elim 0 (· + 1)
  { x with budget := some (x.budget.elim b (min b)) }

/-- A motor is halted (R119 IMMEDIATE, R133). A RAMP halt of a motor that still runs out the path of an earlier
one, whose HALTED a MOTOR RESUME has cleared, gives one HALTED event at rest, with the newer cause (log 65). -/
def State.haltMotor (s : State) (m : MotorId) (h : Halt) : State :=
  let x := s.motor m
  let h' := mergeHalt x.halted h
  if !x.moving then s.setMotor m { x with halted := some h' }
  else
    match h.mode with
    | .immediate =>
      let s1 := s.setMotor m ({ x with halted := some h' }.hold (s.linkPaused m))
      let s2 := { s1 with motors := { s1.motors with halts := s1.motors.halts + 1 } }
      s2.raise (motorSource m) .halted (.motor x.position (.halt h'.cause))
    | .ramp =>
      s.setMotor m
        { x.shrink with
          halted := some h'
          rampPath := some h'.cause
          remaining := min x.remaining (x.committed.elim 0 (· + 1)) }

/-- The halt of an interlock action (R133). -/
def State.actionHalt (s : State) (m : MotorId) (mode : HaltMode) (g : Fin 16) : State :=
  let s1 := s.haltMotor m { mode, cause := .line g }
  { s1 with motors := { s1.motors with haltedByAction := true } }

/-- A link ends: a MOVING motor runs out the stop path of its committed index (R123, R128). A RAMP halt's
path that is being run out stays one, and raises HALTED at rest (R121, R133; log 50). A step held for the burn is
no longer held, and its committed step stays due until a MOTOR_STEP takes it (log 64). -/
def State.unlinkMotor (s : State) (m : MotorId) : State :=
  let x := s.motor m
  if x.link.isNone then s
  else
    let y := if x.moving then { x.shrink with link := none, heldStep := false }
      else { x with link := none, budget := none }
    let s1 := s.setMotor m y
    match m with
    | .m0 => s1.reserve 0
    | .m1 => s1
    | .m2 => s1

/-- A pause request is set on the channel linked to a motor: its stop point is shrunk (R53, R128). -/
def State.shrinkFor (s : State) (ch : Channel) : State :=
  match motorFor ch with
  | none => s
  | some m => if (s.motor m).link.isSome then s.setMotor m (s.motor m).shrink else s

/-- The pause of the linked channel no longer limits its motor; a RAMP halt's path keeps its budget
(R120, R128). -/
def State.freeBudget (s : State) (ch : Channel) : State :=
  match motorFor ch with
  | none => s
  | some m =>
    let x := s.motor m
    if x.link.isSome ∧ x.rampPath.isNone then s.setMotor m { x with budget := none } else s

/-- The line cap k_line of a scan link (R122). -/
def lineCap (t : List Nat) (spl tLine : Nat) : Nat :=
  ((List.range t.length).filter fun k => decide (tLine ≤ spl * t.getD k 0)).getLastD 0

/-- The outputs MnA to MnD, bit 0 being MnA (R113): off in OFF, and after it until the first step (R114). -/
def Motor.phaseOut (x : Motor) : BitVec 4 :=
  if x.state = .off ∨ x.dark then 0 else x.phaseTable.getD x.phase 0

/-- The reduced-current output MREDn (R113). -/
def Motor.reduced (x : Motor) : Bool := x.state == .hold

end Sys2Proof.Machine
end

