-- ==== Sys2Proof/Machine/Port.lean ====
section
/-! DEFINITION. Grants of the DRAM port: what each job moves, bursts that are suspended, resumed or cut
off, and the arbiter (01 R22, R23, R24). -/

namespace Sys2Proof.Machine

/-- Words of a burst, `none` for a host word, a record or a refresh (R22). -/
def Job.burstWords : Job → Option Nat
  | .lineRead _ _ => some 128
  | .scanWrite _ _ => some 128
  | .codeInWrite _ => some 128
  | .tableBurst _ n => some n
  | .storeBurst _ n => some n
  | .refresh => none
  | .hostWord => none
  | .commandFetch => none
  | .reportWrite => none
  | .producerWord _ => none
  | .consumerWord _ => none
  | .queryWrite _ => none
  | .entryFetch _ => none

/-- The address a burst starts at. -/
def Job.burstAddr : Job → Nat
  | .lineRead _ a => a
  | .scanWrite _ a => a
  | .codeInWrite a => a
  | .tableBurst a _ => a
  | .storeBurst a _ => a
  | .refresh => 0
  | .hostWord => 0
  | .commandFetch => 0
  | .reportWrite => 0
  | .producerWord _ => 0
  | .consumerWord _ => 0
  | .queryWrite _ => 0
  | .entryFetch _ => 0

/-- The channel whose line work a burst is (R22). -/
def Job.lineWork : Job → Option Channel
  | .lineRead ch _ => some ch
  | .scanWrite _ _ => some .scan
  | .codeInWrite _ => some .codeIn
  | .tableBurst _ _ => none
  | .storeBurst _ _ => none
  | .refresh => none
  | .hostWord => none
  | .commandFetch => none
  | .reportWrite => none
  | .producerWord _ => none
  | .consumerWord _ => none
  | .queryWrite _ => none
  | .entryFetch _ => none

/-- The 256 bytes of Code-in's slot write: a good line, or a concealment copy (05 R103, R104). -/
def State.codeInBytes (s : State) : List Byte :=
  let n := s.chans.codeIn.held.getD 0
  if s.coder.conceal then slotBytes s.coder.copyDots s.coder.copyCounts true false n
  else slotBytes s.coder.rxDots s.coder.rxCounts false false n

/-- The bytes a write burst writes, `none` for a read (03 R66, 05 R103, R104). -/
def State.writeData (s : State) : Job → Option (List Byte)
  | .scanWrite b _ =>
    some (slotBytes (s.buf b).dots (s.buf b).counts false (s.buf b).tail (s.buf b).line)
  | .codeInWrite _ => some s.codeInBytes
  | _ => none

/-- `k` further words of a burst pass. -/
def State.passWords (s : State) (j : Job) (k : Nat) : State :=
  let a := j.burstAddr + 2 * s.port.done
  match s.writeData j with
  | some bs =>
    { s with
      mem := Memory.writeBytes s.mem a ((bs.drop (2 * s.port.done)).take (2 * k))
      port := { s.port with done := s.port.done + k } }
  | none =>
    { s with port :=
        { s.port with
          done := s.port.done + k
          partialData := s.port.partialData ++ Memory.readBytes s.mem a (2 * k) } }

/-- Words of a burst still to pass. -/
def State.wordsLeft (s : State) (j : Job) : Nat := j.burstWords.getD 0 - s.port.done

/-- The next free value, below `n`; log 10. -/
def State.drawBelow (s : State) (n : Nat) : Nat := Config.burstProgress s.free % max n 1

/-- The free value has been used. -/
def State.drawn (s : State) : State := { s with free := s.free + 1 }

/-- The DRAM port without a grant. -/
def State.dropGrant (s : State) : State :=
  { s with port := { s.port with busy := none, done := 0, partialData := [] } }

/-- The groups with a wake-enabled line, bit n for group n (07 R150). -/
def State.wakeGroups (s : State) : BitVec 4 :=
  ids16.foldl (fun v g => if (s.gate g).cfg.wake then v ||| (1#4 <<< (g.val / 4)) else v) 0

/-- Steps 2 to 5 of the SLEEP entry, once no grant is in progress: self-refresh, HCLKEN low, sleep sampling,
the sleep timer (08 R160). -/
def State.sleepOn (s : State) : State :=
  { s with
    port := { s.port with mode := .selfRefresh }
    sensor := { s.sensor with groups := s.wakeGroups }
    power :=
      { s.power with
        hclken := false
        sleepTimer := if s.power.sleepTime = 0 then none else some s.power.sleepTime } }

/-- A SLEEP entry that has waited for the grant in progress goes on (08 R160). -/
def State.afterGrant (s : State) : State :=
  if s.port.mode = .entering ∧ s.port.busy = none ∧ s.port.suspended = none then s.sleepOn else s

/-- A grant ends. -/
def State.releasePort (s : State) : State := s.dropGrant.afterGrant

/-- A host word or a refresh ends; a burst it suspended keeps its place (R23). -/
def State.freePort (s : State) : State :=
  { s with port := { s.port with busy := none } }.afterGrant

/-- The burst in progress ends: the rest of its words pass. -/
def State.endBurst (s : State) (j : Job) : State := s.passWords j (s.wordsLeft j)

/-- A channel's line work is withdrawn: a burst in progress ends at the end of the word being
transferred, after a free number of words (R22, log 10); a suspended one goes no further. No channel has
line work in SLEEP (08 R157). -/
def State.cutLineWork (s : State) (ch : Channel) : State :=
  let s1 :=
    match s.port.busy with
    | some j =>
      if j.lineWork = some ch then
        (s.passWords j (s.drawBelow (s.wordsLeft j + 1))).drawn.dropGrant
      else s
    | none => s
  match s1.port.suspended with
  | some j =>
    if j.lineWork = some ch then
      { s1 with port := { s1.port with suspended := none, done := 0, partialData := [] } }
    else s1
  | none => s1

/-! ## The requests (R22); they follow from the state of the requesters -/

/-- The job the record unit presents (R22). -/
def State.recUnitWants (s : State) : Option Job :=
  if s.recUnit.writing.isSome then some .reportWrite
  else if s.recUnit.producerAsk then some (.producerWord s.recUnit.producer)
  else if s.boot.ready = .consumerWord then some (.consumerWord 0)
  else
    match s.recUnit.state, s.recUnit.work with
    | .fetching, _ => some .commandFetch
    | .advancing, _ => some (.consumerWord s.recUnit.consumer)
    | .executing, some (.query q) => some (.queryWrite q.second)
    | _, _ => none

/-- A READY buffer asks for its write unless the other one holds a line of lower number (03 R66). -/
def State.bufAsks (s : State) (b : BufId) : Bool :=
  (s.buf b).state == .ready &&
    ((s.buf b.other).state == .free || decide ((s.buf b).line < (s.buf b.other).line))

/-- The line transfer a channel wants. -/
def State.lineJob (s : State) (ch : Channel) : Option Job :=
  match ch with
  | .scan =>
    if s.bufAsks .bufA then some (.scanWrite .bufA s.scan.bufA.addr)
    else if s.bufAsks .bufB then some (.scanWrite .bufB s.scan.bufB.addr)
    else none
  | .print =>
    if s.chans.print.reading then
      s.chans.print.openPage.map fun p => .lineRead .print (s.lineAddr p.slot s.chans.print.position)
    else none
  | .codeOut =>
    if s.chans.codeOut.reading then
      s.chans.codeOut.openPage.map fun p =>
        .lineRead .codeOut (s.lineAddr p.slot s.chans.codeOut.position)
    else none
  | .codeIn =>
    if s.coder.recv = .storing then
      s.chans.codeIn.openPage.map fun p =>
        .codeInWrite (s.lineAddr p.slot (s.chans.codeIn.held.getD 1))
    else none

/-- The job a channel presents: of an entry fetch and a line transfer, one at a time (log 11). -/
def State.chanWants (s : State) (ch : Channel) : Option Job :=
  match (s.chan ch).fetch, s.lineJob ch with
  | some _, some j => if Config.fetchFirst (4 * s.free + chanNumber ch) then some (.entryFetch ch) else some j
  | some _, none => some (.entryFetch ch)
  | none, j => j

/-- Words of one entry of a table source (03 R74, 04 R92, 06 R116, R117). -/
def Table.entryWords : Table → Nat
  | .shading _ => 2
  | _ => 1

/-- The job the table loader presents: a LOAD TABLE burst before a burst of a store (09 R178). -/
def State.loaderWants (s : State) : Option Job :=
  match s.recUnit.work with
  | some (.load l) =>
    let w := l.table.entryWords
    some (.tableBurst (l.source + 2 * w * l.got) (min 128 (w * (l.count - l.got))))
  | _ =>
    s.boot.store.bind fun o =>
      if o.phase = .source then
        some (.storeBurst (o.source + 2 * o.next) (min 128 (o.count - o.next)))
      else none

/-- The job a requester of order 4 presents. -/
def State.wants (s : State) : Requester → Option Job
  | .recUnit => s.recUnitWants
  | .chan ch => s.chanWants ch
  | .loader => s.loaderWants

/-- The rotation that starts with the requester after the last one granted (R22). -/
def rotationAfter : Requester → List Requester
  | .recUnit => [.chan .scan, .chan .print, .chan .codeOut, .chan .codeIn, .loader, .recUnit]
  | .chan .scan => [.chan .print, .chan .codeOut, .chan .codeIn, .loader, .recUnit, .chan .scan]
  | .chan .print => [.chan .codeOut, .chan .codeIn, .loader, .recUnit, .chan .scan, .chan .print]
  | .chan .codeOut => [.chan .codeIn, .loader, .recUnit, .chan .scan, .chan .print, .chan .codeOut]
  | .chan .codeIn => [.loader, .recUnit, .chan .scan, .chan .print, .chan .codeOut, .chan .codeIn]
  | .loader => [.recUnit, .chan .scan, .chan .print, .chan .codeOut, .chan .codeIn, .loader]

/-- A host cycle waits at the arbiter (R24). -/
def State.hostWaits (s : State) : Bool := s.host.cycle.any fun c => c.asked

/-- A refresh or a host word has been asked for since the burst in hand was granted (R23). -/
def State.urgent (s : State) : Bool := s.port.refreshDue || (s.hostWaits && !s.port.hostHeld)

/-- The record unit's requests that can have waited through self-refresh: the write of an index word (01 R22, 08
R157, R163). -/
def State.indexWaits (s : State) : Bool := s.recUnit.producerAsk || s.recUnit.state == .advancing

/-- What is left of the requests that waited through self-refresh once a job is granted (08 R163 step 1). -/
def State.backlogAfter (s : State) : Job → Bool
  | .hostWord => s.port.backlog && s.indexWaits
  | .producerWord _ => s.port.backlog && s.recUnit.state == .advancing
  | .consumerWord _ => false
  | .refresh => s.port.backlog
  | .commandFetch => s.port.backlog
  | .reportWrite => s.port.backlog
  | .queryWrite _ => s.port.backlog
  | .entryFetch _ => s.port.backlog
  | .lineRead _ _ => s.port.backlog
  | .scanWrite _ _ => s.port.backlog
  | .codeInWrite _ => s.port.backlog
  | .tableBurst _ _ => s.port.backlog
  | .storeBurst _ _ => s.port.backlog

/-! ## Grants -/

/-- A grant begins; a host word that waits while it is made waits to its end (R22, R23). -/
def State.grant (s : State) (j : Job) : State :=
  let s1 :=
    { s.drawn with
      port :=
        { s.port with
          busy := some j
          done := 0
          partialData := []
          hostHeld := s.hostWaits
          backlog := s.backlogAfter j } }
  match j with
  | .scanWrite b _ => s1.setBuf b { s1.buf b with state := .writing }
  | .producerWord _ => { s1 with recUnit := { s1.recUnit with producerAsk := false } }
  | _ => s1

/-- The refresh or the host word that is served before any burst goes on (R22, R23). -/
def State.grantUrgent (s : State) : State :=
  if s.port.refreshDue then
    { s with port := { s.port with busy := some .refresh, refreshDue := false } }
  else
    { s with port :=
        { s.port with
          busy := some .hostWord, hostHeld := false, backlog := s.backlogAfter .hostWord } }

/-- The grant of order 4, which moves the rotation pointer (R22). -/
def State.grantRotation (s : State) : List Requester → State
  | [] => s
  | q :: rest =>
    match s.wants q with
    | some j =>
      let s1 := s.grant j
      { s1 with port := { s1.port with rotation := q } }
    | none => s.grantRotation rest

/-- The grant when DRAM is free and no burst is suspended (R22). -/
def State.grantFree (s : State) : State :=
  if s.port.refreshDue then s.grantUrgent
  else
    match (if s.print.queue.length < 2 then s.chanWants .print else none) with
    | some j => s.grant j
    | none => if s.hostWaits then s.grantUrgent else s.grantRotation (rotationAfter s.port.rotation)

/-- The arbiter of the DRAM port (R22, R23). A burst in progress when a refresh or a host word is asked
for is suspended after a free number of words (log 10); one that would resume while another is waiting that
was asked for since its grant passes at most 8 words and is suspended again (log 30). At the SLEEP entry a
suspended burst is still ended (08 R160). -/
def State.arbitrate (s : State) : State :=
  match s.port.mode, s.port.busy, s.port.suspended with
  | .running, some j, none =>
    if j.burstWords.isSome ∧ s.urgent then
      let s1 := (s.passWords j (s.drawBelow (s.wordsLeft j))).drawn
      { s1 with port := { s1.port with suspended := some j } }.grantUrgent
    else s
  | .running, none, some j =>
    if s.urgent then
      ((s.passWords j (s.drawBelow (min 9 (s.wordsLeft j)))).drawn).grantUrgent
    else { s with port := { s.port with busy := some j, suspended := none } }
  | .running, none, none => s.grantFree
  | .entering, none, some j => { s with port := { s.port with busy := some j, suspended := none } }
  | _, _, _ => s

/-- The host port passes a held cycle to the arbiter, or answers it without a grant, once DRAM is
running (R24, log 28). -/
def State.judgeCycle (s : State) : State :=
  match s.host.cycle with
  | none => s
  | some c =>
    if c.asked ∨ s.port.mode ≠ .running then s
    else if s.page.geo.dramSize ≤ c.addr then
      { s with host :=
          { s.host with
            cycle := none
            unmapped := true
            noGrant := s.host.noGrant + 1
            data := if c.write.isNone then 0xFFFF else s.host.data } }
    else if s.page.geo.guard ∧ s.page.geo.inBands c.addr ∧ c.write.isSome then
      { s with host :=
          { s.host with cycle := none, guardDrop := true, noGrant := s.host.noGrant + 1 } }
    else { s with host := { s.host with cycle := some { c with asked := true } } }

end Sys2Proof.Machine
end

