-- ==== Sys2Proof/Machine/Lines.lean ====
section
/-! DEFINITION. The line channels: the entry window, notices, faults and abort steps, the beginning and
the end of entries (02_line_channels_and_chains.md). -/

namespace Sys2Proof.Machine

/-! ## Notices (R33) -/

/-- The channel calls for a notice. -/
def State.notify (s : State) (ch : Channel) (n : Notice) : State :=
  s.setChan ch { s.chan ch with notices := (s.chan ch).notices ++ [n] }

/-- The current entry is over but for its notice: it ends when the notice has been posted. -/
def State.notifyEnding (s : State) (ch : Channel) (n : Notice) : State :=
  s.setChan ch { s.chan ch with notices := (s.chan ch).notices ++ [n], phase := .ending }

/-- The channel waits to post its final notice (R28, R53; Print also while abort clearing runs). -/
def State.finalPending (s : State) (ch : Channel) : Bool :=
  (s.chan ch).notices.any Notice.final || (ch == .print && s.print.clearing.isSome)

/-! ## The entry window (R30, R31, R32) -/

/-- Whether an entry is followed by the one at its address + 16 (R30). -/
def Entry.hasNext : Entry → Bool
  | .jump _ => false
  | .finish => false
  | .notFetched => false
  | _ => true

/-- An entry becomes current, and the fetch of the next one is asked for (R30, R31). -/
def Chan.makeCurrent (c : Chan) (geo : Geometry) (e : WinEntry) : Chan :=
  let c1 :=
    { c with
      current := some e
      next := none
      fetch := none
      entryAddr := e.addr
      phase := .fresh
      remaining := 0
      edge := none
      resolved := none
      limitDue := false
      waitTimer := 0 }
  if e.entry.hasNext then
    if geo.goodSource (e.addr + 16) 16 then
      { c1 with fetch := some { addr := e.addr + 16, asCurrent := false, viaJump := false } }
    else { c1 with next := some { addr := e.addr + 16, entry := .notFetched } }
  else c1

/-- The current entry has ended: the window moves on; with no next entry fetched yet the channel
executes nothing (R30, R31). -/
def Chan.shift (c : Chan) (geo : Geometry) : Chan :=
  match c.next with
  | some e => c.makeCurrent geo e
  | none =>
    { c with
      current := none
      phase := .fresh
      remaining := 0
      edge := none
      resolved := none
      limitDue := false
      waitTimer := 0 }

/-! ## The trailing edge (R40, R131) -/

/-- Lines that the committed stop path of motor 0 will trigger, λc (R131). -/
def State.committedLines (s : State) : Nat :=
  match s.motors.m0.link, s.motors.m0.committed with
  | some l, some j => lambda l.spl s.motors.m0.group j
  | _, _ => 0

/-- The trailing-edge event of the current LINES entry, its tail count being `t` (R40, R131). -/
def State.trailingEdge (s : State) (ch : Channel) (t : Nat) : State :=
  s.setChan ch
    { s.chan ch with
      edge := some 0
      remaining := if ch = .scan then max t s.committedLines else t }

/-- The trailing-edge option of a writer's entry. -/
def Entry.edgeOption : Entry → Option EdgeOption
  | .lines _ o _ => o
  | _ => none

/-- The trailing-edge event at the moment a LINES entry of a writer becomes current (R40). -/
def State.edgeAtStart (s : State) (ch : Channel) (o : Option EdgeOption) : State :=
  match o with
  | some e =>
    if isWriter ch ∧ (s.gate e.line).high = e.high then s.trailingEdge ch e.tail else s
  | none => s

/-! ## Faults and abort steps (R51) -/

/-- The channel's path is cleared of lines in flight on Scan (R51, R76). -/
def State.clearScan (s : State) : State :=
  let s1 := s.cutLineWork .scan
  { s1 with scan :=
      { s1.scan with busy := false, bufA := LineBuf.reset, bufB := LineBuf.reset, captureTicks := 0 } }

/-- Abort clearing for Print (R94): the read is withdrawn and every copy but a burning head copy is
removed. -/
def State.clearPrint (s : State) : State :=
  let s1 := s.cutLineWork .print
  let queue := (s1.print.queue.take 1).filter fun c => !c.ended
  { s1 with print :=
      { s1.print with
        queue
        head := if queue = [] then .idle else s1.print.head
        readRequest := none } }

/-- A frame is placed in the send buffer and offered; while CRSTN is low the direction stays IDLE
(05 R96, R100, R101; log 56). -/
def CoderLink.offer (c : CoderLink) (f : Frame) : CoderLink :=
  { c with sendBuf := some f, bytesSent := 0, send := if c.resetLow then .idle else .offering }

/-- CRSTN rises: a frame that is in the send buffer is offered (05 R96, R109; log 56). -/
def CoderLink.leaveReset (c : CoderLink) : CoderLink :=
  { c with
    resetLow := false
    send := if c.send = .idle ∧ c.sendBuf.isSome then .offering else c.send }

/-- A frame is in the send buffer and has not begun: it is OFFERING, or CRSTN is low (R96, R101). -/
def CoderLink.unsent (c : CoderLink) : Bool :=
  c.send == .offering || (c.send == .idle && c.sendBuf.isSome)

/-- Code-out's read is withdrawn and a frame that has not begun is discarded (R101). -/
def State.clearCodeOut (s : State) : State :=
  let s1 := s.cutLineWork .codeOut
  if s1.coder.unsent then
    { s1 with coder := { s1.coder with send := .idle, sendBuf := none, bytesSent := 0 } }
  else s1

/-- Code-in's receive direction at a fault (R108). -/
def State.clearCodeIn (s : State) : State :=
  match s.coder.recv with
  | .idle => s
  | .ready => { s with coder := { s.coder with recv := .idle } }
  | .receiving => { s with coder := { s.coder with recv := .discard, cutShort := true } }
  | .storing =>
    let s1 := s.cutLineWork .codeIn
    { s1 with coder := { s1.coder with recv := .idle, conceal := false } }
  | .discard => s

/-- The channel's path is cleared (R51). -/
def State.clearPath (s : State) : Channel → State
  | .scan => s.clearScan
  | .print => s.clearPrint
  | .codeOut => s.clearCodeOut
  | .codeIn => s.clearCodeIn

/-- The channel's open page is completed as truncated, or given up by its reader (R51). -/
def State.dropPage (s : State) (ch : Channel) : State :=
  match (s.chan ch).openPage with
  | none => s
  | some p => if isWriter ch then s.completePage p.slot true else s.leave p.slot ch false

/-- The link of the channel, if any, ends. -/
def State.dropLink (s : State) (ch : Channel) : State :=
  match motorFor ch with
  | some m => s.unlinkMotor m
  | none => s

/-- The context fields that the abort steps clear (R51). -/
def Chan.cleared (c : Chan) : Chan :=
  { c with
    state := .running
    pauseReq := none
    current := none
    next := none
    fetch := none
    phase := .fresh
    remaining := 0
    edge := none
    openPage := none
    resolved := none
    reading := false
    releaseOnClose := false
    held := none
    limitDue := false
    linkCut := false
    waitTimer := 0 }

/-- The final notice of the abort steps; while a burn that had begun runs on it is kept back (R94, log
31). -/
def State.postFinal (s : State) (ch : Channel) (n : Notice) : State :=
  if ch = .print ∧ s.print.queue ≠ [] then { s with print := { s.print with clearing := some n } }
  else s.notify ch n

/-- The abort steps of R51, up to the notice. -/
def State.abortSteps (s : State) (ch : Channel) : State :=
  let s1 := (((s.dropPage ch).dropLink ch).clearPath ch)
  let s2 := s1.setChan ch (s1.chan ch).cleared
  { s2 with page := { s2.page with slotWait := s2.page.slotWait.filter fun c => c ≠ ch } }

/-- A fault of a channel (R50, R51); `addr` is the entry address of the fault. -/
def State.faultChan (s : State) (ch : Channel) (code : FaultCode) (addr : Nat) : State :=
  let s1 := s.abortSteps ch
  let s2 := s1.setChan ch { s1.chan ch with chainFault := true }
  s2.postFinal ch { body := .chainFault code addr, page := none }

/-- A fault of a channel's current entry. -/
def State.faultEntry (s : State) (ch : Channel) (code : FaultCode) : State :=
  s.faultChan ch code (s.chan ch).entryAddr

/-! ## LINES begins and entries end (R31, R39, R49) -/

/-- The channel of a LINES entry lacks the motor link it needs (R39); one whose link an ABORT request has ended does
not, for it is on its way to the abort steps (R54; log 67). -/
def State.lacksLink (s : State) (ch : Channel) : Bool :=
  !(s.chan ch).linkCut && (motorFor ch).any fun m => (s.motor m).link.isNone

/-- A LINES entry takes up its count: a held line of Code-in is its first line, and the link takes its
burst limit (R39, R102). The held line is counted before a trailing edge that already stands, whose tail count
then replaces the count (R40; log 58). -/
def State.takeCount (s : State) (ch : Channel) (count : Nat) (edge : Option EdgeOption)
    (burst : Nat) : State :=
  let c := s.chan ch
  let s1 := s.setChan ch
    { c with
      phase := .begun
      remaining := if ch = .codeIn ∧ c.held.isSome then count - 1 else count }
  let s2 := if ch = .codeIn then { s1 with coder := { s1.coder with burstLimit := burst } } else s1
  s2.edgeAtStart ch edge

/-- A LINES entry that has become current: its checks, then its start (R39, R40). -/
def State.beginLines (s : State) (ch : Channel) (count : Nat) (edge : Option EdgeOption)
    (burst : Nat) : State :=
  if count = 0 then s.faultEntry ch .badEntry
  else if (s.chan ch).openPage.isNone then s.faultEntry ch .noPage
  else if s.lacksLink ch then s.faultEntry ch .notLinked
  else s.takeCount ch count edge burst

/-- The current entry has ended and the window has moved on. A LINES entry that becomes current behind
a LINES entry begins in the same step (log 19); one of a PAUSED channel begins after its resume
(log 49). -/
def State.endEntry (s : State) (ch : Channel) : State :=
  let wasLines := (s.chan ch).atLines && (s.chan ch).state != .paused
  let s1 := s.setChan ch ((s.chan ch).shift s.page.geo)
  match (s1.chan ch).current with
  | some e =>
    match e.entry with
    | .lines n o b => if wasLines then s1.beginLines ch n o b else s1
    | _ => s1
  | none => s1

/-- An entry ends with the last of its notices posted, but for a channel that has a request or is PAUSED, which goes
no further and keeps its window until it is resumed (R33, R53; log 70). -/
def State.endPosted (s : State) (ch : Channel) : State :=
  let c := s.chan ch
  if c.phase = .ending ∧ c.notices = [] ∧ c.pauseReq = none ∧ c.state ≠ .paused then s.endEntry ch else s

/-- The channel is executing its LINES entry, or waits in one of the waits of a writer in it. -/
def Chan.working (c : Chan) : Bool :=
  c.state == .running || c.state == .waiting .space || c.state == .waiting .motor

/-- The LINES entry of a writer ends when its lines remaining reach 0; for Code-in once the frame of a
held line has ended (R39, R102). -/
def State.endIfDone (s : State) (ch : Channel) : State :=
  let c := s.chan ch
  if c.working ∧ c.inLines ∧ c.remaining = 0 ∧ (ch = .codeIn → c.held = none) then
    (s.setChan ch { c with state := .running }).endEntry ch
  else s

/-- The LINES entry of a writer that is over ends, and so at once does one that begins behind it with no line
remaining, a trailing edge with a tail of 0 standing already; a third entry is not in the window by then (R31, R39,
R40, R102). -/
def State.endOver (s : State) (ch : Channel) : State := (s.endIfDone ch).endIfDone ch

/-- The page of a channel has taken the last line its limit allows (R39). -/
def State.atLimit (s : State) (ch : Channel) : Bool :=
  (s.chan ch).openPage.any fun p => (s.slot p.slot).assigned == (s.slot p.slot).limit

/-- The LINES entry of a writer ends with a PAGE LIMIT notice (R39). -/
def State.endAtLimit (s : State) (ch : Channel) : State :=
  match (s.chan ch).openPage with
  | some p => s.notifyEnding ch { body := .pageLimit (s.slot p.slot).limit, page := some p }
  | none => s

/-- The LINES entry of Code-in ends with its PAGE LIMIT notice at the end of the frame of the line whose
assignment brought the page to its limit with lines remaining, whatever is asked of the channel and whatever a
trailing edge has made of the lines remaining since (R102). -/
def State.limitIfFull (s : State) : State :=
  if s.chans.codeIn.inLines ∧ s.chans.codeIn.limitDue then s.endAtLimit .codeIn else s

/-- One line more is assigned to the current LINES entry (R39, R40). -/
def State.countLine (s : State) (ch : Channel) : State :=
  let c := s.chan ch
  s.setChan ch { c with remaining := c.remaining - 1, edge := c.edge.map (· + 1) }

/-- One line more has been moved (R27). -/
def State.countMoved (s : State) (ch : Channel) : State :=
  s.setChan ch { s.chan ch with moved := (s.chan ch).moved + 1 }

/-! ## The checks of an entry (R50) -/

/-- A check 4 to 8 of R36 that fails on a page. -/
def State.readFault (s : State) (ch : Channel) (ref : PageRef) : Option FaultCode :=
  let p := s.slot ref.slot
  if p.state = .empty then some .pageState
  else if p.gen ≠ ref.gen then some .stalePage
  else if !p.permits ch then some .notPermitted
  else if p.consume ∧ p.readers ≠ 0 then some .readersFull
  else if 2 ≤ p.readers then some .readersFull
  else none

/-- The writer channel a peer reference names (R36 check 3). -/
def peerOf (n : Nat) : Option Channel :=
  match n with
  | 0 => some .scan
  | 3 => some .codeIn
  | _ => none

/-- The page an OPEN READ names, or the fault of check 3; none of either while its peer writes no page
(R36, R37). -/
def State.readTarget (s : State) (peer : Bool) (slot gen : Nat) : Except FaultCode (Option PageRef) :=
  if peer then
    match peerOf slot with
    | some p => .ok ((s.pageOf p).map fun i => { slot := i, gen := (s.slot i).gen })
    | none => .error .badTarget
  else
    match slotOf slot with
    | some i => .ok (some { slot := i, gen })
    | none => .error .badTarget

/-- The page a reader waits for in WAIT_COMPLETE is no longer being written (R38). -/
def State.pageDone (s : State) (ref : PageRef) : Bool :=
  (s.slot ref.slot).state != .filling || (s.slot ref.slot).gen != ref.gen

/-- The fault that the page an OPEN READ names gives it (R36 checks 3 to 8). One that was paused in WAIT_COMPLETE
goes back to its wait while its page is being written, without a check (R55, R38). -/
def State.targetFault (s : State) (ch : Channel) (peer : Bool) (slot gen : Nat) : Option FaultCode :=
  match (s.chan ch).resolved with
  | some ref => if s.pageDone ref then s.readFault ch ref else none
  | none =>
    match s.readTarget peer slot gen with
    | .ok ref => ref.bind (s.readFault ch)
    | .error code => some code

/-- A relink waits, RUNNING, for the motor to rest and, on Print, for the queue to empty (R85, R122). -/
def State.linkReady (s : State) (ch : Channel) (m : MotorId) : Bool :=
  (s.motor m).link.isNone ||
    (!(s.motor m).moving &&
      (ch != .print || (s.print.queue.isEmpty && !s.chans.print.reading)))

/-- LINK MOTOR finds a ramp too fast for the scanner line time, its waits being over (R43, R122). -/
def State.tooFast (s : State) (ch : Channel) (m : MotorId) (spl : Nat) (n : Fin 4) : Bool :=
  s.linkReady ch m && !((s.motor m).moving && (s.motor m).link.isNone) && ch == .scan &&
    decide (spl * (s.ramp n).getD 0 0 < s.scan.tLine)

/-- The fault that an entry gives when its channel executes it in this state (R50, 02 section 2.12). -/
def State.entryFault (s : State) (ch : Channel) : Entry → Option FaultCode
  | .unknown => some .badEntry
  | .notFetched => some .badAddress
  | .openWrite .. =>
    if !isWriter ch then some .badEntry
    else if (s.chan ch).openPage.isSome then some .pageOpen else none
  | .openRead _ _ peer slot gen _ =>
    if isWriter ch then some .badEntry
    else if (s.chan ch).openPage.isSome then some .pageOpen else s.targetFault ch peer slot gen
  | .lines count _ _ =>
    if count = 0 then some .badEntry
    else if (s.chan ch).openPage.isNone then some .noPage
    else if s.lacksLink ch then some .notLinked else none
  | .setProcessing _ _ mode _ => if ch ≠ .scan ∨ 1 < mode then some .badEntry else none
  | .linkMotor spl n _ =>
    match motorFor ch with
    | some m => if s.tooFast ch m spl n then some .linkTooFast else none
    | none => some .badEntry
  | .unlink => if (motorFor ch).isSome then none else some .badEntry
  | .close => if (s.chan ch).openPage.isNone then some .noPage else none
  | .jump target => if s.page.geo.goodSource target 16 then none else some .badAddress
  | .waitLine .. => none
  | .mark _ => none
  | .finish => none

/-- The entry a channel is about to execute: it is current and not yet begun, the channel is RUNNING (or is
Code-out with a frame on offer, or come out of WAIT_REPORT under a request), and no notice of it stands out. -/
def State.atTurn (s : State) (ch : Channel) : Option Entry :=
  let c := s.chan ch
  match c.current with
  | some e =>
    if (c.state = .running ∨ c.state = .waiting .device ∨ c.state = .waiting .report) ∧
        c.phase = .fresh ∧ c.notices = [] then
      some e.entry
    else none
  | none => none

/-- The entry a channel is about to execute gives a fault, which is taken before any boundary and replaces a
pause request (R50). -/
def State.faultStands (s : State) (ch : Channel) : Bool :=
  (s.atTurn ch).any fun e => (s.entryFault ch e).isSome

/-! ## Line boundaries (R53, R54) -/

/-- No line of Scan is in flight. -/
def State.scanQuiet (s : State) : Bool := s.scan.bufA.state == .free && s.scan.bufB.state == .free

/-- The channel is WAITING (R29). -/
def Chan.isWaiting (c : Chan) : Bool :=
  match c.state with
  | .waiting _ => true
  | .idle => false
  | .running => false
  | .paused => false

/-- The channel has come to its line boundary, its request aside (R53). One that is WAITING is at it whatever
read or frame of it is under way and whatever Scan's motor does, but for the lines in flight of Scan and Code-in;
the frame ends as usual afterwards (05 R101). An ABORT still lets a read end first (R101, 04 R94; log 49). -/
def State.atBoundary (s : State) (ch : Channel) (abort : Bool) : Bool :=
  match ch with
  | .scan => s.scanQuiet && (abort || !s.motors.m0.moving || s.motors.m0.link.isNone ||
      !s.chans.scan.atLines || s.chans.scan.isWaiting)
  | .print => !s.chans.print.reading || (!abort && s.chans.print.isWaiting)
  | .codeOut =>
    !s.chans.codeOut.reading && (s.coder.send != .sending || s.chans.codeOut.isWaiting)
  | .codeIn => s.coder.recv != .receiving && s.coder.recv != .storing

/-- A notice keeps the channel from its line boundary: it is in WAIT_REPORT until its notices are posted, or the
notice is its final one. A notice that has its slot and is being written does not: the channel has gone on (R33,
R53). -/
def Chan.reportHolds (c : Chan) : Bool :=
  (c.state == .waiting .report && !c.notices.isEmpty) || c.notices.any Notice.final

/-- A channel with a pause request has reached its boundary: in WAIT_REPORT its notice is posted first, and a fault
of its entry is taken first (R50, R53, R54). A notice in writing is posted before the one that the boundary calls
for (R33, R51). A PAUSED channel is at it, but for a line read of Print that goes on (04 R94; log 49). -/
def State.boundaryDue (s : State) (ch : Channel) : Bool :=
  let c := s.chan ch
  match c.pauseReq with
  | none => false
  | some (.pause _) =>
    c.state != .idle && c.state != .paused && !c.reportHolds && !s.faultStands ch &&
      s.atBoundary ch false
  | some .abort =>
    (c.state == .paused && !(ch == .print && c.reading)) ||
      (c.state != .idle && !c.reportHolds && !s.faultStands ch && s.atBoundary ch true)

/-- The channel waits for a reason, and is not at the boundary of a pause request. -/
def State.waitsFor (s : State) (ch : Channel) (w : Wait) : Bool :=
  (s.chan ch).state == .waiting w && !s.boundaryDue ch

/-- The entry a channel holds as current. -/
def State.currentEntry (s : State) (ch : Channel) : Option Entry :=
  (s.chan ch).current.map fun e => e.entry

/-! ## Processing selections (R42, 03 R75) -/

/-- A LOAD TABLE into a bank is in flight (R42, 03 R73). -/
def State.bankLoading (s : State) (shadingB toneB : Bool) : Bool :=
  match s.recUnit.work with
  | some (.load l) => l.table == .shading shadingB || l.table == .tone toneB
  | _ => false

/-- Scan's processing selection is replaced, and the entry ends (R42). -/
def State.select (s : State) (ch : Channel) (x : Selection) : State :=
  (s.setChan ch { s.chan ch with state := .running, sel := x }).endEntry ch

/-- The selection whose banks Scan has waited for in WAIT_TABLE, once no load of them is in flight. -/
def State.tableAwaited (s : State) : Option Selection :=
  match s.currentEntry .scan with
  | some (.setProcessing shadingB toneB mode threshold) =>
    if s.waitsFor .scan .table ∧ s.bankLoading shadingB toneB = false then
      some { shadingB, toneB, diffuse := mode == 1, threshold }
    else none
  | _ => none

/-- The SET PROCESSING that waits for a table ends when it waits no longer (03 R75). -/
def State.endTableWait (s : State) : State :=
  match s.tableAwaited with
  | some x => s.select .scan x
  | none => s

/-- A pause request of kind PAUSE reaches a channel (R53, R142). -/
def State.askPause (s : State) (ch : Channel) (cause : PauseCause) : State :=
  let c := s.chan ch
  if c.state = .idle ∨ c.state = .paused ∨ c.pauseReq.isSome ∨ s.finalPending ch then s
  else (s.setChan ch { c with pauseReq := some (.pause cause) }).shrinkFor ch

end Sys2Proof.Machine
end

