-- ==== Sys2Proof/Machine/Traffic.lean ====
section
/-! DEFINITION. The events at which lines move on the three paths: triggers (03), copies in the print
queue (04), steps of motors (06 R125), and what goes on inside every step of the block when its own
effect is done (95_what_each_step_holds.md): `settle`. -/

namespace Sys2Proof.Machine

/-! ## Triggers (03 R62, R63, R64) -/

/-- The page of Scan loses a line (R62, R64). -/
def State.truncateScan (s : State) : State :=
  match s.chans.scan.openPage with
  | some p => s.setSlot p.slot { s.slot p.slot with truncated := true }
  | none => s

/-- The buffer a triggered line takes (R63). -/
def State.freeBuffer (s : State) : Option BufId :=
  if s.scan.bufA.state = .free then some .bufA
  else if s.scan.bufB.state = .free then some .bufB
  else none

/-- A capture begins: SSTART is pulsed, the sensor is BUSY, and T_line is taken as it stands (R59). -/
def ScanPath.startCapture (x : ScanPath) : ScanPath :=
  { x with busy := true, captureTicks := x.tLine, starts := x.starts + 1 }

/-- A triggered line takes its buffer, and the sensor when it is FREE (R63, R59). -/
def State.armBuffer (s : State) (b : BufId) (page : PageRef) (n addr : Nat) (tail : Bool) : State :=
  let s1 := s.setBuf b
    { state := if s.scan.busy then .armed else .capturing
      line := n
      page
      addr
      sel := s.chans.scan.sel
      tail
      dots := []
      counts := Counts.zero
      error := 0 }
  if s.scan.busy then s1
  else { s1 with scan := s1.scan.startCapture }

/-- Whether the next line is a tail line beyond the requested tail (R40, R63). -/
def Chan.nextIsTail (c : Chan) : Bool :=
  match c.edge, c.current.bind fun e => e.entry.edgeOption with
  | some k, some o => decide (o.tail < k + 1)
  | _, _ => false

/-- A completed group of motor 0 linked to Scan is offered to the scan path (R62, R63, R64). One for which
page memory has no band truncates the page, as one without a buffer does (log 55). -/
def State.offerTrigger (s : State) : State :=
  let c := s.chans.scan
  match c.openPage with
  | none => s
  | some p =>
    if c.state = .running ∧ c.inLines then
      match s.freeBuffer with
      | none => s.truncateScan
      | some b =>
        match s.assignLine p.slot true with
        | (_, .limit) => s
        | (_, .noBand) => s.truncateScan
        | (s1, .line n addr) =>
          let s2 := (s1.armBuffer b p n addr c.nextIsTail).countLine .scan
          if s2.chans.scan.remaining = 0 then s2.endIfDone .scan
          else if s2.atLimit .scan then s2.endAtLimit .scan
          else s2
    else s.truncateScan

/-! ## The print queue (04) -/

/-- Copies the next line will give (R79). -/
def Chan.nextCopies (c : Chan) : Nat := (c.scaleAcc + c.scale) / 256

/-- Phases of a copy (R82). -/
def phasesOf (dmax : Nat) (c : Counts) : Nat :=
  if c.c0 + c.c1 + c.c2 + c.c3 ≤ dmax then 1
  else if c.c0 + c.c1 ≤ dmax ∧ c.c2 + c.c3 ≤ dmax then 2
  else 4

/-- Burn time of a copy (R83). -/
def burnTime (phases width : Nat) : Nat := Config.shiftLatchTicks + phases * width

/-- The cap of a copy, `none` for −1 (R84). -/
def capOf (t : List Nat) (spl burn : Nat) : Option Nat :=
  ((List.range t.length).filter fun k => decide (burn ≤ spl * t.getD k 0)).getLast?

/-- The cap under the Print channel's link. -/
def State.printCap (s : State) (burn : Nat) : Option Nat :=
  s.motors.m1.link.bind fun l => capOf (s.ramp l.ramp) l.spl burn

/-- Counts of a trailer, each taken as 432 when it is above it (R81). -/
def Counts.limited (c : Counts) : Counts :=
  ⟨min c.c0 432, min c.c1 432, min c.c2 432, min c.c3 432⟩

/-- A copy as it enters the queue (R81 to R84). -/
def State.newCopy (s : State) (line index : Nat) (slot : List Byte) : Copy :=
  let counts := (trailerCounts slot).limited
  let phases := phasesOf s.print.dmax counts
  let width := s.print.strobe.getD s.print.headClass 0
  let burn := burnTime phases width
  { line, index, dots := slot.take Config.bytesPerLine, counts, phases, width, burn,
    cap := s.printCap burn, ended := false }

/-- Copies enter the queue at its tail; into an empty queue the first becomes head copy (R79, R86). -/
def State.enterQueue (s : State) (copies : List Copy) : State :=
  { s with print :=
      { s.print with
        queue := s.print.queue ++ copies
        head := if s.print.queue = [] ∧ copies ≠ [] then .shifting else s.print.head } }

/-- The head copy leaves the queue, and the burn of the next one begins (R89, R86). -/
def State.headLeaves (s : State) : State :=
  { s with print :=
      { s.print with
        queue := s.print.queue.drop 1
        head := if (s.print.queue.drop 1).isEmpty then .idle else .shifting } }

/-! ## A step of a motor (R113, R124, R125) -/

/-- The phase pointer one step on (R113). -/
def stepPhase (len phase : Nat) : Dir → Nat
  | .forward => (phase + 1) % len
  | .reverse => (phase + len - 1) % len

/-- A position in −8388608..8388607 (R111). -/
def wrapPosition (p : Int) : Int :=
  if p = 8388608 then -8388608 else if p = -8388609 then 8388607 else p

/-- The position one step on (R111, R113). -/
def stepPosition (p : Int) : Dir → Int
  | .forward => wrapPosition (p + 1)
  | .reverse => wrapPosition (p - 1)

/-- The direction a motor steps in: a host move's, forward otherwise (R113). -/
def Motor.dir (x : Motor) : Dir := x.move.elim .forward fun v => v.dir

/-- Phase, position and index at the instant of a step (R113, R125). -/
def Motor.issue (x : Motor) : Motor :=
  { x with
    k := x.committed
    committed := none
    due := none
    heldStep := false
    dark := false
    phase := stepPhase x.phaseLen x.phase x.dir
    position := stepPosition x.position x.dir }

/-- The completed group of a linked motor has its effect (R124). -/
def State.groupDone (s : State) : MotorId → State
  | .m0 => s.offerTrigger
  | .m1 => s.headLeaves
  | .m2 => s

/-- The group count of a linked motor rises, and a completed group has its effect (R124). -/
def State.countGroup (s : State) (m : MotorId) : State :=
  let x := s.motor m
  match x.link with
  | none => s
  | some l =>
    if l.spl ≤ x.group + 1 then (s.setMotor m { x with group := 0 }).groupDone m
    else s.setMotor m { x with group := x.group + 1 }

/-- The decision at a step commits an index, or the motor reaches rest (R125, R126). -/
def State.commitOrRest (s : State) (m : MotorId) : State :=
  let x := s.motor m
  let j := s.govern m x.k
  let s1 :=
    match j with
    | some i => s.setMotor m { x with committed := some i, due := some (x.run.getD i 0) }
    | none => s.reachRest m
  s1.afterDecision m j

/-- The stop budget, and a host move's remaining steps, fall by 1 (R125). -/
def State.fallBudgets (s : State) (m : MotorId) : State :=
  let x := s.motor m
  s.setMotor m
    { x with
      budget := x.budget.map (· - 1)
      remaining := if x.move.isSome then x.remaining - 1 else x.remaining }

/-- A step is issued: outputs, group, budgets, then the decision (R125). -/
def State.issueStep (s : State) (m : MotorId) : State :=
  let s1 := s.setMotor m (s.motor m).issue
  let s2 := { s1 with motors := { s1.motors with steps := s1.motors.steps + 1 } }
  ((s2.countGroup m).fallBudgets m).commitOrRest m

/-- The due step is the last of the head copy's group and its burn has not ended (R88). -/
def State.stepHeld (s : State) (m : MotorId) : Bool :=
  m == .m1 &&
    (s.motors.m1.link.any fun l =>
      decide (l.spl ≤ s.motors.m1.group + 1) && (s.print.queue.head?.any fun c => !c.ended))

/-- The burn of the head copy ends: a held step is issued; under abort clearing the copy leaves and the
final notice is called for (R88, R94). -/
def State.burnEnd (s : State) : State :=
  let ended := s.print.queue.modifyHead fun c => { c with ended := true }
  let s1 := { s with print := { s.print with queue := ended, head := .ended } }
  match s.print.clearing with
  | some n =>
    { s1 with print := { s1.print with queue := [], head := .idle, clearing := none } }.notify .print n
  | none => if s1.motors.m1.heldStep then s1.issueStep .m1 else s1

/-! ## Line requests of the channels (R41, R79, R102) -/

/-- The entry of a reader ends early at the end of its page (R41). -/
def State.endShort (s : State) (ch : Channel) : State :=
  let c := s.chan ch
  let count := c.current.elim 0 fun e => e.entry.lineCount
  s.notifyEnding ch { body := .readShort (count - c.remaining) count, page := c.openPage }

/-- A reader in a LINES entry may ask for its next line (R33, R41). -/
def Chan.mayAsk (c : Chan) : Bool :=
  c.state == .running && c.inLines && c.pauseReq.isNone && c.notices.isEmpty && !c.reading &&
    decide (0 < c.remaining)

/-- A reader asks page memory for its next line (R15, R41). -/
def State.askRead (s : State) (ch : Channel) (copies : Option Nat) : State :=
  let c := s.chan ch
  match c.openPage with
  | none => s
  | some p =>
    match s.readLine p.slot c.position with
    | .line _ =>
      let s1 := s.setChan ch { c with reading := true }
      { s1 with print := { s1.print with readRequest := if copies.isSome then copies else s1.print.readRequest } }
    | .notYet => s.setChan ch { c with state := .waiting .lines }
    | .pageEnded => s.endShort ch

/-- Print asks for a line when the queue has room for its copies (R79) and its motor is not halted at
rest (R56). -/
def State.askPrint (s : State) : State :=
  let c := s.chans.print
  if c.mayAsk ∧ s.print.queue.length + c.nextCopies ≤ Config.queueRoom then
    s.askRead .print (some c.nextCopies)
  else s

/-- Code-out asks for a line when the frame of its last one has been taken (R41, R100). -/
def State.askCodeOut (s : State) : State :=
  if s.chans.codeOut.mayAsk ∧ s.coder.sendBuf = none ∧ s.coder.send = .idle then
    s.askRead .codeOut none
  else s

/-- Code-in asks page memory for the slot of its next line (R102, R11). -/
def State.askCodeIn (s : State) : State :=
  let c := s.chans.codeIn
  if c.state = .running ∧ c.inLines ∧ c.pauseReq = none ∧ c.notices = [] ∧ c.held = none ∧
      0 < c.remaining ∧ s.coder.recv = .idle then
    match c.openPage with
    | none => s
    | some p =>
      match s.assignLine p.slot false with
      | (_, .limit) => s.endAtLimit .codeIn
      | (_, .noBand) => s.setChan .codeIn { c with state := .waiting .space }
      | (s1, .line n _) =>
        let s2 := s1.countLine .codeIn
        s2.setChan .codeIn
          { s2.chans.codeIn with
            held := some n
            limitDue := decide (0 < s2.chans.codeIn.remaining) && s2.atLimit .codeIn }
  else s

/-- The receive direction is READY exactly while Code-in can take a line frame (R102, R108). -/
def State.setReady (s : State) : State :=
  let c := s.chans.codeIn
  let on := c.state = .running ∧ c.inLines ∧ c.pauseReq = none ∧ c.notices = [] ∧ c.held.isSome ∧
    s.coder.resetLow = false
  if s.coder.recv = .idle ∧ on then { s with coder := { s.coder with recv := .ready } }
  else if s.coder.recv = .ready ∧ ¬ on then { s with coder := { s.coder with recv := .idle } }
  else s

/-- A channel in a LINES entry whose linked motor is halted and at rest waits in WAIT_MOTOR (R29, R56). One
whose entry became current while the motor still runs out a RAMP halt's path stays RUNNING to its rest (log
59). -/
def State.waitMotor (s : State) (ch : Channel) (m : MotorId) : State :=
  let c := s.chan ch
  let x := s.motor m
  if c.state = .running ∧ c.inLines ∧ c.notices = [] ∧ x.link.isSome ∧ x.halted.isSome ∧
      x.moving = false then
    s.setChan ch { c with state := .waiting .motor }
  else s

/-! ## Records: taking commands and giving report slots (10 R182, R187, R188) -/

/-- The record unit may read commands (R182). -/
def State.mayRead (s : State) : Bool :=
  s.atReady && (s.power.state == .run || s.power.state == .drain || s.power.state == .doze)

/-- WAITING goes to FETCHING when the indices differ and reading is permitted (R182). -/
def State.fetchNext (s : State) : State :=
  if s.recUnit.state = .waiting ∧ s.mayRead ∧ s.recUnit.consumer ≠ s.host.producer then
    { s with recUnit := { s.recUnit with state := .fetching } }
  else s

/-- A source's entry is reportable (R147). -/
def State.reportable (s : State) (i : Fin 24) : Bool :=
  (s.source i).entry.isSome && decide (s.sensor.threshold < (s.source i).priority)

/-- The better of two sources: higher priority, then lower number; the first is the lower one (R148). -/
def State.better (s : State) (a : Option (Fin 24)) (b : Fin 24) : Option (Fin 24) :=
  if s.reportable b then
    match a with
    | none => some b
    | some i => if (s.source i).priority < (s.source b).priority then some b else some i
  else a

/-- The entry chosen at a grant (R148). -/
def State.chosenSource (s : State) : Option (Fin 24) := ids24.foldl s.better none

/-- The event unit may ask for a report slot, from READY on (R148, R173; log 37), after a wake once the requests
that waited through self-refresh have been served (08 R163 steps 1 and 4). -/
def State.eventAsks (s : State) : Bool :=
  s.boot.stage == .ready && !s.port.backlog &&
    (s.power.state == .run || s.power.state == .drain || s.power.state == .doze)

/-- The gateway of a reported ACTIVE entry is disarmed (R148). -/
def State.disarm (s : State) (i : Fin 24) (kind : EventKind) : State :=
  match lineOf i.val with
  | some g =>
    if kind = .active ∧ ((s.gate g).cfg.mode = .levelHigh ∨ (s.gate g).cfg.mode = .levelLow) then
      s.setGate g { s.gate g with armed := false }
    else s
  | none => s

/-- A report is in writing. -/
def State.startWriting (s : State) (who : Producer) (bytes : List Byte) : State :=
  { s with recUnit := { s.recUnit with writing := some { who, bytes } } }

/-- The event unit takes a granted slot (R148, R149). -/
def State.grantEvent (s : State) : State :=
  match s.chosenSource with
  | none => s
  | some i =>
    match (s.source i).entry with
    | none => s
    | some e =>
      let s1 := s.setSource i { s.source i with entry := none }
      (s1.disarm i e.kind).startWriting .event (eventBytes i (s.source i).priority e)

/-- The channel whose notice is served first (R187). -/
def State.noticeChannel (s : State) : Option Channel :=
  allChannels.find? fun ch => !(s.chan ch).notices.isEmpty

/-- The report-slot arbiter gives a free slot (R186, R187). -/
def State.grantSlot (s : State) : State :=
  if s.recUnit.writing.isSome ∨ s.ringFull then s
  else
    match s.recUnit.state, s.recUnit.completion with
    | .completing, some c => s.startWriting .completion c.bytes
    | _, _ =>
      match s.noticeChannel with
      | some ch =>
        match (s.chan ch).notices.head? with
        | some n => s.startWriting (.notice ch n.final) (n.bytes ch (s.chan ch))
        | none => s
      | none => if s.eventAsks then s.grantEvent else s

/-- The report in writing is this channel's notice. -/
def State.writingNotice (s : State) (ch : Channel) : Bool :=
  match s.recUnit.writing with
  | some w => w.who == .notice ch true || w.who == .notice ch false
  | none => false

/-- A channel whose notice found no slot waits in WAIT_REPORT: its only one, or one behind the notice of it that is
in writing, a CHAIN END behind PAUSED (R28, R33). -/
def State.waitReport (s : State) (ch : Channel) : State :=
  let c := s.chan ch
  if (c.state = .running ∨ c.state = .waiting .device) ∧ c.notices ≠ [] ∧
      (s.writingNotice ch = false ∨ 1 < c.notices.length) then
    s.setChan ch { c with state := .waiting .report }
  else s

/-- Code-out waits in WAIT_DEVICE while its frame has not begun (R100, log 13). -/
def State.waitDevice (s : State) : State :=
  let c := s.chans.codeOut
  if c.state = .running ∧ s.coder.send = .offering ∧ c.notices = [] then
    s.setChan .codeOut { c with state := .waiting .device }
  else if c.state = .waiting .device ∧ s.coder.send ≠ .offering then
    s.setChan .codeOut { c with state := .running }
  else s

/-! ## What follows within every step -/

/-- The line requests, ends of entries and motor waits of the channels. -/
def State.settleLines (s : State) : State :=
  let s1 := ((s.endOver .scan).endOver .codeIn)
  let s2 := (s1.waitMotor .scan .m0).waitMotor .print .m1
  (s2.askPrint.askCodeOut.askCodeIn).setReady

/-- The governor's decisions from rest (R125, log 22). -/
def State.settleMotors (s : State) : State :=
  ((s.restDecision .m0).restDecision .m1).restDecision .m2

/-- The report slots and the waits for them. -/
def State.settleReports (s : State) : State :=
  let s1 := s.fetchNext.grantSlot
  ((((s1.waitReport .scan).waitReport .print).waitReport .codeOut).waitReport .codeIn).waitDevice

/-- What the block does of itself at the end of every step, in this order: a band that has become free is
offered to the governor's reservation before it can end Code-in's wait (log 43). -/
def State.settle (s : State) : State :=
  (s.settleLines.settleMotors.settleReports).judgeCycle.arbitrate

/-- The answer of a step: its effect and what follows within it; not due, nothing (log 1). -/
def runIf (due : Bool) (s effect : State) : Host.Outcome State Fault Refusal :=
  stepIf due s effect.settle

end Sys2Proof.Machine
end

