-- ==== Sys2Proof/Machine/Records.lean ====
section
/-! DEFINITION. The record unit's meanings: fetching and completing commands, writing reports and index
words (10_command_and_report_rings.md), with the page query writes (01 R21). -/

namespace Sys2Proof.Machine

/-! ## Executing and completing a command (R183, R184, R185) -/

/-- The command under execution: in hand, with no work of it still under way. -/
def State.cmd (s : State) : Option (List Byte) :=
  if s.recUnit.state = .executing ∧ s.recUnit.work = none then s.recUnit.command else none

/-- A command of kind `k` is under execution, and its operands are those of the row. -/
def State.cmdIs (s : State) (k : Nat) (operands : List Byte → Bool) : Bool :=
  s.cmd.any fun bs => cmdKind bs == k && operands bs

/-- The bytes of the command in hand. -/
def State.cmdBytes (s : State) : List Byte := s.recUnit.command.getD []

/-- The command in hand has ended with a result: its completion asks for a slot (R183, R185, R188). REPORT_STALL
is set when the ring is full at that request, not when it fills before the completion gets its slot (log 61). -/
def State.complete (s : State) (code : ResultCode) (result : List Nat) : State :=
  { s with recUnit :=
      { s.recUnit with
        state := .completing
        work := none
        completion :=
          some { kind := cmdKind s.cmdBytes, tag := cmdTag s.cmdBytes, code, result }
        badKind := s.recUnit.badKind || code == .badKind
        badAddress := s.recUnit.badAddress || code == .badAddress
        stall := s.recUnit.stall || s.ringFull } }

/-- A refused command: its completion carries the code and zero result bytes (R183, R185). -/
def State.refuse (s : State) (code : ResultCode) : State := s.complete code []

/-- A command refused for its page reference (R8). -/
def State.refuseRef (s : State) : RefAnswer → State
  | .noSlot => s.refuse .badTarget
  | .isEmpty => s.refuse .pageState
  | .stale => s.markStale.refuse .stalePage
  | .good _ => s

/-- An accepted command whose work goes on (R184). -/
def State.startWork (s : State) (w : Work) : State :=
  { s with recUnit := { s.recUnit with work := some w } }

/-- COMMAND_FETCH_END (R182): the command is read as it stands, and executed. -/
def execCommandFetchEnd (s : State) : Host.Outcome State Fault Refusal :=
  let bs := Memory.readBytes s.mem (s.page.geo.cmdBase + 16 * s.recUnit.consumer) 16
  runIf (s.port.busy == some .commandFetch) s
    { s.releasePort with recUnit := { s.recUnit with state := .executing, command := some bs } }

/-- UNKNOWN_COMMAND (R183). -/
def execUnknownCommand (s : State) : Host.Outcome State Fault Refusal :=
  runIf (s.cmd.any fun bs => cmdKind bs == 0 || decide (20 < cmdKind bs)) s (s.refuse .badKind)

/-! ## Posting reports (R186) -/

/-- A completion has been posted: the consumer index advances (R182, R191). -/
def State.completionPosted (s : State) : State :=
  { s with recUnit :=
      { s.recUnit with
        state := .advancing
        completion := none
        command := none
        consumer := (s.recUnit.consumer + 1) % s.page.geo.cmdSize
        completed := s.recUnit.completed + 1 } }

/-- The state of a channel whose last notice has been posted: WAIT_REPORT is left (R33). Under a request the channel
stays shown in it, for it is at the boundary of a WAITING channel at this instant, or once its lines in flight have
been stored (R53; log 70). -/
def Chan.afterReport (c : Chan) : ChState :=
  if c.state = .waiting .report ∧ c.pauseReq = none then .running else c.state

/-- A channel's notice has been posted: a final one makes it IDLE, with its window empty (R28, log 33);
the entry that called for its last notice ends, and WAIT_REPORT is left (R33), but for a request (log 70). -/
def State.noticePosted (s : State) (ch : Channel) (final : Bool) : State :=
  let c := s.chan ch
  let c1 := { c with notices := c.notices.drop 1, posted := c.posted + 1 }
  if final then
    s.setChan ch
      { c1 with
        state := .idle, current := none, next := none, fetch := none, phase := .fresh
        remaining := 0, pauseReq := none }
  else if c1.notices ≠ [] then s.setChan ch c1
  else
    (s.setChan ch { c1 with state := c.afterReport }).endPosted ch

/-- The BOOT report has been posted (09 R173). -/
def State.bootPosted (s : State) : State :=
  { s with boot := { s.boot with ready := .producerWord } }

/-- What the post of a report does beyond the ring. -/
def State.posted (s : State) : Producer → State
  | .completion => s.completionPosted
  | .notice ch final => s.noticePosted ch final
  | .event => { s with sensor := { s.sensor with posted := s.sensor.posted + 1 } }
  | .boot => s.bootPosted

/-- The report is in its entry: the producer index advances and its word is to be written (R186). -/
def State.advanceProducer (s : State) (w : Writing) : State :=
  { s.releasePort with
    mem := Memory.writeBytes s.mem (s.page.geo.repBase + 16 * s.recUnit.producer) w.bytes
    recUnit :=
      { s.recUnit with
        writing := none
        producer := (s.recUnit.producer + 1) % s.page.geo.repSize
        producerAsk := true
        posted := s.recUnit.posted + 1 } }

/-- REPORT_WRITE_END (R186). A report already in writing when the host writes a consumer value that makes the
ring full is posted at the write's end all the same (R189; log 66). -/
def execReportWriteEnd (s : State) : Host.Outcome State Fault Refusal :=
  match s.recUnit.writing with
  | some w => runIf (s.port.busy == some .reportWrite) s ((s.advanceProducer w).posted w.who)
  | none => runIf false s s

/-- An index word is written with the value it had at the grant (R186, R182). -/
def State.writeWord (s : State) (addr value : Nat) : State :=
  { s.releasePort with mem := Memory.writeBytes s.mem addr (le16 value) }

/-- PRODUCER_INDEX_WRITE_END (R186); at READY the consumer word is written next (09 R173). -/
def execProducerIndexWriteEnd (s : State) : Host.Outcome State Fault Refusal :=
  match s.port.busy with
  | some (.producerWord v) =>
    let s1 := s.writeWord (s.page.geo.idxBase + 2) v
    runIf true s
      { s1 with boot :=
          { s1.boot with
            ready := if s1.boot.ready = .producerWord then .consumerWord else s1.boot.ready } }
  | _ => runIf false s s

/-- CONSUMER_INDEX_WRITE_END (R182); at READY the host can be released (09 R173). -/
def execConsumerIndexWriteEnd (s : State) : Host.Outcome State Fault Refusal :=
  match s.port.busy with
  | some (.consumerWord v) =>
    let s1 := s.writeWord s.page.geo.idxBase v
    if s.boot.ready = .consumerWord then
      runIf true s { s1 with boot := { s1.boot with ready := .release } }
    else runIf true s { s1 with recUnit := { s1.recUnit with state := .waiting } }
  | _ => runIf false s s

/-! ## The page query's two record writes (01 R21) -/

/-- PAGE_QUERY_FIRST_WRITE_END (R21). -/
def execPageQueryFirstWriteEnd (s : State) : Host.Outcome State Fault Refusal :=
  match s.recUnit.work with
  | some (.query q) =>
    runIf (s.port.busy == some (.queryWrite false)) s
      { s.releasePort with
        mem := Memory.writeBytes s.mem q.dest (q.data.take 16)
        recUnit := { s.recUnit with work := some (.query { q with second := true }) } }
  | _ => runIf false s s

/-- PAGE_QUERY_WRITE_END (R21): the completion follows. -/
def execPageQueryWriteEnd (s : State) : Host.Outcome State Fault Refusal :=
  match s.recUnit.work with
  | some (.query q) =>
    let s1 :=
      { s.releasePort with mem := Memory.writeBytes s.mem (q.dest + 16) ((q.data.drop 16).take 16) }
    runIf (s.port.busy == some (.queryWrite true)) s (s1.complete .done q.result)
  | _ => runIf false s s

end Sys2Proof.Machine
end

