-- ==== Sys2Proof/Machine/ChannelCommands.lean ====
section
/-! DEFINITION. START CHAIN, STOP CHANNEL and RESUME CHANNEL (02 R52 to R55). -/

namespace Sys2Proof.Machine

/-- An accepted command of kind `k` that returns the part from DOZE to RUN (08 R159). -/
def State.leaveDoze (s : State) (k : Nat) : State :=
  if s.power.state = .doze then
    ({ s with power := { s.power with state := .run } }).raise 22 .resumed (.word k)
  else s

/-- A channel is started on a chain (R52, R30). -/
def State.startChain (s : State) (ch : Channel) (addr : Nat) : State :=
  s.setChan ch
    { s.chan ch with
      state := .running
      entryAddr := addr
      phase := .fresh
      current := none
      next := none
      fetch := some { addr, asCurrent := true, viaJump := false } }

/-- START CHAIN, its checks in order (R52). -/
def State.startCommand (s : State) : State :=
  let bs := s.cmdBytes
  let addr := dwordAt bs 6
  match chanOf (wordAt bs 4) with
  | none => s.refuse .badTarget
  | some ch =>
    if s.power.state = .drain then s.refuse .powerPending
    else if (s.chan ch).state ≠ .idle then s.refuse .busy
    else if !s.page.geo.goodSource addr 16 then s.refuse .badAddress
    else ((s.leaveDoze 1).startChain ch addr).complete .done []

/-- START_CHAIN (R52). -/
def execStartChain (s : State) : Host.Outcome State Fault Refusal :=
  runIf (s.cmdIs 1 fun _ => true) s s.startCommand

/-- STOP CHANNEL with PAUSE (R53). -/
def State.stopPause (s : State) : State :=
  let bs := s.cmdBytes
  match chanOf (wordAt bs 4) with
  | none => s.refuse .badTarget
  | some ch =>
    if wordAt bs 6 ≠ 0 then s.refuse .badRange
    else (s.askPause ch .command).complete .done []

/-- STOP_CHANNEL_PAUSE (R53); an unknown mode, too, is refused here (log 25). -/
def execStopChannelPause (s : State) : Host.Outcome State Fault Refusal :=
  runIf (s.cmdIs 2 fun bs => wordAt bs 6 != 1) s s.stopPause

/-- An ABORT request reaches a channel; Scan's motor is unlinked at the request (R54; log 67). -/
def State.askAbort (s : State) (ch : Channel) : State :=
  let c := s.chan ch
  if c.state = .idle ∨ s.finalPending ch then s
  else
    let cut := ch == .scan && (s.motor .m0).link.isSome
    let s1 := s.setChan ch { c with pauseReq := some .abort, linkCut := c.linkCut || cut }
    match ch with
    | .scan => s1.unlinkMotor .m0
    | .print => s1.shrinkFor .print
    | .codeOut => s1
    | .codeIn => s1

/-- STOP CHANNEL with ABORT (R54). -/
def State.stopAbort (s : State) : State :=
  let bs := s.cmdBytes
  match chanOf (wordAt bs 4) with
  | none => s.refuse .badTarget
  | some ch =>
    if wordAt bs 6 ≠ 1 then s.refuse .badRange
    else (s.askAbort ch).complete .done []

/-- STOP_CHANNEL_ABORT (R54); an unknown mode, too, is refused here (log 25). -/
def execStopChannelAbort (s : State) : Host.Outcome State Fault Refusal :=
  runIf (s.cmdIs 2 fun bs => wordAt bs 6 != 0) s s.stopAbort

/-- A PAUSED channel continues; with its PAUSED notice unposted it waits for it first (R55). An entry whose notice
was posted meanwhile ends. -/
def State.continueChain (s : State) (ch : Channel) : State :=
  let c := s.chan ch
  ((s.setChan ch
    { c with state := if c.notices.isEmpty then .running else .waiting .report }).freeBudget ch).endPosted ch

/-- The state in which RESUME CHANNEL leaves a channel whose request it takes back: its own (R55); WAIT_REPORT
with its notice posted, in which only the request held it, is RUNNING. -/
def Chan.requestGone (c : Chan) : ChState :=
  if c.state = .waiting .report ∧ c.notices = [] then .running else c.state

/-- RESUME CHANNEL (R55). -/
def State.resumeCommand (s : State) : State :=
  match chanOf (wordAt s.cmdBytes 4) with
  | none => s.refuse .badTarget
  | some ch =>
    let c := s.chan ch
    match c.pauseReq with
    | some .abort => s.refuse .busy
    | some (.pause _) =>
      (((s.setChan ch { c with state := c.requestGone, pauseReq := none }).freeBudget ch).endPosted
        ch).complete .done []
    | none =>
      if c.state = .paused then (s.continueChain ch).complete .done []
      else s.refuse .busy

/-- RESUME_CHANNEL (R55). -/
def execResumeChannel (s : State) : Host.Outcome State Fault Refusal :=
  runIf (s.cmdIs 3 fun _ => true) s s.resumeCommand

end Sys2Proof.Machine
end

