-- ==== Sys2Proof/Machine/MotorCommands.lean ====
section
/-! DEFINITION. MOTOR MOVE, MOTOR STOP, MOTOR RESUME and MOTOR RELEASE (06 R118 to R120), with the motor
steps and the hold timer (06 R125, R114). -/

namespace Sys2Proof.Machine

/-- The direction a code names. -/
def dirOf (n : Nat) : Option Dir :=
  match n with
  | 0 => some .forward
  | 1 => some .reverse
  | _ => none

/-- The ramp table a number names. -/
def rampOf (n : Nat) : Option (Fin 4) := if h : n < 4 then some ⟨n, h⟩ else none

/-- An accepted MOTOR MOVE (R118). -/
def State.startMove (s : State) (m : MotorId) (dir : Dir) (count : Nat) (n : Fin 4) (top : Nat) :
    State :=
  let x := s.motor m
  (s.setMotor m
    { x with
      move := some { dir, ramp := n, top, shortened := false }
      remaining := count }).restDecision m

/-- The top index of a ramp as an operand is clamped (R118, R122). -/
def State.clampTop (s : State) (n : Fin 4) (top : Nat) : Nat := min top ((s.ramp n).length - 1)

/-- MOTOR MOVE, its checks in order (R118). -/
def State.moveCommand (s : State) : State :=
  let bs := s.cmdBytes
  let count := dwordAt bs 8
  match motorOf (wordAt bs 4) with
  | none => s.refuse .badTarget
  | some m =>
    match dirOf (wordAt bs 6), rampOf (wordAt bs 12) with
    | some dir, some n =>
      if count = 0 ∨ 16777215 < count then s.refuse .badRange
      else if s.power.state = .drain then s.refuse .powerPending
      else if (s.motor m).link.isSome then s.refuse .motorLinked
      else if (s.motor m).moving ∨ (s.motor m).halted.isSome then s.refuse .motorBusy
      else
        let top := s.clampTop n (wordAt bs 14)
        ((s.leaveDoze 4).startMove m dir count n top).complete .done [top]
    | _, _ => s.refuse .badRange

/-- MOTOR_MOVE (R118). -/
def execMotorMove (s : State) : Host.Outcome State Fault Refusal :=
  runIf (s.cmdIs 4 fun _ => true) s s.moveCommand

/-- The remaining steps of a host move are cut to the stop path of the committed index (R119). -/
def Motor.stopRamp (x : Motor) : Motor :=
  match x.move, x.committed with
  | some v, some j =>
    { x with
      remaining := min x.remaining (j + 1)
      move := some { v with shortened := v.shortened || decide (j + 1 < x.remaining) } }
  | _, _ => x

/-- MOTOR STOP with RAMP (R119). -/
def State.stopRampCommand (s : State) : State :=
  let bs := s.cmdBytes
  match motorOf (wordAt bs 4) with
  | none => s.refuse .badTarget
  | some m =>
    if wordAt bs 6 ≠ 0 then s.refuse .badRange
    else if (s.motor m).link.isSome then s.refuse .motorLinked
    else (s.setMotor m (s.motor m).stopRamp).complete .done []

/-- MOTOR_STOP_RAMP (R119); an unknown mode, too, is refused here (log 25). -/
def execMotorStopRamp (s : State) : Host.Outcome State Fault Refusal :=
  runIf (s.cmdIs 5 fun bs => wordAt bs 6 != 1) s s.stopRampCommand

/-- MOTOR STOP with IMMEDIATE (R119). -/
def State.stopNowCommand (s : State) : State :=
  let bs := s.cmdBytes
  match motorOf (wordAt bs 4) with
  | none => s.refuse .badTarget
  | some m =>
    if wordAt bs 6 ≠ 1 then s.refuse .badRange
    else (s.haltMotor m { mode := .immediate, cause := .command }).complete .done []

/-- MOTOR_STOP_IMMEDIATE (R119); an unknown mode, too, is refused here (log 25). -/
def execMotorStopImmediate (s : State) : Host.Outcome State Fault Refusal :=
  runIf (s.cmdIs 5 fun bs => wordAt bs 6 != 0) s s.stopNowCommand

/-- MOTOR RESUME (R120). -/
def State.motorResumeCommand (s : State) : State :=
  match motorOf (wordAt s.cmdBytes 4) with
  | none => s.refuse .badTarget
  | some m => (s.setMotor m { s.motor m with halted := none }).complete .done []

/-- MOTOR_RESUME (R120). -/
def execMotorResume (s : State) : Host.Outcome State Fault Refusal :=
  runIf (s.cmdIs 6 fun _ => true) s s.motorResumeCommand

/-- A motor in HOLD becomes OFF, its hold timer stopped (R114, R120, 08 R160). -/
def Motor.release (x : Motor) : Motor :=
  if x.state = .hold then { x with state := .off, holdTimer := none } else x

/-- MOTOR RELEASE (R120). -/
def State.motorReleaseCommand (s : State) : State :=
  match motorOf (wordAt s.cmdBytes 4) with
  | none => s.refuse .badTarget
  | some m =>
    if (s.motor m).moving then s.refuse .motorBusy
    else (s.setMotor m (s.motor m).release).complete .done []

/-- MOTOR_RELEASE (R120). -/
def execMotorRelease (s : State) : Host.Outcome State Fault Refusal :=
  runIf (s.cmdIs 7 fun _ => true) s s.motorReleaseCommand

/-- MOTOR_STEP (R125): the committed step of a MOVING motor falls due; one that must wait for the burn
of the head copy is held (R88). -/
def execMotorStep (m : MotorId) (s : State) : Host.Outcome State Fault Refusal :=
  let x := s.motor m
  runIf (x.moving && x.committed.isSome && !x.heldStep) s
    (if s.stepHeld m then s.setMotor m { x with heldStep := true } else s.issueStep m)

/-- HOLD_TIMER_EXPIRY (R114), under the auto-release option the timer was loaded with. -/
def execHoldTimerExpiry (m : MotorId) (s : State) : Host.Outcome State Fault Refusal :=
  let x := s.motor m
  runIf (x.state == .hold && x.holdTimer.isSome) s
    (s.setMotor m { x with state := if x.timerRelease then .off else .hold, holdTimer := none })

end Sys2Proof.Machine
end

