-- ==== Sys2Proof/Machine/Tables.lean ====
section
/-! DEFINITION. LOAD TABLE for the twelve tables, its bursts, and HEAD CLASS (03 R72 to R74, 04 R91, R92,
06 R116, R117). -/

namespace Sys2Proof.Machine

/-- A selection names a scan table's bank. -/
def Selection.names (x : Selection) : Table → Bool
  | .shading b => x.shadingB == b
  | .tone b => x.toneB == b
  | .strobe => false
  | .ramp _ => false
  | .phase _ => false

/-- A scan table's bank is in use (R72). -/
def State.bankInUse (s : State) (t : Table) : Bool :=
  (s.chans.scan.state != .idle && s.chans.scan.sel.names t) ||
    (s.scan.bufA.state != .free && s.scan.bufA.sel.names t) ||
    (s.scan.bufB.state != .free && s.scan.bufB.sel.names t)

/-- A MOVING motor uses a ramp (R116). -/
def State.rampInUse (s : State) (n : Fin 4) : Bool :=
  allMotors.any fun m => (s.motor m).moving && (s.motor m).rampUsed == some n

/-- The first index and the count suit the table (R73, R92, R116, R117). -/
def Table.rangeOk (t : Table) (first count : Nat) : Bool :=
  match t with
  | .shading _ => decide (1 ≤ count) && decide (first + count ≤ 1728)
  | .tone _ => decide (1 ≤ count) && decide (first + count ≤ 256)
  | .strobe => decide (1 ≤ count) && decide (first + count ≤ 8)
  | .ramp _ => decide (first = 0) && decide (2 ≤ count) && decide (count ≤ 64)
  | .phase _ => decide (first = 0) && (count == 4 || count == 8)

/-- The table may not be loaded now (R73, R92, R116, R117). -/
def State.tableBusy (s : State) : Table → Bool
  | .shading b => s.bankInUse (.shading b)
  | .tone b => s.bankInUse (.tone b)
  | .strobe => false
  | .ramp n => s.rampInUse n
  | .phase m => (s.motor m).moving

/-- LOAD TABLE, its checks in order, and its acceptance (R183, R73, R92, R116, R117, 08 R159). -/
def State.loadCommand (s : State) : State :=
  let bs := s.cmdBytes
  let first := wordAt bs 6
  let count := wordAt bs 8
  let source := dwordAt bs 10
  match tableOf (wordAt bs 4) with
  | none => s.refuse .badTarget
  | some t =>
    if !t.rangeOk first count then s.refuse .badRange
    else if !s.page.geo.goodSource source (2 * t.entryWords * count) then s.refuse .badAddress
    else if s.tableBusy t then s.refuse .tableBusy
    else
      (s.leaveDoze 8).startWork
        (.load { table := t, first, count, source, got := 0, clamped := 0 })

/-- The selectors of the four scan tables. -/
def isScanTable (bs : List Byte) : Bool := decide (wordAt bs 4 < 4)

/-- The selectors that name no table (log 25). -/
def isNoTable (bs : List Byte) : Bool := decide (11 < wordAt bs 4)

/-- LOAD_TABLE_SCAN (R73). -/
def execLoadTableScan (s : State) : Host.Outcome State Fault Refusal :=
  runIf (s.cmdIs 8 fun bs => isScanTable bs || isNoTable bs) s s.loadCommand

/-- LOAD_TABLE_STROBE (R92). -/
def execLoadTableStrobe (s : State) : Host.Outcome State Fault Refusal :=
  runIf (s.cmdIs 8 fun bs => wordAt bs 4 == 4 || isNoTable bs) s s.loadCommand

/-- LOAD_TABLE_RAMP (R116). -/
def execLoadTableRamp (s : State) : Host.Outcome State Fault Refusal :=
  runIf (s.cmdIs 8 fun bs => (decide (5 ≤ wordAt bs 4) && decide (wordAt bs 4 ≤ 8)) || isNoTable bs) s
    s.loadCommand

/-- LOAD_TABLE_PHASE (R117). -/
def execLoadTablePhase (s : State) : Host.Outcome State Fault Refusal :=
  runIf (s.cmdIs 8 fun bs => decide (9 ≤ wordAt bs 4)) s s.loadCommand

/-- HEAD CLASS (R91). -/
def State.headClassCommand (s : State) : State :=
  let n := min 7 (wordAt s.cmdBytes 4)
  { s with print := { s.print with headClass := n } }.complete .done [n, s.print.strobe.getD n 0]

/-- HEAD_CLASS (R91). -/
def execHeadClass (s : State) : Host.Outcome State Fault Refusal :=
  runIf (s.cmdIs 9 fun _ => true) s s.headClassCommand

/-! ## The ends of loader bursts -/

/-- The 16-bit words of a run of bytes. -/
def wordsOf : List Byte → List Nat
  | a :: b :: rest => (a.toNat + 256 * b.toNat) :: wordsOf rest
  | _ => []

/-- The words a loader burst has carried, once it has ended. -/
def State.burstData (s : State) (j : Job) : List Nat := wordsOf (s.endBurst j).port.partialData

/-- Pairs of a black offset and a white gain (R74). -/
def pairsOf : List Nat → List (Nat × Nat)
  | a :: b :: rest => (a, b) :: pairsOf rest
  | _ => []

/-- A shading entry clamped (R74). -/
def clampShading (e : Nat × Nat) : Nat × Nat := (clamp 0 255 e.1, clamp 256 1023 e.2)

/-- A table with a run of entries replaced from an index on. -/
def setRun {α : Type} (t : List α) (i : Nat) (es : List α) : List α :=
  t.take i ++ es ++ t.drop (i + es.length)

/-- Entries that the clamp `f` changes. -/
def changedBy {α : Type} [DecidableEq α] (f : α → α) (es : List α) : Nat :=
  (es.filter fun e => f e ≠ e).length

/-- The entries of a scan load burst are written into their bank (R74). -/
def State.fillScan (s : State) (t : Table) (i : Nat) (ws : List Nat) : State :=
  match t with
  | .shading b =>
    let es := (pairsOf ws).map clampShading
    if b then { s with scan := { s.scan with shadingB := setRun s.scan.shadingB i es } }
    else { s with scan := { s.scan with shadingA := setRun s.scan.shadingA i es } }
  | .tone b =>
    let es := ws.map (clamp 0 255)
    if b then { s with scan := { s.scan with toneB := setRun s.scan.toneB i es } }
    else { s with scan := { s.scan with toneA := setRun s.scan.toneA i es } }
  | .strobe => s
  | .ramp _ => s
  | .phase _ => s

/-- Entries in a scan load burst and how many of them the clamp changed (R74). -/
def scanCounts (t : Table) (ws : List Nat) : Nat × Nat :=
  match t with
  | .shading _ => ((pairsOf ws).length, changedBy clampShading (pairsOf ws))
  | _ => (ws.length, changedBy (clamp 0 255) ws)

/-- The load goes on, or is complete (R74); its completion ends Scan's wait for the bank (R75). -/
def State.loadOn (s : State) (l : Load) : State :=
  if l.count ≤ l.got then (s.complete .done [l.got, l.clamped]).endTableWait
  else s.startWork (.load l)

/-- SCAN_TABLE_BURST_END (R74). -/
def execScanTableBurstEnd (s : State) : Host.Outcome State Fault Refusal :=
  match s.recUnit.work, s.port.busy with
  | some (.load l), some (.tableBurst a n) =>
    let ws := s.burstData (.tableBurst a n)
    let (got, changed) := scanCounts l.table ws
    match l.table with
    | .shading _ | .tone _ =>
      runIf true s
        ((s.releasePort.fillScan l.table (l.first + l.got) ws).loadOn
          { l with got := l.got + got, clamped := l.clamped + changed })
    | _ => runIf false s s
  | _, _ => runIf false s s

/-- STROBE_LOAD_END (R92). -/
def execStrobeLoadEnd (s : State) : Host.Outcome State Fault Refusal :=
  match s.recUnit.work, s.port.busy with
  | some (.load l), some (.tableBurst a n) =>
    let ws := s.burstData (.tableBurst a n)
    let s1 := s.releasePort
    let s2 :=
      { s1 with print :=
          { s1.print with strobe := setRun s1.print.strobe l.first (ws.map (clamp 50 4000)) } }
    runIf (l.table == .strobe) s
      (s2.complete .done [ws.length, changedBy (clamp 50 4000) ws])
  | _, _ => runIf false s s

/-- The index of the first interval above the one before it (R116). -/
def firstRise : Nat → List Nat → Option Nat
  | i, a :: b :: rest => if a < b then some (i + 1) else firstRise (i + 1) (b :: rest)
  | _, _ => none

/-- A link's top index within a replaced ramp, and k_line of a scan link afresh (R116, R122). -/
def relink (n : Fin 4) (t : List Nat) (tLine : Option Nat) (l : Link) : Link :=
  if l.ramp = n then
    { l with
      top := min l.top (t.length - 1)
      kLine := tLine.elim l.kLine (lineCap t l.spl) }
  else l

/-- The caps of queued copies whose burns have not ended are set afresh (04 R85). -/
def State.recap (s : State) (n : Fin 4) : State :=
  if s.motors.m1.link.any fun l => l.ramp == n then
    { s with print :=
        { s.print with
          queue := s.print.queue.map fun c =>
            if c.ended then c else { c with cap := s.printCap c.burn } } }
  else s

/-- A ramp table is replaced, with its effect on the links that name it (R116). -/
def State.replaceRamp (s : State) (n : Fin 4) (t : List Nat) : State :=
  let s1 := s.setRamp n t
  let x := s1.motors.m0
  let y := s1.motors.m1
  let s2 :=
    { s1 with motors :=
        { s1.motors with
          m0 := { x with link := x.link.map (relink n t (some s1.scan.tLine)) }
          m1 := { y with link := y.link.map (relink n t none) } } }
  s2.recap n

/-- RAMP_LOAD_END (R116). -/
def execRampLoadEnd (s : State) : Host.Outcome State Fault Refusal :=
  match s.recUnit.work, s.port.busy with
  | some (.load l), some (.tableBurst a n) =>
    let ws := s.burstData (.tableBurst a n)
    let t := ws.map (clamp 25 32767)
    match l.table with
    | .ramp r =>
      runIf true s
        (match firstRise 0 t with
          | some i => s.releasePort.complete .tableInvalid [i]
          | none =>
            (s.releasePort.replaceRamp r t).complete .done
              [t.length, changedBy (clamp 25 32767) ws])
    | _ => runIf false s s
  | _, _ => runIf false s s

/-- A phase table of `n` patterns; with 4 of them entries 4 to 7 repeat entries 0 to 3 (R117). -/
def phaseTableOf (ws : List Nat) : List (BitVec 4) :=
  let ps := ws.map (BitVec.ofNat 4)
  if ps.length = 4 then ps ++ ps else ps

/-- A phase table is replaced, the pointer taken modulo the new length (R117, 09 R176). -/
def Motor.setPhases (x : Motor) (t : List (BitVec 4)) (len : Nat) : Motor :=
  { x with phaseTable := t, phaseLen := len, phase := x.phase % len }

/-- PHASE_LOAD_END (R117). -/
def execPhaseLoadEnd (s : State) : Host.Outcome State Fault Refusal :=
  match s.recUnit.work, s.port.busy with
  | some (.load l), some (.tableBurst a n) =>
    let ws := s.burstData (.tableBurst a n)
    match l.table with
    | .phase m =>
      let s1 := s.releasePort
      let s2 := s1.setMotor m ((s1.motor m).setPhases (phaseTableOf ws) ws.length)
      runIf true s (s2.complete .done [ws.length, changedBy (· % 16) ws])
    | _ => runIf false s s
  | _, _ => runIf false s s

end Sys2Proof.Machine
end

