-- ==== Sys2Proof/Machine/PageCommands.lean ====
section
/-! DEFINITION. PAGE QUERY and PAGE RELEASE (01 R20, R21). -/

namespace Sys2Proof.Machine

/-- The copy of a page record for a query, and its completion's result words: state and instance in the
bytes of the first, then F and r (R21, 11 section 11.4). -/
def State.copyPage (s : State) (i : Fin 16) (dest : Nat) : State :=
  let p := s.slot i
  s.startWork
    (.query
      { dest
        data := queryBytes i p
        result := [p.state.code + 256 * p.gen, s.freeCount, s.page.r]
        second := false })

/-- PAGE QUERY, its checks in order (R21). -/
def State.queryCommand (s : State) : State :=
  let bs := s.cmdBytes
  let gen := wordAt bs 6
  let dest := dwordAt bs 8
  match slotOf (wordAt bs 4) with
  | none => s.refuse .badTarget
  | some i =>
    if !s.page.geo.goodSource dest 32 then s.refuse .badAddress
    else if gen = 0 then s.copyPage i dest
    else
      match s.checkRef i.val gen with
      | .good j => s.copyPage j dest
      | bad => s.refuseRef bad

/-- PAGE_QUERY (R21). -/
def execPageQuery (s : State) : Host.Outcome State Fault Refusal :=
  runIf (s.cmdIs 10 fun _ => true) s s.queryCommand

/-- Release pending is set on a page and the release test made (R20, R17). -/
def State.askRelease (s : State) (i : Fin 16) : State :=
  (s.setSlot i { s.slot i with release := true }).releaseTest i

/-- PAGE RELEASE (R20). -/
def State.releaseCommand (s : State) : State :=
  let bs := s.cmdBytes
  match s.checkRef (wordAt bs 4) (wordAt bs 6) with
  | .good i =>
    let s1 := s.askRelease i
    s1.complete .done [(s1.slot i).state.code, s1.freeCount - s.freeCount]
  | bad => s.refuseRef bad

/-- PAGE_RELEASE (R20). -/
def execPageRelease (s : State) : Host.Outcome State Fault Refusal :=
  runIf (s.cmdIs 11 fun _ => true) s s.releaseCommand

end Sys2Proof.Machine
end

