-- ==== Sys2Proof/Machine/Sensors.lean ====
section
/-! DEFINITION. The sensor and event unit: sampling, filtered levels, occurrences, interlock actions and
its three commands (07_sensor_lines_and_events.md). -/

namespace Sys2Proof.Machine

/-- A level mode (R136). -/
def GateMode.isLevel : GateMode → Bool
  | .levelHigh => true
  | .levelLow => true
  | .edgeRise => false
  | .edgeFall => false
  | .edgeBoth => false

/-- A line is active under a mode at a filtered level; an edge mode counts as not active (R136, R143). -/
def GateMode.active (m : GateMode) (high : Bool) : Bool :=
  match m with
  | .levelHigh => high
  | .levelLow => !high
  | .edgeRise => false
  | .edgeFall => false
  | .edgeBoth => false

/-- A change of the filtered level is an occurrence of an edge mode (R139). -/
def GateMode.edgeCounts (m : GateMode) (high : Bool) : Bool :=
  match m with
  | .edgeRise => high
  | .edgeFall => !high
  | .edgeBoth => true
  | .levelHigh => false
  | .levelLow => false

/-! ## Occurrences (R141, R142) -/

/-- The halts of an interlock action (R142, 06 R133). -/
def State.actHalts (s : State) (g : Fin 16) (c : GateCfg) : List MotorId → State
  | [] => s
  | m :: rest =>
    let s1 := if c.haltSet.getLsbD (motorNumber m) then s.actionHalt m c.haltMode g else s
    s1.actHalts g c rest

/-- The pause requests of an interlock action (R142). -/
def State.actPauses (s : State) (g : Fin 16) (c : GateCfg) : List Channel → State
  | [] => s
  | ch :: rest =>
    let s1 := if c.pauseSet.getLsbD (chanNumber ch) then s.askPause ch (.line g) else s
    s1.actPauses g c rest

/-- The part begins to wake (08 R163). -/
def State.startWake (s : State) (cause : WakeCause) : State :=
  { s with
    power := { s.power with state := .wake, wakeCause := some cause, sleepTimer := none }
    port := { s.port with mode := .leaving }
    sensor := { s.sensor with groups := 0 } }

/-- An occurrence: action, raise, wake (R141). One before the grant in progress at the SLEEP entry has ended
cuts the rest of the entry short (log 57). -/
def State.occur (s : State) (g : Fin 16) (kind : EventKind) : State :=
  let x := s.gate g
  let s1 := (s.actHalts g x.cfg allMotors).actPauses g x.cfg allChannels
  let s2 := s1.raise (lineSource g) kind (.level x.high)
  if s2.power.state = .sleep ∧ x.cfg.wake then s2.startWake (.line g) else s2

/-! ## Sampling and filtered levels (R137, R138, R139, R140) -/

/-- A line is sampled: in SLEEP its group alone, once the entry has come to sleep sampling (R150, 08
R160). -/
def State.sampled (s : State) (g : Fin 16) : Bool :=
  s.power.state != .sleep || s.port.mode == .entering || s.sensor.groups.getLsbD (g.val / 4)

/-- The trailing-edge event of a writer whose LINES entry names the line and its new level (R40). -/
def State.edgeEvent (s : State) (ch : Channel) (g : Fin 16) (high : Bool) : State :=
  let c := s.chan ch
  match c.current.bind fun e => e.entry.edgeOption with
  | some o =>
    if c.inLines ∧ c.edge = none ∧ o.line = g ∧ o.high = high then s.trailingEdge ch o.tail else s
  | none => s

/-- The pending ACTIVE entry of a line is withdrawn (R140). -/
def State.withdraw (s : State) (i : Fin 24) : State :=
  if (s.source i).entry.any fun e => e.kind == .active then
    s.setSource i { s.source i with entry := none }
  else s

/-- What a change of the filtered level is to the gateway (R139, R140). -/
def State.levelChanged (s : State) (g : Fin 16) : State :=
  let x := s.gate g
  if x.cfg.mode.isLevel then
    if x.cfg.mode.active x.high then (if x.armed then s.occur g .active else s)
    else (s.withdraw (lineSource g)).setGate g { x with armed := true }
  else if x.cfg.mode.edgeCounts x.high then s.occur g (if x.high then .rise else .fall)
  else s

/-- The filtered level of a line changes: every block sees it at that instant, the trailing edge before the
occurrence (R137, R139 to R141; log 53). -/
def State.changeLevel (s : State) (g : Fin 16) : State :=
  let x := s.gate g
  let s1 := s.setGate g { x with high := !x.high, run := 0 }
  ((s1.edgeEvent .scan g !x.high).edgeEvent .codeIn g !x.high).levelChanged g

/-- A differing sample of a line brings its run count to its debounce (R137). -/
def Gateway.changeDue (x : Gateway) : Bool := decide (x.cfg.debounce ≤ x.run + 1)

/-- A line takes a sample, with the change of its filtered level that it makes (R137). -/
def State.takeSample (s : State) (g : Fin 16) (level : Bool) : State :=
  let x := s.gate g
  if level = x.high then s.setGate g { x with run := 0 }
  else if x.changeDue then s.changeLevel g
  else s.setGate g { x with run := x.run + 1 }

/-- The lines that are sampled take their samples, in ascending order (R137, R150; log 52). -/
def State.takeSamples (s : State) (sampled : Fin 16 → Bool) (lines : BitVec 16) :
    List (Fin 16) → State
  | [] => s
  | g :: rest =>
    (if sampled g then s.takeSample g (lines.getLsbD g.val) else s).takeSamples sampled lines rest

/-- SENSOR_SAMPLE (R137): the sample, and in the same event the changes of filtered levels that it makes. -/
def execSensorSample (lines : BitVec 16) (s : State) : Host.Outcome State Fault Refusal :=
  runIf s.sensor.sampling s (s.takeSamples s.sampled lines ids16)

/-- DEBOUNCE_LEVEL_CHANGE (R137): the sample of one line alone that changes its filtered level (log 16). -/
def execDebounceLevelChange (g : Fin 16) (s : State) : Host.Outcome State Fault Refusal :=
  runIf (s.sensor.sampling && s.sampled g && (s.gate g).changeDue) s (s.changeLevel g)

/-- The first sample of a line sets its filtered level; level gateways are armed (R138). -/
def State.firstLevels (s : State) (lines : BitVec 16) : List (Fin 16) → State
  | [] => s
  | g :: rest =>
    let x := s.gate g
    (s.setGate g
      { x with
        high := lines.getLsbD g.val
        run := 0
        armed := x.armed || x.cfg.mode.isLevel }).firstLevels lines rest

/-- The lines active at the first sample give an occurrence, lines in ascending order (R138, R140; log 52). -/
def State.occurActive (s : State) : List (Fin 16) → State
  | [] => s
  | g :: rest =>
    let x := s.gate g
    (if x.cfg.mode.active x.high then s.occur g .active else s).occurActive rest

/-- Sampling begins (R138). -/
def State.firstSample (s : State) (lines : BitVec 16) : State :=
  { s with sensor := { s.sensor with sampling := true } }.firstLevels lines ids16 |>.occurActive ids16

/-! ## Configuring gateways (R143) -/

/-- A gateway's configuration is replaced at one instant, with the occurrence that it may give (R143). -/
def State.configGate (s : State) (g : Fin 16) (c : GateCfg) : State :=
  let x := s.gate g
  let s1 := s.setGate g { x with cfg := c, run := 0, armed := x.armed || c.mode.isLevel }
  if c.mode.active x.high ∧ (x.armed = false ∨ x.cfg.mode.active x.high = false) then
    s1.occur g .active
  else s1

/-- The configuration SENSOR CONFIG carries for a mode (R143, 11 section 11.3). -/
def gateCfgOf (bs : List Byte) (mode : GateMode) : GateCfg :=
  let w := wordAt bs 10
  { mode
    debounce := clamp 1 15 (wordAt bs 8)
    haltSet := BitVec.ofNat 3 w
    haltMode := if bitOf w 8 then .immediate else .ramp
    pauseSet := BitVec.ofNat 4 (wordAt bs 12)
    wake := bitOf (wordAt bs 14) 0 }

/-- SENSOR CONFIG, its checks in order (R143). -/
def State.sensorConfigCommand (s : State) : State :=
  let bs := s.cmdBytes
  match lineOf (wordAt bs 4), gateModeOf (wordAt bs 6) with
  | none, _ => s.refuse .badTarget
  | some _, none => s.refuse .badRange
  | some g, some mode =>
    (s.configGate g (gateCfgOf bs mode)).complete .done [flag (s.gate g).high 1]

/-- SENSOR_CONFIG (R143). -/
def execSensorConfig (s : State) : Host.Outcome State Fault Refusal :=
  runIf (s.cmdIs 12 fun _ => true) s s.sensorConfigCommand

/-! ## Priorities and the threshold (R145, R147) -/

/-- A source's priority is replaced; 0 withdraws its pending entry (R145). -/
def State.setPriority (s : State) (i : Fin 24) (p : Nat) : State :=
  let x := s.source i
  s.setSource i { x with priority := p, entry := if p = 0 then none else x.entry }

/-- EVENT PRIORITY (R145). -/
def State.priorityCommand (s : State) : State :=
  let bs := s.cmdBytes
  let p := min 7 (wordAt bs 6)
  match sourceOf (wordAt bs 4) with
  | none => s.refuse .badTarget
  | some i => (s.setPriority i p).complete .done [p]

/-- EVENT_PRIORITY (R145). -/
def execEventPriority (s : State) : Host.Outcome State Fault Refusal :=
  runIf (s.cmdIs 13 fun _ => true) s s.priorityCommand

/-- EVENT THRESHOLD (R147). -/
def State.thresholdCommand (s : State) : State :=
  let t := min 7 (wordAt s.cmdBytes 4)
  { s with sensor := { s.sensor with threshold := t } }.complete .done [t]

/-- EVENT_THRESHOLD (R147). -/
def execEventThreshold (s : State) : Host.Outcome State Fault Refusal :=
  runIf (s.cmdIs 14 fun _ => true) s s.thresholdCommand

end Sys2Proof.Machine
end

