-- ==== Sys2Proof/Machine/Power.lean ====
section
/-! DEFINITION. The power unit: POWER, the drain, DOZE, SLEEP and WAKE (08_power_save.md). -/

namespace Sys2Proof.Machine

/-! ## POWER (R155) -/

/-- The drain timer is loaded (R155, R153). -/
def State.loadDrain (s : State) (target : Quiet) : State :=
  { s with power :=
      { s.power with
        state := .drain
        target := some target
        drainTimer := some (s.power.drainLimit * 10) } }

/-- POWER with target RUN (R155, R159). -/
def State.powerRun (s : State) : State :=
  match s.power.state with
  | .drain =>
    { s with power := { s.power with state := .run, target := none, drainTimer := none } }
  | _ => s.leaveDoze 15

/-- POWER with target DOZE (R155). -/
def State.powerDoze (s : State) : State :=
  if s.power.state = .doze then s else s.loadDrain .doze

/-- POWER with target SLEEP (R155). -/
def State.powerSleep (s : State) : State :=
  { s with power := { s.power with sleepTime := wordAt s.cmdBytes 6 } }.loadDrain .sleep

/-- POWER completes with the power state just after acceptance (R155). -/
def State.powerDone (s : State) : State := s.complete .done [s.power.state.code]

/-- The code of a POWER target that is none of the three. -/
def badPowerTarget (bs : List Byte) : Bool :=
  wordAt bs 4 != 0 && wordAt bs 4 != 2 && wordAt bs 4 != 3

/-- POWER with one of its targets; any other is refused (R155, log 25). -/
def State.powerCommand (s : State) (effect : State) : State :=
  if badPowerTarget s.cmdBytes then s.refuse .badRange else effect.powerDone

/-- POWER_RUN (R155). -/
def execPowerRun (s : State) : Host.Outcome State Fault Refusal :=
  runIf (s.cmdIs 15 fun bs => wordAt bs 4 == 0 || badPowerTarget bs) s (s.powerCommand s.powerRun)

/-- POWER_DOZE (R155). -/
def execPowerDoze (s : State) : Host.Outcome State Fault Refusal :=
  runIf (s.cmdIs 15 fun bs => wordAt bs 4 == 2 || badPowerTarget bs) s (s.powerCommand s.powerDoze)

/-- POWER_SLEEP (R155). -/
def execPowerSleep (s : State) : Host.Outcome State Fault Refusal :=
  runIf (s.cmdIs 15 fun bs => wordAt bs 4 == 3 || badPowerTarget bs) s (s.powerCommand s.powerSleep)

/-! ## The drain (R157) -/

/-- An entry condition of DOZE or SLEEP by its number (R157). -/
def State.entryCondition (s : State) : Nat → Bool
  | 1 => allChannels.all fun ch => (s.chan ch).state == .idle
  | 2 => allMotors.all fun m => !(s.motor m).moving
  | 3 => s.coder.send == .idle && s.coder.recv == .idle
  | 4 => s.boot.store.isNone
  | 5 => s.recUnit.consumer == s.host.producer &&
      (s.recUnit.state == .waiting || s.recUnit.state == .advancing) && s.recUnit.completion.isNone
  | 6 => s.chosenSource.isNone
  | _ => true

/-- The numbers of the conditions of a target (R157). -/
def conditionsOf : Quiet → List Nat
  | .doze => [1, 2, 3]
  | .sleep => [1, 2, 3, 4, 5, 6]

/-- The lowest-numbered condition of the target that does not hold (R157). -/
def State.unmet (s : State) (t : Quiet) : Option Nat :=
  (conditionsOf t).find? fun n => !s.entryCondition n

/-- A drain ends in RUN with ABANDONED (R157, R164). -/
def State.abandonDrain (s : State) (t : Quiet) (cause : Nat) : State :=
  { s with power :=
      { s.power with
        state := .run
        target := none
        drainTimer := none
        abandoned := s.power.abandoned + 1 } }.raise 22 .abandoned (.abandoned (t == Quiet.sleep) cause)

/-- DRAIN_TIMER_EXPIRY (R157). -/
def execDrainTimerExpiry (s : State) : Host.Outcome State Fault Refusal :=
  match s.power.target with
  | some t =>
    match s.unmet t with
    | some n =>
      runIf (s.power.state == .drain && s.power.drainTimer.isSome) s (s.abandonDrain t n)
    | none => runIf false s s
  | none => runIf false s s

/-- The drain's conditions for a target hold in DRAIN (R157). -/
def State.drained (s : State) (t : Quiet) : Bool :=
  s.power.state == .drain && s.power.target == some t && (s.unmet t).isNone

/-- DOZE_ENTRY (R158): the data is the drain's time in units of 10 ms (log 12). -/
def execDozeEntry (drainTime : Nat) (s : State) : Host.Outcome State Fault Refusal :=
  let s1 :=
    { s with power := { s.power with state := .doze, target := none, drainTimer := none } }
  runIf (s.drained .doze && decide (drainTime ≤ 255)) s (s1.raise 22 .doze (.word drainTime))

/-- Every motor in HOLD becomes OFF (R160 step 1). -/
def State.motorsOff (s : State) : State :=
  { s with motors :=
      { s.motors with
        m0 := s.motors.m0.release
        m1 := s.motors.m1.release
        m2 := s.motors.m2.release } }

/-- SLEEP_ENTRY (R160): step 1 and the DRAM port's stop at once, the rest when the grant in progress has
ended. -/
def execSleepEntry (s : State) : Host.Outcome State Fault Refusal :=
  let s1 := s.motorsOff
  runIf (s.drained .sleep) s
    { s1 with
      port := { s1.port with mode := .entering, refreshDue := false }
      power :=
        { s1.power with
          state := .sleep
          target := none
          drainTimer := none
          sleeps := s.power.sleeps + 1 } }.afterGrant

/-- SLEEP_TIMER_EXPIRY (R162). -/
def execSleepTimerExpiry (s : State) : Host.Outcome State Fault Refusal :=
  runIf (s.power.state == .sleep && s.power.sleepTimer.isSome) s (s.startWake .timer)

/-- The data of a WAKE event (11 section 11.4). -/
def wakeData : Option WakeCause → Nat
  | some (.line g) => g.val
  | _ => 0xFFFF

/-- DRAM is out of self-refresh: a held host cycle is passed to the arbiter, and it and the index words that
waited are to be served before the event unit asks for its slot (R163 steps 1 and 4, 01 R22). -/
def State.leaveSelfRefresh (s : State) : State :=
  let s1 := { s with port := { s.port with mode := .running } }.judgeCycle
  { s1 with port := { s1.port with backlog := s1.hostWaits || s1.indexWaits } }

/-- SELF_REFRESH_EXIT_END (R163). -/
def execSelfRefreshExitEnd (s : State) : Host.Outcome State Fault Refusal :=
  let s1 := s.leaveSelfRefresh
  let s2 := { s1 with power := { s1.power with state := .run, hclken := true } }
  runIf (s.power.state == .wake && s.port.mode == .leaving) s
    (s2.raise 22 .wake (.word (wakeData s.power.wakeCause)))

/-- The lamp output SLAMP (03 R60). -/
def State.slamp (s : State) : Bool :=
  s.motors.m0.link.isSome && (s.power.state == .run || s.power.state == .drain)

end Sys2Proof.Machine
end

