-- ==== Sys2Proof/Machine/StatusCommands.lean ====
section
/-! DEFINITION. STATUS QUERY, CLEAR FLAGS and ENGINE RESET, and the link reset pulse
(10_command_and_report_rings.md; 01 R25, 02 R57, 03 R76, 04 R95, 05 R109, 06 R134, 07 R151, 08 R164). -/

namespace Sys2Proof.Machine

/-- STATUS QUERY (R190). -/
def State.statusCommand (s : State) : State :=
  let b := wordAt s.cmdBytes 4
  if 11 < b then s.refuse .badTarget else s.complete .done (s.statusRecord b)

/-- STATUS_QUERY (R190). -/
def execStatusQuery (s : State) : Host.Outcome State Fault Refusal :=
  runIf (s.cmdIs 16 fun _ => true) s s.statusCommand

/-- CLEAR FLAGS (R192): the completion carries the flags that remain set. -/
def State.clearCommand (s : State) : State :=
  let b := wordAt s.cmdBytes 4
  if 11 < b then s.refuse .badTarget
  else
    let s1 := s.clearBlock b (wordAt s.cmdBytes 6)
    s1.complete .done [s1.blockFlags b]

/-- CLEAR_FLAGS (R192). -/
def execClearFlags (s : State) : Host.Outcome State Fault Refusal :=
  runIf (s.cmdIs 17 fun _ => true) s s.clearCommand

/-! ## ENGINE RESET (R193) -/

/-- Every FILLING page is completed as truncated, in ascending slot order, without the release test that ends a
completion of R16: every release that is due comes in `State.releaseAll`, after the readers have left (01 R25; log
45). -/
def State.closeFilling (s : State) : List (Fin 16) → State
  | [] => s
  | i :: rest =>
    (if (s.slot i).state = .filling then s.closePage i true else s).closeFilling rest

/-- Every reader leaves every page, without a release option (01 R25). -/
def State.dropReaders (s : State) : List (Fin 16) → State
  | [] => s
  | i :: rest =>
    (s.setSlot i { s.slot i with readPrint := false, readCodeOut := false }).dropReaders rest

/-- The releases that are then due, in ascending slot order (01 R25). -/
def State.releaseAll (s : State) : List (Fin 16) → State
  | [] => s
  | i :: rest => (s.releaseTest i).releaseAll rest

/-- Page memory at an engine reset: the band-pool condition is set without an event (01 R25, R19). -/
def State.resetPages (s : State) : State :=
  let s1 := ((s.closeFilling ids16).dropReaders ids16).releaseAll ids16
  { s1 with
    sensor := s.sensor
    page :=
      { s1.page with
        r := 0
        slotWait := []
        low := decide (s1.page.free.length < s1.page.lowMark) } }

/-- A channel context at an engine reset (02 R57). -/
def Chan.engineReset (c : Chan) : Chan :=
  { Chan.reset with moved := c.moved, posted := c.posted, chainFault := c.chainFault }

/-- The line channels and the paths at an engine reset (02 R57, 03 R76, 04 R95). -/
def State.resetChannels (s : State) : State :=
  { s with
    chans :=
      { scan := s.chans.scan.engineReset
        print := s.chans.print.engineReset
        codeOut := s.chans.codeOut.engineReset
        codeIn := s.chans.codeIn.engineReset }
    scan :=
      { s.scan with busy := false, bufA := LineBuf.reset, bufB := LineBuf.reset, captureTicks := 0 }
    print := { s.print with queue := [], head := .idle, readRequest := none, clearing := none } }

/-- The coder link at an engine reset: CRSTN is pulsed low, flags and counters are kept (05 R96, R109). -/
def CoderLink.engineReset (c : CoderLink) : CoderLink :=
  { CoderLink.reset with
    unsolicited := c.unsolicited
    frameError := c.frameError
    badLines := c.badLines
    sent := c.sent
    received := c.received }

/-- A motor at an engine reset (06 R134). -/
def Motor.engineReset (x : Motor) : Motor :=
  { (if x.moving then x.hold false else x) with
    halted := none
    link := none
    move := none
    remaining := 0
    budget := none
    committed := none
    group := 0
    rampPath := none
    heldStep := false }

/-- The motor unit at an engine reset (06 R134). -/
def State.resetMotors (s : State) : State :=
  { s with motors :=
      { s.motors with
        m0 := s.motors.m0.engineReset
        m1 := s.motors.m1.engineReset
        m2 := s.motors.m2.engineReset } }

/-- The pending set is emptied (07 R151). -/
def State.emptyPending (s : State) : List (Fin 24) → State
  | [] => s
  | i :: rest => (s.setSource i { s.source i with entry := none }).emptyPending rest

/-- Level gateways are armed again; one that was not, on an active line, gives an occurrence (07 R151),
lines in ascending order (log 52). -/
def State.rearm (s : State) : List (Fin 16) → State
  | [] => s
  | g :: rest =>
    let x := s.gate g
    (if x.cfg.mode.isLevel then
        let s1 := s.setGate g { x with armed := true }
        if x.armed = false ∧ x.cfg.mode.active x.high then s1.occur g .active else s1
      else s).rearm rest

/-- The power unit at an engine reset (08 R164). -/
def State.resetPower (s : State) : State :=
  match s.power.state, s.power.target with
  | .drain, some t => s.abandonDrain t 7
  | _, _ => s

/-- One engine reset reaches every block at the same instant (R193). -/
def State.engineReset (s : State) : State :=
  let s1 := (((s.cutLineWork .scan).cutLineWork .print).cutLineWork .codeOut).cutLineWork .codeIn
  let s2 := s1.resetPages.resetChannels.resetMotors
  let s3 := { s2 with coder := s2.coder.engineReset }.emptyPending ids24
  (s3.rearm ids16).resetPower

/-- The pages that an engine reset completes. -/
def State.fillingPages (s : State) : Nat :=
  (ids16.filter fun i => (s.slot i).state == .filling).length

/-- ENGINE RESET and its completion (R193). -/
def State.engineResetCommand (s : State) : State :=
  let s1 := s.engineReset
  s1.complete .done [s.fillingPages, s1.freeCount - s.freeCount, s1.power.state.code]

/-- ENGINE_RESET (R193). -/
def execEngineReset (s : State) : Host.Outcome State Fault Refusal :=
  runIf (s.cmdIs 18 fun _ => true) s s.engineResetCommand

/-- CRSTN_PULSE_END (05 R109). -/
def execCrstnPulseEnd (s : State) : Host.Outcome State Fault Refusal :=
  runIf (s.coder.resetLow && s.atReady) s { s with coder := s.coder.leaveReset }

end Sys2Proof.Machine
end

