-- ==== Sys2Proof/Machine/Image.lean ====
section
/-! DEFINITION. The configuration image: its checks, its decoding and its defaults
(09_start_up_and_the_configuration_store.md, R167, R170; 11 R197). -/

namespace Sys2Proof.Machine

/-- A pending configuration with no section (R166). -/
def Sections.empty : Sections :=
  { geometry := none, constants := none, ramp0 := none, ramp1 := none,
    ramp2 := none, ramp3 := none, phase0 := none, phase1 := none,
    phase2 := none, strobe := none, gateways := none, priorities := none,
    clamped := 0 }

/-- A word of the EEPROM; where none is fitted it reads 0xFFFF (R167). -/
def romWord (rom : List Word) (i : Nat) : Nat := (rom.getD i 0xFFFF).toNat

/-- The contents of an EEPROM in full: 1024 words, those not listed being erased (log 6). -/
def fitRom (rom : List Word) : List Word := rom ++ List.replicate (1024 - rom.length) 0xFFFF

/-- A 32-bit value of two image words, the low word first. -/
def pairWord (ws : List Nat) (i : Nat) : Nat := ws.getD i 0 + 65536 * ws.getD (i + 1) 0

/-! ## Geometry (01 R1) -/

/-- A ring size of 01 section 1.1. -/
def ringSizeOk (n : Nat) : Bool := n == 16 || n == 32 || n == 64 || n == 128 || n == 256

/-- The geometry can be put in force (01 R1). Neither R1 nor R167 asks the rings and the index words to lie
within the DRAM size (log 39). -/
def Geometry.valid (g : Geometry) : Bool :=
  (g.dramSize == 0x100000 || g.dramSize == 0x200000 || g.dramSize == 0x400000) &&
    ringSizeOk g.cmdSize && ringSizeOk g.repSize && decide (8 ≤ g.bands) && decide (g.bands ≤ 192) &&
    decide (g.cmdBase % 16 = 0) && decide (g.repBase % 16 = 0) && decide (g.idxBase % 4 = 0) &&
    decide (g.bandBase % 16384 = 0) && decide (g.bandBase + 16384 * g.bands ≤ g.dramSize) &&
    disjointRanges g.cmdBase (16 * g.cmdSize) g.repBase (16 * g.repSize) &&
    disjointRanges g.cmdBase (16 * g.cmdSize) g.idxBase 4 &&
    disjointRanges g.cmdBase (16 * g.cmdSize) g.bandBase (16384 * g.bands) &&
    disjointRanges g.repBase (16 * g.repSize) g.idxBase 4 &&
    disjointRanges g.repBase (16 * g.repSize) g.bandBase (16384 * g.bands) &&
    disjointRanges g.idxBase 4 g.bandBase (16384 * g.bands)

/-- A GEOMETRY section (R197). -/
def geometryOf (ws : List Nat) : Geometry :=
  { dramSize := pairWord ws 0, cmdBase := pairWord ws 2, cmdSize := ws.getD 4 0,
    repBase := pairWord ws 5, repSize := ws.getD 7 0, idxBase := pairWord ws 8,
    bandBase := pairWord ws 10, bands := ws.getD 12 0, guard := bitOf (ws.getD 13 0) 0 }

/-! ## The other sections (R167, R197) -/

/-- Whether a clamp changes a value, as a count. -/
def clampCount (lo hi n : Nat) : Nat := flag (decide (clamp lo hi n ≠ n)) 1

/-- How many values of a list a clamp changes. -/
def clampCounts (lo hi : Nat) (ws : List Nat) : Nat := changedBy (clamp lo hi) ws

/-- Hold time and auto-release of a motor word. -/
def holdOf (w : Nat) : Nat × Bool := (w % 256, bitOf w 15)

/-- A CONSTANTS section; the low mark is clamped once the whole image has been read (R167). -/
def constantsOf (ws : List Nat) : Constants :=
  { tLine := clamp 125 5000 (ws.getD 0 0)
    dmax := clamp 64 1728 (ws.getD 1 0)
    drainLimit := clamp 1 255 (ws.getD 2 0)
    lowMark := ws.getD 3 0
    hold0 := holdOf (ws.getD 4 0)
    hold1 := holdOf (ws.getD 5 0)
    hold2 := holdOf (ws.getD 6 0) }

/-- Values of a CONSTANTS section that are clamped, the low mark aside. -/
def constantsClamped (ws : List Nat) : Nat :=
  clampCount 125 5000 (ws.getD 0 0) + clampCount 64 1728 (ws.getD 1 0) +
    clampCount 1 255 (ws.getD 2 0)

/-- A gateway of two image words; a mode field of 5 to 7 is no mode. -/
def gatewayOf (w v : Nat) : Option GateCfg :=
  (gateModeOf (w % 8)).map fun mode =>
    { mode
      debounce := clamp 1 15 (w / 16 % 16)
      haltSet := BitVec.ofNat 3 (w / 256)
      haltMode := if bitOf w 11 then .immediate else .ramp
      pauseSet := BitVec.ofNat 4 v
      wake := bitOf w 15 }

/-- The sixteen gateways of a GATEWAYS section. -/
def gatewaysOf : List Nat → Option (List GateCfg)
  | w :: v :: rest =>
    match gatewayOf w v, gatewaysOf rest with
    | some g, some gs => some (g :: gs)
    | _, _ => none
  | _ => some []

/-- Gateways of a section whose debounce field is 0. -/
def gatewaysClamped : List Nat → Nat
  | w :: _ :: rest => clampCount 1 15 (w / 16 % 16) + gatewaysClamped rest
  | _ => 0

/-- The place of a ramp table in a configuration. -/
def Sections.ramp (c : Sections) : Fin 4 → Option (List Nat)
  | 0 => c.ramp0
  | 1 => c.ramp1
  | 2 => c.ramp2
  | 3 => c.ramp3

/-- The configuration with a ramp table. -/
def Sections.setRamp (c : Sections) (n : Fin 4) (t : List Nat) : Sections :=
  match n with
  | 0 => { c with ramp0 := some t }
  | 1 => { c with ramp1 := some t }
  | 2 => { c with ramp2 := some t }
  | 3 => { c with ramp3 := some t }

/-- The place of a phase table in a configuration. -/
def Sections.phase (c : Sections) : MotorId → Option PhaseCfg
  | .m0 => c.phase0
  | .m1 => c.phase1
  | .m2 => c.phase2

/-- The configuration with a phase table. -/
def Sections.setPhase (c : Sections) (m : MotorId) (p : PhaseCfg) : Sections :=
  match m with
  | .m0 => { c with phase0 := some p }
  | .m1 => { c with phase1 := some p }
  | .m2 => { c with phase2 := some p }

/-- A RAMP section is taken up (R167 checks 5 and 6). -/
def Sections.addRamp (c : Sections) (ws : List Nat) : Option Sections :=
  let raw := ws.drop 2
  let t := raw.map (clamp 25 32767)
  match rampOf (ws.getD 0 0) with
  | some n =>
    if ws.getD 1 0 = raw.length ∧ 2 ≤ raw.length ∧ raw.length ≤ 64 ∧ (c.ramp n).isNone ∧
        (firstRise 0 t).isNone then
      some { c.setRamp n t with clamped := c.clamped + clampCounts 25 32767 raw }
    else none
  | none => none

/-- A PHASE section is taken up. -/
def Sections.addPhase (c : Sections) (ws : List Nat) : Option Sections :=
  let raw := ws.drop 2
  match motorOf (ws.getD 0 0) with
  | some m =>
    if ws.length = 10 ∧ (ws.getD 1 0 = 4 ∨ ws.getD 1 0 = 8) ∧ (c.phase m).isNone then
      some
        { c.setPhase m { patterns := raw.map (BitVec.ofNat 4), length := ws.getD 1 0 } with
          clamped := c.clamped + changedBy (· % 16) raw }
    else none
  | none => none

/-- A section of a kind is taken up, if it passes (R167 checks 5 and 6, R197). -/
def Sections.add (c : Sections) (kind : Nat) (ws : List Nat) : Option Sections :=
  match kind with
  | 1 =>
    if ws.length = 14 ∧ c.geometry.isNone ∧ (geometryOf ws).valid then
      some { c with geometry := some (geometryOf ws) }
    else none
  | 2 =>
    if ws.length = 7 ∧ c.constants.isNone then
      some
        { c with constants := some (constantsOf ws), clamped := c.clamped + constantsClamped ws }
    else none
  | 3 => c.addRamp ws
  | 4 => c.addPhase ws
  | 5 =>
    if ws.length = 8 ∧ c.strobe.isNone then
      some
        { c with
          strobe := some (ws.map (clamp 50 4000))
          clamped := c.clamped + clampCounts 50 4000 ws }
    else none
  | 6 =>
    match gatewaysOf ws with
    | some gs =>
      if ws.length = 32 ∧ c.gateways.isNone then
        some { c with gateways := some gs, clamped := c.clamped + gatewaysClamped ws }
      else none
    | none => none
  | 7 =>
    if ws.length = 24 ∧ c.priorities.isNone then
      some
        { c with
          priorities := some (ws.map (min 7))
          clamped := c.clamped + clampCounts 0 7 ws }
    else none
  | _ => none

/-- The sections of an image, one after another; `fuel` bounds their number (R167). -/
def parseSections : Nat → List Nat → Sections → Option Sections
  | _, [], c => some c
  | 0, _ :: _, _ => none
  | fuel + 1, h :: rest, c =>
    if rest.length < h % 256 then none
    else
      match c.add (h / 256) (rest.take (h % 256)) with
      | some c1 => parseSections fuel (rest.drop (h % 256)) c1
      | none => none

/-- The low mark clamped to 0..N, counted when it is changed (R167). -/
def Sections.clampMark (c : Sections) (bands : Nat) : Sections :=
  match c.constants with
  | some k =>
    { c with
      constants := some { k with lowMark := min k.lowMark bands }
      clamped := c.clamped + flag (decide (bands < k.lowMark)) 1 }
  | none => c

/-- The outcome of a reading of the image. -/
structure Reading where
  status : RomStatus
  version : Nat
  sections : Sections
  /-- Words read from the EEPROM. -/
  words : Nat
  deriving DecidableEq, Repr

/-- The first `n` words of the EEPROM. -/
def romWords (rom : List Word) (n : Nat) : List Nat := (List.range n).map (romWord rom)

/-- A reading that fails. -/
def failedReading (status : RomStatus) (words : Nat) : Reading :=
  { status, version := 0, sections := Sections.empty, words }

/-- The image is read and judged in the order of R167; `bands` is the band count the low mark is held to
when the image's own does not count. -/
def readImage (rom : List Word) (bandsOf : Sections → Nat) : Reading :=
  let n := romWord rom 1
  let ws := romWords rom n
  if romWord rom 0 = 0xFFFF then failedReading .blank 1
  else if romWord rom 0 ≠ 0xE416 then failedReading .invalid 1
  else if n < 8 ∨ 1024 < n then failedReading .invalid 2
  else if ws.sum % 65536 ≠ 0 then failedReading .checksum n
  else
    match parseSections n ((ws.drop 3).take (n - 4)) Sections.empty with
    | some c =>
      { status := .valid, version := romWord rom 2, sections := c.clampMark (bandsOf c), words := n }
    | none => failedReading .invalid n

/-- The band count a low mark is held to at start-up (R167). -/
def startBands (c : Sections) : Nat := (c.geometry.getD Geometry.default).bands

/-- The default CONSTANTS (R170). -/
def Constants.default : Constants :=
  { tLine := 2500, dmax := 432, drainLimit := 100, lowMark := 4, hold0 := (50, true),
    hold1 := (50, true), hold2 := (50, true) }

end Sys2Proof.Machine
end

