-- ==== Sys2Proof/Machine/StartUp.lean ====
section
/-! DEFINITION. Start-up, CONFIG RELOAD and CONFIG STORE
(09_start_up_and_the_configuration_store.md). -/

namespace Sys2Proof.Machine

/-! ## Putting a configuration in force (R171, R172) -/

/-- A motor under a configuration at the TABLES stage (R172). -/
def Motor.configure (x : Motor) (hold : Nat × Bool) (p : PhaseCfg) : Motor :=
  { x with
    holdTime := hold.1
    autoRelease := hold.2
    phaseTable := p.patterns
    phaseLen := p.length }

/-- Gateway records from a list in line order. -/
def State.loadGates (s : State) (cs : List GateCfg) : List (Fin 16) → State
  | [] => s
  | g :: rest =>
    (s.setGate g { s.gate g with cfg := cs.getD g.val GateCfg.default }).loadGates cs rest

/-- Source priorities from a list in source order. -/
def State.loadPriorities (s : State) (ps : List Nat) : List (Fin 24) → State
  | [] => s
  | i :: rest => (s.setPriority i (ps.getD i.val 0)).loadPriorities ps rest

/-- The ramp tables of a configuration, with the default for each that it leaves out (R170). -/
def State.loadRamps (s : State) (c : Sections) : List (Fin 4) → State
  | [] => s
  | n :: rest => (s.setRamp n ((c.ramp n).getD rampDefault)).loadRamps c rest

/-- The TABLES stage: everything but the geometry, at one instant (R172). -/
def State.tablesStage (s : State) (c : Sections) : State :=
  let k := c.constants.getD Constants.default
  let ph := fun m => (c.phase m).getD PhaseCfg.default
  let s1 :=
    { s with
      scan := { s.scan with tLine := k.tLine }
      print :=
        { s.print with dmax := k.dmax, strobe := c.strobe.getD (List.replicate 8 500) }
      power := { s.power with drainLimit := k.drainLimit }
      motors :=
        { s.motors with
          m0 := s.motors.m0.configure k.hold0 (ph .m0)
          m1 := s.motors.m1.configure k.hold1 (ph .m1)
          m2 := s.motors.m2.configure k.hold2 (ph .m2) } }
  let s2 := s1.loadRamps c (List.finRange 4)
  let s3 := s2.loadGates (c.gateways.getD []) ids16
  s3.loadPriorities (c.priorities.getD ((List.range 24).map defaultPriority)) ids24

/-- The DRAM stage: page memory under the geometry, refresh started (R171). -/
def State.dramStage (s : State) (c : Sections) : State :=
  { s with
    page :=
      PageMem.reset (c.geometry.getD Geometry.default) (c.constants.getD Constants.default).lowMark
    port := { s.port with mode := .running } }

/-- READY: the BOOT report is to be written (R173). -/
def State.readyStage (s : State) : State :=
  let b := { s.boot with stage := .ready, ready := .report, pendingConfig := none }
  { s with boot := b }.startWriting .boot (bootBytes b s.page.geo)

/-- The stages DRAM, TABLES and READY with a configuration; `lines` are the first samples of the sensor
lines (R171, R172, R173, 07 R138). -/
def State.bringUp (s : State) (c : Sections) (lines : BitVec 16) : State :=
  (((s.dramStage c).tablesStage c).firstSample lines).readyStage

/-- The flag of a ROM status is set (R168, R169, R176, R179). -/
def BootUnit.flagStatus (b : BootUnit) (status : RomStatus) : BootUnit :=
  { b with
    rom := status
    romBlank := b.romBlank || status == .blank
    romInvalid := b.romInvalid || status == .invalid
    romChecksum := b.romChecksum || status == .checksum
    romSkipped := b.romSkipped || status == .skipped }

/-- Words of the EEPROM have been read (R167, R179). -/
def BootUnit.countRead (b : BootUnit) (n : Nat) : BootUnit :=
  { b with read := b.read + BitVec.ofNat 16 n }

/-! ## The boot rows -/

/-- HARD_RESET (R166): every block takes its power-on values. A power-on finds the EEPROM `rom` fitted,
or the one fitted before; a store in flight is abandoned with the words it had shifted (R178). -/
def execHardReset (cause : ResetCause) (rom : Option (List Word)) (s : State) :
    Host.Outcome State Fault Refusal :=
  let eeprom :=
    match cause, rom with
    | .powerOn, some r => fitRom r
    | _, _ => s.eeprom
  runIf (rom.all fun r => decide (r.length ≤ 1024)) s
    (State.powerOn cause eeprom s.free s.pending)

/-- PROBE (R168): the reset ends and CFGSKIP is sampled. -/
def execProbe (cfgskip : Bool) (lines : BitVec 16) (s : State) : Host.Outcome State Fault Refusal :=
  runIf (s.boot.stage == .reset) s
    (if cfgskip then { s with boot := { s.boot with stage := .probe } }
      else { s with boot := s.boot.flagStatus .skipped }.bringUp Sections.empty lines)

/-- PROBE_WORD_READ_END (R168). -/
def execProbeWordReadEnd (lines : BitVec 16) (s : State) : Host.Outcome State Fault Refusal :=
  let b := s.boot.countRead 1
  runIf (s.boot.stage == .probe) s
    (if romWord s.eeprom 0 = 0xFFFF then
        { s with boot := b.flagStatus .blank }.bringUp Sections.empty lines
      else { s with boot := { b with stage := .load } })

/-- IMAGE_READ_END (R169): word 0 has been counted at PROBE. -/
def execImageReadEnd (lines : BitVec 16) (s : State) : Host.Outcome State Fault Refusal :=
  let r := readImage s.eeprom startBands
  let b := { (s.boot.countRead (r.words - 1)).flagStatus r.status with version := r.version }
  runIf (s.boot.stage == .load) s ({ s with boot := b }.bringUp r.sections lines)

/-- HOST_RELEASE (R173 step 3). -/
def execHostRelease (s : State) : Host.Outcome State Fault Refusal :=
  runIf (s.boot.ready == .release) s
    { s with
      boot := { s.boot with ready := .released }
      coder := s.coder.leaveReset }

/-! ## CONFIG RELOAD (R175, R176) -/

/-- Every channel is IDLE and no motor is MOVING (R175). -/
def State.quiescent (s : State) : Bool := s.entryCondition 1 && s.entryCondition 2

/-- CONFIG RELOAD, its checks in order (R175). -/
def State.reloadCommand (s : State) : State :=
  if !s.quiescent then s.refuse .notQuiescent
  else if s.boot.store.isSome then s.refuse .romBusy
  else s.startWork .reload

/-- CONFIG_RELOAD (R175). -/
def execConfigReload (s : State) : Host.Outcome State Fault Refusal :=
  runIf (s.cmdIs 19 fun _ => true) s s.reloadCommand

/-- A replaced ramp at a reload: k_line with T_line as it stood before the reload (R176). -/
def State.reloadRamps (s : State) (c : Sections) : List (Fin 4) → State
  | [] => s
  | n :: rest =>
    (match c.ramp n with
      | some t => s.replaceRamp n t
      | none => s).reloadRamps c rest

/-- The phase tables of a reload (R176). -/
def State.reloadPhases (s : State) (c : Sections) : List MotorId → State
  | [] => s
  | m :: rest =>
    (match c.phase m with
      | some p => s.setMotor m ((s.motor m).setPhases p.patterns p.length)
      | none => s).reloadPhases c rest

/-- Hold time and auto-release of a motor (R176, 06 R114). -/
def Motor.setHold (x : Motor) (h : Nat × Bool) : Motor :=
  { x with holdTime := h.1, autoRelease := h.2 }

/-- The CONSTANTS of a reload; the low mark is compared at once (R176). -/
def State.reloadConstants (s : State) (k : Constants) : State :=
  { s with
    scan := { s.scan with tLine := k.tLine }
    print := { s.print with dmax := k.dmax }
    power := { s.power with drainLimit := k.drainLimit }
    page := { s.page with lowMark := k.lowMark }
    motors :=
      { s.motors with
        m0 := s.motors.m0.setHold k.hold0
        m1 := s.motors.m1.setHold k.hold1
        m2 := s.motors.m2.setHold k.hold2 } }.poolTest

/-- The gateways of a reload, each as a SENSOR CONFIG, lines in ascending order (R176, 07 R143; log 52). -/
def State.reloadGates (s : State) (cs : List GateCfg) : List (Fin 16) → State
  | [] => s
  | g :: rest => (s.configGate g (cs.getD g.val GateCfg.default)).reloadGates cs rest

/-- A valid image replaces the sections it carries, the geometry apart, at one instant: what its constants
and gateways raise is judged under its priorities (R176, log 51). -/
def State.putInForce (s : State) (c : Sections) : State :=
  let s0 :=
    match c.priorities with
    | some ps => s.loadPriorities ps ids24
    | none => s
  let s1 := (s0.reloadRamps c (List.finRange 4)).reloadPhases c allMotors
  let s2 :=
    match c.strobe with
    | some t => { s1 with print := { s1.print with strobe := t } }
    | none => s1
  let s3 :=
    match c.constants with
    | some k => s2.reloadConstants k
    | none => s2
  match c.gateways with
  | some gs => s3.reloadGates gs ids16
  | none => s3

/-- The image's geometry differs from the one in force (R176). -/
def State.geometryIgnored (s : State) (c : Sections) : Bool :=
  c.geometry.any fun g => decide (g ≠ s.page.geo)

/-- The reload's reading has ended (R176). -/
def State.reloadEnd (s : State) (r : Reading) : State :=
  let s1 := { s with boot := (s.boot.countRead r.words).flagStatus r.status }
  if r.status = .valid then
    ({ s1 with boot := { s1.boot with version := r.version } }.putInForce r.sections).complete .done
      [r.version, r.sections.clamped, flag (s.geometryIgnored r.sections) 1]
  else s1.complete .romInvalid [r.status.code]

/-- RELOAD_READ_END (R176). -/
def execReloadReadEnd (s : State) : Host.Outcome State Fault Refusal :=
  runIf (s.recUnit.state == .executing && s.recUnit.work == some .reload) s
    (s.reloadEnd (readImage s.eeprom fun _ => s.page.geo.bands))

/-! ## CONFIG STORE (R177, R178) -/

/-- CONFIG STORE, its checks in order (R177). -/
def State.storeCommand (s : State) : State :=
  let bs := s.cmdBytes
  let addr := wordAt bs 4
  let count := wordAt bs 6
  let source := dwordAt bs 8
  if count = 0 ∨ 1024 < addr + count then s.refuse .badRange
  else if !s.page.geo.goodSource source (2 * count) then s.refuse .badAddress
  else if s.power.state = .drain then s.refuse .powerPending
  else if s.boot.store.isSome then s.refuse .romBusy
  else
    { s with boot :=
        { s.boot with
          store := some { addr, count, source, next := 0, words := [], phase := .source } } }.complete
      .done []

/-- CONFIG_STORE (R177). -/
def execConfigStore (s : State) : Host.Outcome State Fault Refusal :=
  runIf (s.cmdIs 20 fun _ => true) s s.storeCommand

/-- The store operation stands at. -/
def State.setStore (s : State) (o : Option StoreOp) : State :=
  { s with boot := { s.boot with store := o } }

/-- The store ends at a word that could not be written (R178). -/
def State.storeFailed (s : State) (o : StoreOp) : State :=
  { s with boot := { s.boot with store := none, storeFail := true } }.raise 21 .storeFailed
    (.word (o.addr + o.next))

/-- STORE_SOURCE_BURST_END (R178). -/
def execStoreSourceBurstEnd (s : State) : Host.Outcome State Fault Refusal :=
  match s.boot.store, s.port.busy with
  | some o, some (.storeBurst a n) =>
    let ws := (s.burstData (.storeBurst a n)).map (BitVec.ofNat 16)
    runIf true s (s.releasePort.setStore (some { o with words := ws, phase := .shifting }))
  | _, _ => runIf false s s

/-- STORE_WORD_SHIFTED (R178 step 1): the EEPROM's own write of the word begins, and it holds its new
value whatever follows. -/
def execStoreWordShifted (s : State) : Host.Outcome State Fault Refusal :=
  match s.boot.store with
  | some o =>
    match o.words with
    | w :: _ =>
      let s1 := s.setStore (some { o with phase := .waiting })
      runIf (o.phase == .shifting) s
        { s1 with
          eeprom := (fitRom s1.eeprom).set (o.addr + o.next) w
          boot := { s1.boot with written := s1.boot.written + 1 } }
    | [] => runIf false s s
  | none => runIf false s s

/-- EEPROM_READY (R178 step 2). -/
def execEepromReady (s : State) : Host.Outcome State Fault Refusal :=
  match s.boot.store with
  | some o => runIf (o.phase == .waiting) s (s.setStore (some { o with phase := .readback }))
  | none => runIf false s s

/-- EEPROM_READY_TIMEOUT (R178). -/
def execEepromReadyTimeout (s : State) : Host.Outcome State Fault Refusal :=
  match s.boot.store with
  | some o => runIf (o.phase == .waiting) s (s.storeFailed o)
  | none => runIf false s s

/-- The word read back equals the one written: the next one follows, or the store has ended (R178). -/
def State.storeOn (s : State) (o : StoreOp) (rest : List Word) : State :=
  if o.count ≤ o.next + 1 then (s.setStore none).raise 21 .storeDone (.word 0)
  else
    s.setStore
      (some
        { o with
          next := o.next + 1
          words := rest
          phase := if rest.isEmpty then .source else .shifting })

/-- STORE_READBACK_END (R178 step 3): the EEPROM holds the word that it returns. -/
def execStoreReadbackEnd (word : Word) (s : State) : Host.Outcome State Fault Refusal :=
  match s.boot.store with
  | some o =>
    match o.words with
    | w :: rest =>
      let s1 :=
        { s with
          eeprom := (fitRom s.eeprom).set (o.addr + o.next) word
          boot := s.boot.countRead 1 }
      runIf (o.phase == .readback) s
        (if word = w then s1.storeOn o rest else s1.storeFailed o)
    | [] => runIf false s s
  | none => runIf false s s

end Sys2Proof.Machine
end

