-- ==== Sys2Proof/Machine/HostPort.lean ====
section
/-! DEFINITION. The host port and the DRAM port's host words and refreshes (10 R180, R181, R189;
01 R23, R24). -/

namespace Sys2Proof.Machine

/-- A write of the command attention word (R180, R174, R191). -/
def State.writeCommandWord (s : State) (value : Word) : State :=
  if s.atReady then
    { s with host :=
        { s.host with
          producer := value.toNat % s.page.geo.cmdSize
          attention := s.host.attention + 1 } }
  else s

/-- A write of the report attention word (R180, R174, R191). -/
def State.writeReportWord (s : State) (value : Word) : State :=
  if s.atReady then
    { s with host :=
        { s.host with
          consumer := value.toNat % s.page.geo.repSize
          attention := s.host.attention + 1 } }
  else s

/-- What a read of the command attention word returns (R180, R174). -/
def State.commandWord (s : State) : Word :=
  if s.boot.stage = .ready then BitVec.ofNat 16 s.recUnit.consumer else 0

/-- What a read of the report attention word returns (R180, R174). -/
def State.reportWord (s : State) : Word :=
  if s.boot.stage = .ready then BitVec.ofNat 16 s.recUnit.producer else 0

/-- The output RPTN is high (R181). -/
def State.rptn (s : State) : Bool :=
  !(s.boot.stage == .ready && s.recUnit.producer != s.host.consumer)

/-- The output HWAITN is high: no host cycle is waiting (R24). -/
def State.hwaitn (s : State) : Bool := s.host.cycle.isNone

/-- The host reset output HRSTN is high (09 R173). -/
def State.hrstn (s : State) : Bool := s.atReady

/-- COMMAND_WORD_WRITE (R180). -/
def execCommandWordWrite (value : Word) (s : State) : Host.Outcome State Fault Refusal :=
  runIf true s (s.writeCommandWord value)

/-- REPORT_WORD_WRITE (R189). -/
def execReportWordWrite (value : Word) (s : State) : Host.Outcome State Fault Refusal :=
  runIf true s (s.writeReportWord value)

/-- An attention cycle; HA1, the lowest bit of the word address, picks the word (R180). -/
def State.attentionCycle (s : State) (reportWord : Bool) (write : Option Word) : State :=
  match write with
  | some v => if reportWord then s.writeReportWord v else s.writeCommandWord v
  | none =>
    { s with host := { s.host with data := if reportWord then s.reportWord else s.commandWord } }

/-- HOST_MEMORY_CYCLE (01 R24; with HASEL active beside HMSEL an attention cycle, R180). It waits with
HWAITN low until it is answered: `settle` answers it at once, or passes it to the arbiter. -/
def execHostMemoryCycle (hasel : Bool) (wordAddr : BitVec 21) (write : Option Word) (s : State) :
    Host.Outcome State Fault Refusal :=
  runIf s.hwaitn s
    (if hasel then s.attentionCycle (wordAddr.getLsbD 0) write
      else
        { s with host :=
            { s.host with cycle := some { addr := 2 * wordAddr.toNat, write, asked := false } } })

/-- The host word moves (01 R22, R24). -/
def State.serveHost (s : State) (c : HostCycle) : State :=
  match c.write with
  | some w =>
    { s with
      mem := Memory.writeBytes s.mem c.addr (le16 w.toNat)
      host := { s.host with cycle := none } }
  | none =>
    { s with host :=
        { s.host with
          cycle := none
          data := BitVec.ofNat 16 (wordAt (Memory.readBytes s.mem c.addr 2) 0) } }

/-- HOST_WORD_SERVED (01 R24): the grant ends and HWAITN is released. -/
def execHostWordServed (s : State) : Host.Outcome State Fault Refusal :=
  match s.host.cycle with
  | some c =>
    runIf (s.port.busy == some .hostWord) s (s.serveHost c).freePort
  | none => runIf false s s

/-- REFRESH_DUE (01 R23). -/
def execRefreshDue (s : State) : Host.Outcome State Fault Refusal :=
  runIf (s.port.mode == .running && !s.port.refreshDue) s
    { s with port := { s.port with refreshDue := true } }

/-- REFRESH_END (01 R23). -/
def execRefreshEnd (s : State) : Host.Outcome State Fault Refusal :=
  runIf (s.port.busy == some .refresh) s s.freePort

end Sys2Proof.Machine
end

