-- ==== Sys2Proof/Machine/Entries.lean ====
section
/-! DEFINITION. Fetching chain entries and executing them (02 R30 to R50). Every entry row acts on the
entry that is current in the window of its channel. -/

namespace Sys2Proof.Machine

/-! ## The fetch (R30, R31, R32) -/

/-- The fetched JUMP is followed from the window (R32). -/
def Entry.followed (geo : Geometry) : Entry → Option Nat
  | .jump a => if geo.goodSource a 16 then some a else none
  | _ => none

/-- An entry arrives: it becomes current, or the next entry of the window, or is a JUMP that is followed
at once, one for each fetch (R30, R31, R32). -/
def Chan.arrive (c : Chan) (geo : Geometry) (f : Fetch) (e : WinEntry) : Chan :=
  if f.asCurrent then c.makeCurrent geo e
  else
    match e.entry.followed geo, f.viaJump with
    | some a, false =>
      { c with fetch := some { addr := a, asCurrent := false, viaJump := true } }
    | _, _ =>
      if c.current.isSome then { c with next := some e, fetch := none } else c.makeCurrent geo e

/-- The channel whose entry fetch holds the grant. -/
def State.fetching (s : State) : Option Channel :=
  match s.port.busy with
  | some (.entryFetch ch) => some ch
  | _ => none

/-- ENTRY_FETCH_END (R30): a fetch that its channel has given up meanwhile gives it nothing. -/
def execEntryFetchEnd (s : State) : Host.Outcome State Fault Refusal :=
  match s.fetching with
  | some ch =>
    let s1 := s.releasePort
    match (s.chan ch).fetch with
    | some f =>
      let e := { addr := f.addr, entry := Entry.decode (Memory.readBytes s.mem f.addr 16) }
      runIf true s (s1.setChan ch ((s1.chan ch).arrive s.page.geo f e))
    | none => runIf true s s1
  | none => runIf false s s

/-! ## When an entry executes -/

/-- The current entry of a channel is to be executed. Under a pause request only a LINES entry still begins
(log 20), and an entry that gives a fault gives it (R50). -/
def State.entryDue (s : State) (ch : Channel) : Option Entry :=
  (s.atTurn ch).filter fun e =>
    (s.chan ch).pauseReq.isNone || e.isLines || (s.entryFault ch e).isSome

/-- The channel enters a wait. -/
def State.startWait (s : State) (ch : Channel) (w : Wait) : State :=
  s.setChan ch { s.chan ch with state := .waiting w }

/-! ## Opening pages (R35 to R38) -/

/-- A writer's opening takes a slot, at one instant (R35, 05 R104). -/
def State.openSlot (s : State) (ch : Channel) (i : Fin 16) (consume pp pc : Bool) (limit : Nat) :
    State :=
  let s1 := s.giveSlot i ch consume pp pc limit
  let ref : PageRef := { slot := i, gen := (s1.slot i).gen }
  let s2 := s1.setChan ch { s1.chan ch with openPage := some ref, badRun := 0, held := none }
  let s3 :=
    if ch = .codeIn then
      { s2 with coder :=
          { s2.coder with copyDots := whiteDots, copyCounts := Counts.zero, burstReported := false } }
    else s2
  s3.notifyEnding ch { body := .pageOpened, page := some ref }

/-- OPEN WRITE (R35, R7). -/
def State.openWriteEntry (s : State) (ch : Channel) (consume pp pc : Bool) (limit : Nat) : State :=
  if !isWriter ch then s.faultEntry ch .badEntry
  else if (s.chan ch).openPage.isSome then s.faultEntry ch .pageOpen
  else
    match s.emptySlot with
    | some i => s.openSlot ch i consume pp pc limit
    | none =>
      let s1 := s.startWait ch .slot
      { s1 with page := { s1.page with slotWait := s1.page.slotWait ++ [ch] } }

/-- OPEN_WRITE (R35); a slot that another writer is waiting for goes to that one first (R7). -/
def execOpenWrite (ch : Channel) (s : State) : Host.Outcome State Fault Refusal :=
  match s.entryDue ch with
  | some (.openWrite consume pp pc limit) =>
    runIf
      (s.page.slotWait.isEmpty || s.emptySlot.isNone || !isWriter ch || (s.chan ch).openPage.isSome)
      s (s.openWriteEntry ch consume pp pc limit)
  | _ => runIf false s s

/-- The reader joins the page (R36, R15). -/
def State.join (s : State) (ch : Channel) (ref : PageRef) (release : Bool) (scale : Nat) : State :=
  let p := s.slot ref.slot
  let s1 := s.setSlot ref.slot (p.setReader ch true)
  let c := s1.chan ch
  let s2 := s1.setChan ch
    { c with
      state := .running
      openPage := some ref
      position := if p.consume then p.freed + 1 else 1
      releaseOnClose := release
      scale := if ch = .print then scale else c.scale
      scaleAcc := if ch = .print then 0 else c.scaleAcc }
  s2.endEntry ch

/-- Checks 4 to 8 on a resolved page, and what follows them (R36, R38). -/
def State.openResolved (s : State) (ch : Channel) (ref : PageRef) (follow release : Bool)
    (scale : Nat) : State :=
  match s.readFault ch ref with
  | some code =>
    (if code = .stalePage then s.markStale else s).faultEntry ch code
  | none =>
    if (s.slot ref.slot).state = .complete ∨ follow then s.join ch ref release scale
    else s.setChan ch { s.chan ch with state := .waiting .complete, resolved := some ref }

/-- A peer reference is resolved to the page its channel now writes, or is waited for (R37). -/
def State.openPeer (s : State) (ch peer : Channel) (follow release : Bool) (scale : Nat) : State :=
  match s.pageOf peer with
  | some i => s.openResolved ch { slot := i, gen := (s.slot i).gen } follow release scale
  | none => s.startWait ch .page

/-- A reader that was paused in WAIT_COMPLETE is resumed: it enters the wait again while its page is being written
(R55); a page completed in the meantime gets checks 4 to 8 now (R38; log 63). -/
def State.reopen (s : State) (ch : Channel) (ref : PageRef) (follow release : Bool) (scale : Nat) : State :=
  if s.pageDone ref then s.openResolved ch ref follow release scale else s.startWait ch .complete

/-- OPEN READ, its checks in order (R36, R37); a reference resolved before a pause is kept (R55). -/
def State.openReadEntry (s : State) (ch : Channel) (follow release peer : Bool)
    (slot gen scale : Nat) : State :=
  if isWriter ch then s.faultEntry ch .badEntry
  else if (s.chan ch).openPage.isSome then s.faultEntry ch .pageOpen
  else
    match (s.chan ch).resolved with
    | some ref => s.reopen ch ref follow release scale
    | none =>
      if peer then
        match peerOf slot with
        | some p => s.openPeer ch p follow release scale
        | none => s.faultEntry ch .badTarget
      else
        match slotOf slot with
        | some i => s.openResolved ch { slot := i, gen } follow release scale
        | none => s.faultEntry ch .badTarget

/-- OPEN_READ (R36). -/
def execOpenRead (ch : Channel) (s : State) : Host.Outcome State Fault Refusal :=
  match s.entryDue ch with
  | some (.openRead follow release peer slot gen scale) =>
    runIf true s (s.openReadEntry ch follow release peer slot gen scale)
  | _ => runIf false s s

/-! ## LINES and the setup entries (R39 to R45) -/

/-- LINES (R39). -/
def execLines (ch : Channel) (s : State) : Host.Outcome State Fault Refusal :=
  match s.entryDue ch with
  | some (.lines count edge burst) => runIf true s (s.beginLines ch count edge burst)
  | _ => runIf false s s

/-- SET PROCESSING (R42). -/
def State.setProcessingEntry (s : State) (ch : Channel) (shadingB toneB : Bool)
    (mode threshold : Nat) : State :=
  if ch ≠ .scan ∨ 1 < mode then s.faultEntry ch .badEntry
  else if s.bankLoading shadingB toneB then s.startWait ch .table
  else s.select ch { shadingB, toneB, diffuse := mode == 1, threshold }

/-- SET_PROCESSING (R42). -/
def execSetProcessing (ch : Channel) (s : State) : Host.Outcome State Fault Refusal :=
  match s.entryDue ch with
  | some (.setProcessing shadingB toneB mode threshold) =>
    runIf true s (s.setProcessingEntry ch shadingB toneB mode threshold)
  | _ => runIf false s s

/-- The motor unit records a link (06 R122). -/
def State.link (s : State) (ch : Channel) (m : MotorId) (spl : Nat) (n : Fin 4) (top : Nat) : State :=
  let x := s.motor m
  let s1 := s.setMotor m
    { x with
      link := some
        { spl, ramp := n, top := s.clampTop n top, kLine := lineCap (s.ramp n) spl s.scan.tLine }
      group := 0
      budget := none }
  s1.endEntry ch

/-- LINK MOTOR on a channel that has a motor (R43, 06 R122). -/
def State.linkMotorEntry (s : State) (ch : Channel) (m : MotorId) (spl : Nat) (n : Fin 4) (top : Nat) :
    State :=
  if (s.motor m).moving ∧ (s.motor m).link.isNone then s.startWait ch .motor
  else if ch = .scan ∧ spl * (s.ramp n).getD 0 0 < s.scan.tLine then s.faultEntry ch .linkTooFast
  else s.link ch m spl n top

/-- LINK_MOTOR (R43). A relink tests LINK_TOO_FAST once the motor has come to rest (log 48). -/
def execLinkMotor (ch : Channel) (s : State) : Host.Outcome State Fault Refusal :=
  match s.entryDue ch with
  | some (.linkMotor spl n top) =>
    match motorFor ch with
    | some m => runIf (s.linkReady ch m) s (s.linkMotorEntry ch m spl n top)
    | none => runIf true s (s.faultEntry ch .badEntry)
  | _ => runIf false s s

/-- UNLINK takes effect on Print with the queue empty and no read in progress (R44). -/
def State.unlinkReady (s : State) (ch : Channel) (m : MotorId) : Bool :=
  (s.motor m).link.isNone || ch != .print || (s.print.queue.isEmpty && !s.chans.print.reading)

/-- UNLINK (R44). -/
def execUnlink (ch : Channel) (s : State) : Host.Outcome State Fault Refusal :=
  match s.entryDue ch with
  | some .unlink =>
    match motorFor ch with
    | some m => runIf (s.unlinkReady ch m) s ((s.unlinkMotor m).endEntry ch)
    | none => runIf true s (s.faultEntry ch .badEntry)
  | _ => runIf false s s

/-- WAIT LINE (R45); a timer that a pause has stood still goes on from its value. -/
def State.waitLineEntry (s : State) (ch : Channel) (g : Fin 16) (high : Bool) (timeout : Nat) : State :=
  let c := s.chan ch
  if (s.gate g).high = high then s.endEntry ch
  else
    s.setChan ch
      { c with
        state := .waiting .gate
        waitTimer := if c.waitTimer = 0 then timeout else c.waitTimer }

/-- WAIT_LINE (R45). -/
def execWaitLine (ch : Channel) (s : State) : Host.Outcome State Fault Refusal :=
  match s.entryDue ch with
  | some (.waitLine g high timeout) => runIf true s (s.waitLineEntry ch g high timeout)
  | _ => runIf false s s

/-! ## Ending pages and chains (R46 to R49) -/

/-- No line of a writer is in flight; a held line without a frame is none (R46). -/
def State.writerQuiet (s : State) : Channel → Bool
  | .scan => s.scanQuiet
  | .codeIn => s.coder.recv != .receiving && s.coder.recv != .storing
  | .print => true
  | .codeOut => true

/-- CLOSE on a writer (R46). -/
def State.closeWriterEntry (s : State) (ch : Channel) : State :=
  match (s.chan ch).openPage with
  | none => s.faultEntry ch .noPage
  | some ref =>
    let s1 := s.completePage ref.slot false
    let p := s.slot ref.slot
    let s2 := s1.setChan ch { s1.chan ch with openPage := none, held := none }
    s2.notifyEnding ch
      { body := .pageClosed p.stored p.truncated p.concealed, page := some ref }

/-- CLOSE_WRITER (R46). -/
def execCloseWriter (ch : Channel) (s : State) : Host.Outcome State Fault Refusal :=
  match s.entryDue ch with
  | some .close =>
    runIf (isWriter ch && ((s.chan ch).openPage.isNone || s.writerQuiet ch)) s
      (s.closeWriterEntry ch)
  | _ => runIf false s s

/-- A reader leaves its page, and its CLOSE ends (R47). -/
def State.leavePage (s : State) (ch : Channel) (ref : PageRef) : State :=
  let c := s.chan ch
  let s1 := s.leave ref.slot ch c.releaseOnClose
  (s1.setChan ch { s1.chan ch with openPage := none, releaseOnClose := false }).endEntry ch

/-- Code-out has read past the last line of a COMPLETE page (R47, R101). -/
def State.owesPageEnd (s : State) (ch : Channel) (ref : PageRef) : Bool :=
  ch == .codeOut && (s.slot ref.slot).state == .complete &&
    decide ((s.slot ref.slot).stored < (s.chan ch).position)

/-- A PAGE END is offered to the coder; CLOSE goes on when it has been taken (R101). -/
def State.offerPageEnd (s : State) : State :=
  let s1 := s.setChan .codeOut { s.chans.codeOut with phase := .begun }
  { s1 with coder := s1.coder.offer .pageEnd }

/-- CLOSE on a reader (R47). -/
def State.closeReaderEntry (s : State) (ch : Channel) : State :=
  match (s.chan ch).openPage with
  | none => s.faultEntry ch .noPage
  | some ref => if s.owesPageEnd ch ref then s.offerPageEnd else s.leavePage ch ref

/-- CLOSE_READER (R47); Code-out's PAGE END follows the LINE still in the send buffer (R101). -/
def execCloseReader (ch : Channel) (s : State) : Host.Outcome State Fault Refusal :=
  match s.entryDue ch with
  | some .close =>
    runIf
      (!isWriter ch &&
        (match (s.chan ch).openPage with
          | some ref => !s.owesPageEnd ch ref || s.coder.sendBuf.isNone
          | none => true))
      s (s.closeReaderEntry ch)
  | _ => runIf false s s

/-- The line count of a MARK (R34). -/
def State.markCount (s : State) (ch : Channel) : Nat :=
  match (s.chan ch).openPage with
  | none => 0
  | some ref =>
    if isWriter ch then (s.slot ref.slot).assigned else (s.chan ch).position - 1

/-- MARK (R48). -/
def execMark (ch : Channel) (s : State) : Host.Outcome State Fault Refusal :=
  match s.entryDue ch with
  | some (.mark v) =>
    runIf true s
      (s.notifyEnding ch { body := .mark v (s.markCount ch), page := (s.chan ch).openPage })
  | _ => runIf false s s

/-- A current JUMP is taken (R32). -/
def State.jumpEntry (s : State) (ch : Channel) (target : Nat) : State :=
  if s.page.geo.goodSource target 16 then
    s.setChan ch
      { s.chan ch with
        current := none
        next := none
        entryAddr := target
        fetch := some { addr := target, asCurrent := true, viaJump := false } }
  else s.faultEntry ch .badAddress

/-- JUMP (R32). -/
def execJump (ch : Channel) (s : State) : Host.Outcome State Fault Refusal :=
  match s.entryDue ch with
  | some (.jump target) => runIf true s (s.jumpEntry ch target)
  | _ => runIf false s s

/-- What END waits for: lines in flight, the print queue, the send buffer (R49). -/
def State.pathEmpty (s : State) : Channel → Bool
  | .scan => s.writerQuiet .scan
  | .codeIn => s.writerQuiet .codeIn
  | .print => s.print.queue.isEmpty && !s.chans.print.reading
  | .codeOut => s.coder.sendBuf.isNone && !s.chans.codeOut.reading

/-- END_ENTRY (R49). -/
def execEndEntry (ch : Channel) (s : State) : Host.Outcome State Fault Refusal :=
  match s.entryDue ch with
  | some .finish =>
    runIf (s.pathEmpty ch) s
      (s.notifyEnding ch { body := .chainEnd false (s.chan ch).entryAddr, page := none })
  | _ => runIf false s s

/-- An entry that no channel, or not this channel, may execute: the fault it gives (R50, 02 section
2.12); the mark of an address that could not be fetched gives BAD_ADDRESS (R30, log 18). -/
def Entry.refusedOn (ch : Channel) : Entry → Option FaultCode
  | .unknown => some .badEntry
  | .notFetched => some .badAddress
  | .openWrite .. => if isWriter ch then none else some .badEntry
  | .openRead .. => if isWriter ch then some .badEntry else none
  | .setProcessing .. => if ch = .scan then none else some .badEntry
  | .linkMotor .. => if (motorFor ch).isSome then none else some .badEntry
  | .unlink => if (motorFor ch).isSome then none else some .badEntry
  | .lines .. => none
  | .waitLine .. => none
  | .close => none
  | .mark _ => none
  | .jump _ => none
  | .finish => none

/-- UNKNOWN_ENTRY (R50). -/
def execUnknownEntry (ch : Channel) (s : State) : Host.Outcome State Fault Refusal :=
  match (s.entryDue ch).bind (Entry.refusedOn ch) with
  | some code => runIf true s (s.faultEntry ch code)
  | none => runIf false s s

end Sys2Proof.Machine
end

