-- ==== Sys2Proof/Machine/Waits.lean ====
section
/-! DEFINITION. The ends of the channels' waits and their line boundaries (02 R29, R53, R54). A channel
whose pause request finds it at its boundary leaves its wait for that (R53). -/

namespace Sys2Proof.Machine

/-- The channel is RUNNING again. -/
def State.runAgain (s : State) (ch : Channel) : State :=
  s.setChan ch { s.chan ch with state := .running }

/-- SLOT_HANDED (01 R7): the writer whose wait began first gets the slot. -/
def execSlotHanded (s : State) : Host.Outcome State Fault Refusal :=
  match s.page.slotWait, s.emptySlot with
  | ch :: rest, some i =>
    match s.currentEntry ch with
    | some (.openWrite consume pp pc limit) =>
      let s1 := { s with page := { s.page with slotWait := rest } }.runAgain ch
      runIf (s.waitsFor ch .slot) s (s1.openSlot ch i consume pp pc limit)
    | _ => runIf false s s
  | _, _ => runIf false s s

/-- PEER_PAGE_RESOLVED (R37). -/
def execPeerPageResolved (ch : Channel) (s : State) : Host.Outcome State Fault Refusal :=
  match s.currentEntry ch with
  | some (.openRead follow release _ slot _ scale) =>
    match (peerOf slot).bind s.pageOf with
    | some i =>
      runIf (s.waitsFor ch .page) s
        ((s.runAgain ch).openResolved ch { slot := i, gen := (s.slot i).gen } follow release scale)
    | none => runIf false s s
  | _ => runIf false s s

/-- WAIT_COMPLETE_END (R38). -/
def execWaitCompleteEnd (ch : Channel) (s : State) : Host.Outcome State Fault Refusal :=
  match s.currentEntry ch, (s.chan ch).resolved with
  | some (.openRead follow release _ _ _ scale), some ref =>
    runIf (s.waitsFor ch .complete && s.pageDone ref) s
      ((s.runAgain ch).openResolved ch ref follow release scale)
  | _, _ => runIf false s s

/-- Page memory has an answer for the line a reader waits for (01 R15). -/
def State.lineAnswered (s : State) (ch : Channel) : Bool :=
  (s.chan ch).openPage.any fun ref => s.readLine ref.slot (s.chan ch).position != .notYet

/-- WAIT_LINES_END (01 R15): the reader asks again, or its entry ends short, in `settle`. -/
def execWaitLinesEnd (ch : Channel) (s : State) : Host.Outcome State Fault Refusal :=
  runIf (s.waitsFor ch .lines && s.lineAnswered ch) s (s.runAgain ch)

/-- WAIT_SPACE_END (01 R11): Code-in asks again, and is given the head band, in `settle`. -/
def execWaitSpaceEnd (s : State) : Host.Outcome State Fault Refusal :=
  runIf (s.waitsFor .codeIn .space && decide (1 ≤ s.unreserved)) s (s.runAgain .codeIn)

/-- WAIT_GATE_END (R45). -/
def execWaitGateEnd (ch : Channel) (s : State) : Host.Outcome State Fault Refusal :=
  match s.currentEntry ch with
  | some (.waitLine g high _) =>
    runIf (s.waitsFor ch .gate && (s.gate g).high == high) s ((s.runAgain ch).endEntry ch)
  | _ => runIf false s s

/-- WAIT_LINE_TIMEOUT (R45). -/
def execWaitLineTimeout (ch : Channel) (s : State) : Host.Outcome State Fault Refusal :=
  runIf (s.waitsFor ch .gate && decide (0 < (s.chan ch).waitTimer)) s (s.faultEntry ch .waitExpired)

/-- What a channel in WAIT_MOTOR waits for: HALTED cleared in a LINES entry, rest in LINK MOTOR (R29,
R43, R56). -/
def State.motorFree (s : State) (ch : Channel) : Bool :=
  (motorFor ch).all fun m =>
    if (s.chan ch).atLines then (s.motor m).halted.isNone else !(s.motor m).moving

/-- WAIT_MOTOR_END (R56). -/
def execWaitMotorEnd (ch : Channel) (s : State) : Host.Outcome State Fault Refusal :=
  runIf (s.waitsFor ch .motor && s.motorFree ch) s (s.runAgain ch)

/-- WAIT_TABLE_END (R42). The completion of the load ends the wait itself (03 R75); the row is for a wait
that a pause request held at its boundary then, and no longer holds. -/
def execWaitTableEnd (s : State) : Host.Outcome State Fault Refusal :=
  runIf s.tableAwaited.isSome s s.endTableWait

/-- The channel gives up a place in the queue of WAIT_SLOT. -/
def State.leaveSlotWait (s : State) (ch : Channel) : State :=
  { s with page := { s.page with slotWait := s.page.slotWait.filter fun c => c ≠ ch } }

/-- A channel is PAUSED at its boundary, a wait given up, and PAUSED is called for (R53). -/
def State.pauseNow (s : State) (ch : Channel) (cause : PauseCause) : State :=
  ((s.setChan ch { s.chan ch with state := .paused, pauseReq := none }).notify ch
    { body := .paused cause, page := none }).leaveSlotWait ch

/-- PAUSE_BOUNDARY_REACHED (R53). -/
def execPauseBoundaryReached (ch : Channel) (s : State) : Host.Outcome State Fault Refusal :=
  match (s.chan ch).pauseReq with
  | some (.pause cause) => runIf (s.boundaryDue ch) s (s.pauseNow ch cause)
  | _ => runIf false s s

/-- The abort steps at the boundary of an ABORT request, with their CHAIN END notice (R51, R54). -/
def State.abortNow (s : State) (ch : Channel) : State :=
  (s.abortSteps ch).postFinal ch
    { body := .chainEnd true (s.chan ch).entryAddr, page := none }

/-- ABORT_BOUNDARY_REACHED (R54). -/
def execAbortBoundaryReached (ch : Channel) (s : State) : Host.Outcome State Fault Refusal :=
  match (s.chan ch).pauseReq with
  | some .abort => runIf (s.boundaryDue ch) s (s.abortNow ch)
  | _ => runIf false s s

end Sys2Proof.Machine
end

