-- ==== Sys2Proof/Machine/ScanPath.lean ====
section
/-! DEFINITION. The scan path: the arithmetic of a capture and the storing of its line
(03_scan_path.md). -/

namespace Sys2Proof.Machine

/-! ## Dots (R71) -/

/-- Dot bytes, the leftmost dot in the most significant bit, a 1 being black (R71). -/
def packDots : List Bool → List Byte
  | a :: b :: c :: d :: e :: f :: g :: h :: rest =>
    BitVec.ofNat 8
      (flag a 128 + flag b 64 + flag c 32 + flag d 16 + flag e 8 + flag f 4 + flag g 2 + flag h 1) ::
      packDots rest
  | _ => []

/-- The dots of a run of dot bytes. -/
def unpackDots : List Byte → List Bool
  | [] => []
  | b :: rest =>
    b.getLsbD 7 :: b.getLsbD 6 :: b.getLsbD 5 :: b.getLsbD 4 :: b.getLsbD 3 :: b.getLsbD 2 ::
      b.getLsbD 1 :: b.getLsbD 0 :: unpackDots rest

/-- Black dots of a section. -/
def blackIn (dots : List Bool) (i : Nat) : Nat :=
  ((dots.drop (Config.dotsPerSection * i)).take Config.dotsPerSection).countP fun b => b

/-- The section counts of a line (R71, 01 R14). -/
def countsOf (dots : List Bool) : Counts :=
  ⟨blackIn dots 0, blackIn dots 1, blackIn dots 2, blackIn dots 3⟩

/-! ## Shading, tone and bilevel conversion (R67 to R70) -/

/-- The shading step of a sample with black offset and white gain (R67). -/
def shade (v : Nat) (e : Nat × Nat) : Nat :=
  if v ≤ e.1 then 0 else min 255 (((v - e.1) * e.2 + 128) / 256)

/-- The corrected samples of a line (R67, R68). -/
def corrected (shading : List (Nat × Nat)) (tone : List Nat) (samples : List Byte) : List Nat :=
  (samples.zip shading).map fun p => tone.getD (shade p.1.toNat p.2) 0

/-- THRESHOLD mode (R69). -/
def thresholdDots (th : Nat) (ts : List Nat) : List Bool := ts.map fun t => decide (t < th)

/-- The error of a pixel: u for a black dot, u − 255 for a white one (R70). -/
def pixelError (th : Nat) (u : Int) : Int := if u < th then u else u - 255

/-- The error carried to the next pixel (R70). -/
def carryError (err : Int) : Int := max (-128) (min 127 (Int.tdiv err 2))

/-- DIFFUSE mode from a carried error on (R70). -/
def diffuseDots (th : Nat) : Int → List Nat → List Bool
  | _, [] => []
  | e, t :: rest =>
    let u : Int := (t : Int) + e
    decide (u < (th : Int)) :: diffuseDots th (carryError (pixelError th u)) rest

/-- The dots of a line under its latched selection (R63, R65). -/
def State.convert (s : State) (x : Selection) (samples : List Byte) : List Bool :=
  let ts := corrected (if x.shadingB then s.scan.shadingB else s.scan.shadingA)
    (if x.toneB then s.scan.toneB else s.scan.toneA) samples
  if x.diffuse then diffuseDots x.threshold 0 ts else thresholdDots x.threshold ts

/-! ## The ends of a capture and of a slot write (R65, R66) -/

/-- The buffer whose capture is in progress. -/
def State.capturingBuf (s : State) : Option BufId :=
  if s.scan.bufA.state = .capturing then some .bufA
  else if s.scan.bufB.state = .capturing then some .bufB
  else none

/-- The line of a buffer is finished, and the capture of an ARMED one begins (R65, R71). -/
def State.finishCapture (s : State) (b : BufId) (samples : List Byte) : State :=
  let dots := s.convert (s.buf b).sel samples
  let s1 := s.setBuf b
    { s.buf b with state := .ready, dots := packDots dots, counts := countsOf dots, error := 0 }
  if (s1.buf b.other).state = .armed then
    let s2 := s1.setBuf b.other { s1.buf b.other with state := .capturing }
    { s2 with scan := s2.scan.startCapture }
  else { s1 with scan := { s1.scan with busy := false } }

/-- CAPTURE_END (R65). -/
def execCaptureEnd (samples : List Byte) (s : State) : Host.Outcome State Fault Refusal :=
  match s.capturingBuf with
  | some b =>
    runIf (decide (samples.length = Config.dotsPerLine)) s (s.finishCapture b samples)
  | none => runIf false s s

/-- The line of a buffer is stored (R66, 01 R12). -/
def State.storeScan (s : State) (b : BufId) : State :=
  let s1 := (s.storeLine (s.buf b).page.slot).countMoved .scan
  s1.setBuf b { s1.buf b with state := .free }

/-- SCAN_WRITE_END (R66). -/
def execScanWriteEnd (s : State) : Host.Outcome State Fault Refusal :=
  match s.port.busy with
  | some (.scanWrite b a) => runIf true s ((s.endBurst (.scanWrite b a)).releasePort.storeScan b)
  | _ => runIf false s s

/-- A capture is in progress: SCLK runs (R59). -/
def State.sensorClock (s : State) : Bool := s.scan.busy

/-- The capture that a step begins pulses the output SSTART (R59, R63, R65); a reset, which sets the model's
count back, pulses nothing (log 46). -/
def sstart (before after : State) : Bool := decide (before.scan.starts < after.scan.starts)

end Sys2Proof.Machine
end

