-- ==== Sys2Proof/Machine/PrintPath.lean ====
section
/-! DEFINITION. A reader's line read and the burns of the print head (02 R41, 04 R79 to R88). -/

namespace Sys2Proof.Machine

/-- A frame toward the coder made of a line slot as read (05 R100, R97). -/
def lineFrame (slot : List Byte) : Frame :=
  .line (bitOf (wordAt slot 224) 0) (bitOf (wordAt slot 224) 1) (slot.take Config.bytesPerLine)

/-- The line read for Print enters the queue; under an ABORT request its copies are discarded
(R79, R94). -/
def State.handToPrint (s : State) (line : Nat) (slot : List Byte) : State :=
  let c := s.chans.print
  let copies := (List.range (s.print.readRequest.getD 0)).map fun k => s.newCopy line k slot
  let s1 := if c.pauseReq = some .abort then s else s.enterQueue copies
  let s2 := s1.setChan .print { s1.chans.print with scaleAcc := (c.scaleAcc + c.scale) % 256 }
  { s2 with print := { s2.print with readRequest := none } }

/-- The line read for Code-out is offered to the coder (05 R100). -/
def State.handToCoder (s : State) (slot : List Byte) : State :=
  { s with coder := s.coder.offer (lineFrame slot) }

/-- The line goes to its path. -/
def State.handOver (s : State) (ch : Channel) (line : Nat) (slot : List Byte) : State :=
  match ch with
  | .print => s.handToPrint line slot
  | .codeOut => s.handToCoder slot
  | .scan => s
  | .codeIn => s

/-- The reader's position advances and its line is counted; a band read through is freed (R41, 01 R18). -/
def State.advanceReader (s : State) (ch : Channel) : State :=
  let c := s.chan ch
  let s1 := s.setChan ch
    { c with
      reading := false
      position := c.position + 1
      remaining := c.remaining - 1
      moved := c.moved + 1 }
  match c.openPage with
  | some ref => s1.freeBehind ref.slot
  | none => s1

/-- The LINES entry of a reader ends when its count has been read (R41). A Print channel that is in WAIT_MOTOR then,
its last line having been under way at the halt, is RUNNING in its next entry, the motor still halted (R29; log 68). -/
def State.endIfRead (s : State) (ch : Channel) : State :=
  let c := s.chan ch
  if c.inLines ∧ c.remaining = 0 then
    (s.setChan ch
      { c with state := if c.state = .waiting .motor then .running else c.state }).endEntry ch
  else s

/-- LINE_READ_END (R41). -/
def execLineReadEnd (s : State) : Host.Outcome State Fault Refusal :=
  match s.port.busy with
  | some (.lineRead ch a) =>
    let slot := (s.endBurst (.lineRead ch a)).port.partialData
    let line := (s.chan ch).position
    runIf (s.chan ch).reading s
      (((s.releasePort.advanceReader ch).handOver ch line slot).endIfRead ch)
  | _ => runIf false s s

/-- SHIFT_LATCH_END (04 R86): PLATN has been pulsed, and the first strobe phase begins. -/
def execShiftLatchEnd (s : State) : Host.Outcome State Fault Refusal :=
  runIf (s.print.head == .shifting) s
    { s with print := { s.print with head := .strobing 1, latches := s.print.latches + 1 } }

/-- The dots the output PDATi carries while the head copy is shifted, the first one in front, one at each
pulse of PCLK: those of section i, a 1 being black; none at other times (04 R86). -/
def State.pdat (s : State) (i : Nat) : List Bool :=
  match s.print.head, s.print.queue with
  | .shifting, c :: _ =>
    ((unpackDots c.dots).drop (Config.dotsPerSection * i)).take Config.dotsPerSection
  | _, _ => []

/-- The shift clock output PCLK runs (04 R86). -/
def State.pclk (s : State) : Bool := s.print.head == .shifting

/-- A step pulses the output PLATN low (04 R86); a reset, which sets the model's count back, does not (log
46). -/
def platn (before after : State) : Bool := decide (before.print.latches < after.print.latches)

/-- STROBE_PHASE_END (04 R87, R88). -/
def execStrobePhaseEnd (s : State) : Host.Outcome State Fault Refusal :=
  match s.print.head, s.print.queue with
  | .strobing k, c :: _ =>
    runIf true s
      (if k < c.phases then { s with print := { s.print with head := .strobing (k + 1) } }
        else s.burnEnd)
  | _, _ => runIf false s s

/-- The sections a strobe phase names (04 R87). -/
def phaseSections (phases k : Nat) : List Nat :=
  if phases = 1 then [0, 1, 2, 3]
  else if phases = 2 then (if k = 1 then [0, 1] else [2, 3])
  else [k - 1]

/-- Black dots of a section by its number. -/
def Counts.get (c : Counts) : Nat → Nat
  | 0 => c.c0
  | 1 => c.c1
  | 2 => c.c2
  | _ => c.c3

/-- The strobe output PSTBi is active (04 R87). -/
def State.strobeOut (s : State) (i : Nat) : Bool :=
  match s.print.head, s.print.queue with
  | .strobing k, c :: _ => (phaseSections c.phases k).contains i && decide (0 < c.counts.get i)
  | _, _ => false

/-- The head power output PPWR (04 R78). -/
def State.ppwr (s : State) : Bool := s.chans.print.state != .idle

end Sys2Proof.Machine
end

