-- ==== Sys2Proof/Machine/CoderLink.lean ====
section
/-! DEFINITION. The coder link: frames toward the coder and from it (05_coder_link.md). -/

namespace Sys2Proof.Machine

/-! ## Who may begin a frame (R99) -/

/-- Code-out may begin the frame in the send buffer (R100). -/
def State.maySend (s : State) : Bool :=
  let c := s.chans.codeOut
  s.coder.send == .offering && !s.coder.resetLow && c.state != .idle && c.state != .paused &&
    c.pauseReq.isNone

/-- A received frame holds the data lines (R99). -/
def State.linesReceive (s : State) : Bool :=
  s.coder.recv == .receiving || s.coder.recv == .discard

/-- A frame that the coder offers is unsolicited: it was offered, or is still offered, while Code-in is
not in a LINES entry, whatever state the channel is in (R106; log 69). -/
def State.unsolicited (s : State) (offeredOutside : Bool) : Bool :=
  offeredOutside || !s.chans.codeIn.atLines

/-- The receive direction would take a frame that the coder offers (R102, R106), in RUN and in DRAIN, a
drain reached from DOZE included (08 R154, R156, R158; log 54); an unsolicited one also while Code-in is PAUSED or in
WAIT_REPORT (R106 before R108; log 69). -/
def State.mayReceive (s : State) (offeredOutside : Bool) : Bool :=
  !s.coder.resetLow && (s.power.state == .run || s.power.state == .drain) &&
    (s.coder.recv == .ready || (s.coder.recv == .idle && s.unsolicited offeredOutside))

/-- The receive direction would take what the coder offers. -/
def State.wouldTake (s : State) : CoderOffer → Bool
  | .nothing => false
  | .inLines => s.mayReceive false
  | .outside => s.mayReceive true

/-! ## Code-out (R100, R101) -/

/-- FRAME_SEND_START (R100), with CTXR active; `crxv` is what the coder offers (log 14). A PAGE END, whose one
transfer is its last (R101), ends with FRAME_TAKEN like a LINE: between the two rows the direction is SENDING with
CTXV active, bytes sent at 1 and no byte left to drive (log 71). -/
def execFrameSendStart (crxv : CoderOffer) (s : State) : Host.Outcome State Fault Refusal :=
  let c := s.chans.codeOut
  let s1 :=
    { s with coder := { s.coder with send := .sending, bytesSent := 1, lastReceive := false } }
  runIf
    (s.maySend && !s.linesReceive && (!s.wouldTake crxv || s.coder.lastReceive)) s
    (s1.setChan .codeOut
      { c with state := if c.state = .waiting .device then .running else c.state })

/-- Length of a frame toward the coder (R97). -/
def Frame.length : Frame → Nat
  | .line .. => 217
  | .pageEnd => 1

/-- The header of a frame toward the coder: the kind, and a LINE's flags CONCEALED and TAIL (R97). -/
def Frame.header : Frame → Byte
  | .line concealed tail _ => BitVec.ofNat 8 (0x10 + flag concealed 1 + flag tail 2)
  | .pageEnd => 0x30

/-- The bytes of a frame toward the coder, its header first (R97). -/
def Frame.bytes (f : Frame) : List Byte :=
  f.header ::
    match f with
    | .line _ _ dots => dots
    | .pageEnd => []

/-- The frame was the PAGE END of a CLOSE, which goes on (R101). -/
def State.closeSent (s : State) (f : Frame) : State :=
  let c := s.chans.codeOut
  match c.openPage with
  | some ref =>
    if f = .pageEnd ∧ c.phase = .begun ∧ s.currentEntry .codeOut = some .close then
      s.leavePage .codeOut ref
    else s
  | none => s

/-- FRAME_TAKEN (R100). -/
def execFrameTaken (s : State) : Host.Outcome State Fault Refusal :=
  match s.coder.sendBuf with
  | some f =>
    let s1 :=
      { s with coder :=
          { s.coder with
            sendBuf := none
            send := .idle
            bytesSent := f.length
            sent := s.coder.sent + 1 } }
    runIf (s.coder.send == .sending) s (s1.closeSent f)
  | none => runIf false s s

/-! ## Code-in (R102 to R107) -/

/-- The frame kind of a header (R97). -/
def frameKind (header : Byte) : Nat := header.toNat / 16

/-- The length of a received frame of a kind, `none` for no kind (R97). -/
def kindLength (kind : Nat) : Option Nat :=
  match kind with
  | 1 => some 217
  | 2 => some 1
  | 3 => some 1
  | _ => none

/-- RECEIVE_FRAME_HEADER (R103, R106): READY goes to RECEIVING, an unsolicited frame to DISCARD. -/
def execReceiveFrameHeader (header : Byte) (offeredOutside ctxr : Bool) (s : State) :
    Host.Outcome State Fault Refusal :=
  let out := s.unsolicited offeredOutside
  runIf
    (s.mayReceive offeredOutside && s.coder.send != .sending &&
      (!(s.maySend && ctxr) || !s.coder.lastReceive)) s
    { s with coder :=
        { s.coder with
          recv := if out then .discard else .receiving
          header
          rxDots := []
          rxCounts := Counts.zero
          bytesReceived := 1
          cutShort := false
          lastReceive := true } }

/-- A received frame has ended (R103, R110). -/
def CoderLink.frameEnd (c : CoderLink) (length : Nat) (next : RecvDir) : CoderLink :=
  { c with recv := next, bytesReceived := min 65535 length, received := c.received + 1 }

/-- LINE_RECEIVED (R103). -/
def execLineReceived (dots : List Byte) (s : State) : Host.Outcome State Fault Refusal :=
  runIf
    (s.coder.recv == .receiving && frameKind s.coder.header == 1 &&
      decide (dots.length = Config.bytesPerLine)) s
    { s with coder :=
        { s.coder.frameEnd 217 .storing with
          rxDots := dots
          rxCounts := countsOf (unpackDots dots)
          conceal := false } }

/-- BAD_LINE_RECEIVED (R104). -/
def execBadLineReceived (s : State) : Host.Outcome State Fault Refusal :=
  runIf (s.coder.recv == .receiving && frameKind s.coder.header == 2) s
    { s with coder := { s.coder.frameEnd 1 .storing with conceal := true } }

/-- MALFORMED_FRAME (R104): the frame's length is not that of its kind, or it has no kind. -/
def execMalformedFrame (length : Nat) (s : State) : Host.Outcome State Fault Refusal :=
  let s1 :=
    { s with coder :=
        { s.coder.frameEnd length .storing with conceal := true, frameError := true } }
  runIf
    (s.coder.recv == .receiving && decide (1 ≤ length) &&
      kindLength (frameKind s.coder.header) != some length) s
    (s1.raise 23 .frame (.word (min 65535 length)))

/-- PAGE_END_RECEIVED (R105). -/
def execPageEndReceived (s : State) : Host.Outcome State Fault Refusal :=
  let s1 := { s with coder := s.coder.frameEnd 1 .idle }
  runIf (s.coder.recv == .receiving && frameKind s.coder.header == 3) s
    (if s.chans.codeIn.inLines then s1.endEntry .codeIn else s1)

/-- UNSOLICITED_FRAME (R106). -/
def execUnsolicitedFrame (length : Nat) (s : State) : Host.Outcome State Fault Refusal :=
  let s1 := { s with coder := { s.coder.frameEnd length .idle with unsolicited := true } }
  runIf (s.coder.recv == .discard && !s.coder.cutShort && decide (1 ≤ length)) s
    (s1.raise 23 .unsolicited (.word (min 65535 length)))

/-- FRAME_CUT_SHORT_END (R108). -/
def execFrameCutShortEnd (length : Nat) (s : State) : Host.Outcome State Fault Refusal :=
  runIf (s.coder.recv == .discard && s.coder.cutShort && decide (1 ≤ length)) s
    { s with coder := { s.coder.frameEnd length .idle with cutShort := false } }

/-- The held line of Code-in is stored (01 R12, R103, R104). -/
def State.storeHeld (s : State) : State :=
  let s1 := (s.chans.codeIn.openPage.elim s fun ref => s.storeLine ref.slot).countMoved .codeIn
  let s2 := s1.setChan .codeIn { s1.chans.codeIn with held := none }
  { s2 with coder := { s2.coder with recv := .idle } }

/-- A good line is stored (R103). -/
def State.goodStored (s : State) : State :=
  let s1 := s.storeHeld
  let s2 := s1.setChan .codeIn { s1.chans.codeIn with badRun := 0 }
  { s2 with coder :=
      { s2.coder with
        copyDots := s2.coder.rxDots
        copyCounts := s2.coder.rxCounts
        burstReported := false } }

/-- The burst Code-in's slot write holds. -/
def State.codeInBurst (s : State) : Option Job :=
  match s.port.busy with
  | some (.codeInWrite a) => some (.codeInWrite a)
  | _ => none

/-- CODE_IN_SLOT_WRITE_END (R103). -/
def execCodeInSlotWriteEnd (s : State) : Host.Outcome State Fault Refusal :=
  match s.codeInBurst with
  | some j => runIf (!s.coder.conceal) s (s.endBurst j).releasePort.goodStored.limitIfFull
  | none => runIf false s s

/-- The burst limit test of line `n` (R107). -/
def State.burstTest (s : State) (n : Nat) : State :=
  if 0 < s.coder.burstLimit ∧ s.coder.burstLimit ≤ s.chans.codeIn.badRun ∧
      s.coder.burstReported = false then
    { s with coder := { s.coder with burstReported := true } }.raise 20 .burst (.word n)
  else s

/-- The page's count of concealed lines rises (01 R5, R104). -/
def State.countConcealed (s : State) : State :=
  match s.chans.codeIn.openPage with
  | some ref =>
    s.setSlot ref.slot
      { s.slot ref.slot with concealed := min 65535 ((s.slot ref.slot).concealed + 1) }
  | none => s

/-- A concealment copy is stored (R104, R107). -/
def State.concealmentStored (s : State) : State :=
  let n := s.chans.codeIn.held.getD 0
  let s1 := s.storeHeld.countConcealed
  let s2 := s1.setChan .codeIn
    { s1.chans.codeIn with badRun := min 65535 (s1.chans.codeIn.badRun + 1) }
  { s2 with coder := { s2.coder with badLines := true, conceal := false } }.burstTest n

/-- CONCEALMENT_STORED (R104). -/
def execConcealmentStored (s : State) : Host.Outcome State Fault Refusal :=
  match s.codeInBurst with
  | some j => runIf s.coder.conceal s (s.endBurst j).releasePort.concealmentStored.limitIfFull
  | none => runIf false s s

/-- The output CTXV (R98). -/
def State.ctxv (s : State) : Bool := s.coder.send == .sending

/-- The output CRXR: inactive while a send frame holds the lines (R98, R99, R102). -/
def State.crxr (s : State) : Bool :=
  (s.coder.recv == .ready && s.coder.send != .sending) || s.linesReceive

/-- The byte the part drives on CD0 to CD7: that of the frame at position bytes sent while CTXV is active,
and none at other times (R98, R99, R100). -/
def State.cdOut (s : State) : Option Byte :=
  if s.coder.send = .sending then s.coder.sendBuf.bind fun f => f.bytes[s.coder.bytesSent]? else none

end Sys2Proof.Machine
end

