-- ==== Sys2Proof/Machine/Dispatch.lean ====
section
/-! DEFINITION. What every command does: one arm for each row of the table, each one direct call of its
meaning. -/

namespace Sys2Proof.Machine

def exec (i : Instr) (s : State) : Host.Outcome State Fault Refusal :=
  match i with
  | .hardReset cause rom => Sys2Proof.Machine.execHardReset cause rom s
  | .probe cfgskip lines => Sys2Proof.Machine.execProbe cfgskip lines s
  | .probeWordReadEnd lines => Sys2Proof.Machine.execProbeWordReadEnd lines s
  | .imageReadEnd lines => Sys2Proof.Machine.execImageReadEnd lines s
  | .hostRelease => Sys2Proof.Machine.execHostRelease s
  | .commandWordWrite value => Sys2Proof.Machine.execCommandWordWrite value s
  | .reportWordWrite value => Sys2Proof.Machine.execReportWordWrite value s
  | .hostMemoryCycle hasel wordAddr write => Sys2Proof.Machine.execHostMemoryCycle hasel wordAddr write s
  | .hostWordServed => Sys2Proof.Machine.execHostWordServed s
  | .refreshDue => Sys2Proof.Machine.execRefreshDue s
  | .commandFetchEnd => Sys2Proof.Machine.execCommandFetchEnd s
  | .unknownCommand => Sys2Proof.Machine.execUnknownCommand s
  | .startChain => Sys2Proof.Machine.execStartChain s
  | .stopChannelPause => Sys2Proof.Machine.execStopChannelPause s
  | .stopChannelAbort => Sys2Proof.Machine.execStopChannelAbort s
  | .resumeChannel => Sys2Proof.Machine.execResumeChannel s
  | .motorMove => Sys2Proof.Machine.execMotorMove s
  | .motorStopRamp => Sys2Proof.Machine.execMotorStopRamp s
  | .motorStopImmediate => Sys2Proof.Machine.execMotorStopImmediate s
  | .motorResume => Sys2Proof.Machine.execMotorResume s
  | .motorRelease => Sys2Proof.Machine.execMotorRelease s
  | .loadTableScan => Sys2Proof.Machine.execLoadTableScan s
  | .loadTableStrobe => Sys2Proof.Machine.execLoadTableStrobe s
  | .loadTableRamp => Sys2Proof.Machine.execLoadTableRamp s
  | .loadTablePhase => Sys2Proof.Machine.execLoadTablePhase s
  | .headClass => Sys2Proof.Machine.execHeadClass s
  | .pageQuery => Sys2Proof.Machine.execPageQuery s
  | .pageQueryWriteEnd => Sys2Proof.Machine.execPageQueryWriteEnd s
  | .pageRelease => Sys2Proof.Machine.execPageRelease s
  | .sensorConfig => Sys2Proof.Machine.execSensorConfig s
  | .eventPriority => Sys2Proof.Machine.execEventPriority s
  | .eventThreshold => Sys2Proof.Machine.execEventThreshold s
  | .powerRun => Sys2Proof.Machine.execPowerRun s
  | .powerDoze => Sys2Proof.Machine.execPowerDoze s
  | .powerSleep => Sys2Proof.Machine.execPowerSleep s
  | .statusQuery => Sys2Proof.Machine.execStatusQuery s
  | .clearFlags => Sys2Proof.Machine.execClearFlags s
  | .engineReset => Sys2Proof.Machine.execEngineReset s
  | .configReload => Sys2Proof.Machine.execConfigReload s
  | .reloadReadEnd => Sys2Proof.Machine.execReloadReadEnd s
  | .configStore => Sys2Proof.Machine.execConfigStore s
  | .reportWriteEnd => Sys2Proof.Machine.execReportWriteEnd s
  | .consumerIndexWriteEnd => Sys2Proof.Machine.execConsumerIndexWriteEnd s
  | .entryFetchEnd => Sys2Proof.Machine.execEntryFetchEnd s
  | .openWrite ch => Sys2Proof.Machine.execOpenWrite ch s
  | .openRead ch => Sys2Proof.Machine.execOpenRead ch s
  | .lines ch => Sys2Proof.Machine.execLines ch s
  | .setProcessing ch => Sys2Proof.Machine.execSetProcessing ch s
  | .linkMotor ch => Sys2Proof.Machine.execLinkMotor ch s
  | .unlink ch => Sys2Proof.Machine.execUnlink ch s
  | .waitLine ch => Sys2Proof.Machine.execWaitLine ch s
  | .closeWriter ch => Sys2Proof.Machine.execCloseWriter ch s
  | .closeReader ch => Sys2Proof.Machine.execCloseReader ch s
  | .mark ch => Sys2Proof.Machine.execMark ch s
  | .jump ch => Sys2Proof.Machine.execJump ch s
  | .endEntry ch => Sys2Proof.Machine.execEndEntry ch s
  | .unknownEntry ch => Sys2Proof.Machine.execUnknownEntry ch s
  | .slotHanded => Sys2Proof.Machine.execSlotHanded s
  | .peerPageResolved ch => Sys2Proof.Machine.execPeerPageResolved ch s
  | .waitCompleteEnd ch => Sys2Proof.Machine.execWaitCompleteEnd ch s
  | .waitLinesEnd ch => Sys2Proof.Machine.execWaitLinesEnd ch s
  | .waitSpaceEnd => Sys2Proof.Machine.execWaitSpaceEnd s
  | .waitGateEnd ch => Sys2Proof.Machine.execWaitGateEnd ch s
  | .waitLineTimeout ch => Sys2Proof.Machine.execWaitLineTimeout ch s
  | .waitMotorEnd ch => Sys2Proof.Machine.execWaitMotorEnd ch s
  | .waitTableEnd => Sys2Proof.Machine.execWaitTableEnd s
  | .pauseBoundaryReached ch => Sys2Proof.Machine.execPauseBoundaryReached ch s
  | .abortBoundaryReached ch => Sys2Proof.Machine.execAbortBoundaryReached ch s
  | .lineReadEnd => Sys2Proof.Machine.execLineReadEnd s
  | .motorStep m => Sys2Proof.Machine.execMotorStep m s
  | .holdTimerExpiry m => Sys2Proof.Machine.execHoldTimerExpiry m s
  | .captureEnd samples => Sys2Proof.Machine.execCaptureEnd samples s
  | .scanWriteEnd => Sys2Proof.Machine.execScanWriteEnd s
  | .shiftLatchEnd => Sys2Proof.Machine.execShiftLatchEnd s
  | .strobePhaseEnd => Sys2Proof.Machine.execStrobePhaseEnd s
  | .scanTableBurstEnd => Sys2Proof.Machine.execScanTableBurstEnd s
  | .strobeLoadEnd => Sys2Proof.Machine.execStrobeLoadEnd s
  | .rampLoadEnd => Sys2Proof.Machine.execRampLoadEnd s
  | .phaseLoadEnd => Sys2Proof.Machine.execPhaseLoadEnd s
  | .frameSendStart crxv => Sys2Proof.Machine.execFrameSendStart crxv s
  | .frameTaken => Sys2Proof.Machine.execFrameTaken s
  | .lineReceived dots => Sys2Proof.Machine.execLineReceived dots s
  | .badLineReceived => Sys2Proof.Machine.execBadLineReceived s
  | .malformedFrame length => Sys2Proof.Machine.execMalformedFrame length s
  | .pageEndReceived => Sys2Proof.Machine.execPageEndReceived s
  | .unsolicitedFrame length => Sys2Proof.Machine.execUnsolicitedFrame length s
  | .codeInSlotWriteEnd => Sys2Proof.Machine.execCodeInSlotWriteEnd s
  | .concealmentStored => Sys2Proof.Machine.execConcealmentStored s
  | .crstnPulseEnd => Sys2Proof.Machine.execCrstnPulseEnd s
  | .debounceLevelChange g => Sys2Proof.Machine.execDebounceLevelChange g s
  | .drainTimerExpiry => Sys2Proof.Machine.execDrainTimerExpiry s
  | .dozeEntry drainTime => Sys2Proof.Machine.execDozeEntry drainTime s
  | .sleepEntry => Sys2Proof.Machine.execSleepEntry s
  | .sleepTimerExpiry => Sys2Proof.Machine.execSleepTimerExpiry s
  | .selfRefreshExitEnd => Sys2Proof.Machine.execSelfRefreshExitEnd s
  | .storeSourceBurstEnd => Sys2Proof.Machine.execStoreSourceBurstEnd s
  | .storeWordShifted => Sys2Proof.Machine.execStoreWordShifted s
  | .eepromReady => Sys2Proof.Machine.execEepromReady s
  | .eepromReadyTimeout => Sys2Proof.Machine.execEepromReadyTimeout s
  | .storeReadbackEnd word => Sys2Proof.Machine.execStoreReadbackEnd word s
  | .sensorSample lines => Sys2Proof.Machine.execSensorSample lines s
  | .receiveFrameHeader header offeredOutside ctxr => Sys2Proof.Machine.execReceiveFrameHeader header offeredOutside ctxr s
  | .frameCutShortEnd length => Sys2Proof.Machine.execFrameCutShortEnd length s
  | .refreshEnd => Sys2Proof.Machine.execRefreshEnd s
  | .producerIndexWriteEnd => Sys2Proof.Machine.execProducerIndexWriteEnd s
  | .pageQueryFirstWriteEnd => Sys2Proof.Machine.execPageQueryFirstWriteEnd s

end Sys2Proof.Machine
end

