-- ==== Sys2Proof/Safety.lean ====
section
/-! DEFINITION. The invariants of the block that the obligations speak of, and the parts of the state that
`settle`, what follows of itself at the end of a step, leaves as they are. -/

namespace Sys2Proof.Machine

/-- The memory is in its canonical form. -/
def MemoryOk (s : State) : Prop := Memory.wf s.mem = true

/-- The scan reservation never exceeds the free count (01 R13). -/
def ReservationOk (s : State) : Prop := s.page.r ≤ s.page.free.length

/-- The print queue has room for every copy in it and every copy promised (04 R77, R79). -/
def QueueOk (s : State) : Prop :=
  s.print.queue.length + s.print.readRequest.getD 0 ≤ Config.queueRoom

/-- Every index into a ring lies in the ring (10 R180, R182, R186). -/
def IndicesOk (s : State) : Prop :=
  0 < s.page.geo.cmdSize ∧ 0 < s.page.geo.repSize ∧
    s.recUnit.consumer < s.page.geo.cmdSize ∧ s.recUnit.producer < s.page.geo.repSize ∧
      s.host.producer < s.page.geo.cmdSize ∧ s.host.consumer < s.page.geo.repSize

/-- The free band list and the sixteen chains together hold the bands, each as often as it should be
(01 R4). -/
def heldBands (s : State) : List Nat := ids16.flatMap fun i => (s.slot i).chain

/-- Band conservation (01 R4). -/
def Conserved (s : State) : Prop :=
  (s.page.free ++ heldBands s).Perm (List.range s.page.geo.bands)

/-- An EMPTY slot holds no band (01 R5, R17). -/
def EmptySlotsOk (s : State) : Prop := ∀ i, (s.slot i).state = .empty → (s.slot i).chain = []

/-- The open page of a writer is FILLING, and it is its writer (01 R7, R16). -/
def WritersOk (s : State) : Prop :=
  ∀ ch, isWriter ch = true → ∀ ref, (s.chan ch).openPage = some ref →
    (s.slot ref.slot).state = .filling ∧ (s.slot ref.slot).writer = some ch

/-- No writer stands in a wait of OPEN READ (02 R29). -/
def NoWriterReads (s : State) : Prop :=
  ∀ ch, isWriter ch = true →
    (s.chan ch).state ≠ .waiting .page ∧ (s.chan ch).state ≠ .waiting .complete

/-- Band conservation with what it rests on from one step to the next. -/
def PagesOk (s : State) : Prop :=
  Conserved s ∧ EmptySlotsOk s ∧ WritersOk s ∧ NoWriterReads s

/-- Before READY every block is as reset left it, but for the start-up unit's reading, the EEPROM and a host
memory cycle held with HWAITN low (09 R165, R166, R174). -/
def AsleepBeforeReady (s : State) : Prop :=
  s.boot.stage ≠ .ready →
    s.boot.ready = .none ∧ s.boot.store = none ∧ s.port = DramPort.reset ∧
      s.page = PageMem.reset Geometry.default 4 ∧ s.recUnit = RecordUnit.reset ∧
      (∀ ch, s.chan ch = Chan.reset) ∧ s.scan = ScanPath.reset ∧ s.print = PrintPath.reset ∧
      s.coder = CoderLink.reset ∧ s.motors = MotorUnit.reset ∧ s.sensor = SensorUnit.reset ∧
      s.power = PowerUnit.reset ∧
      s.host = { HostPort.reset with cycle := s.host.cycle, data := s.host.data }

/-! ## The words the obligations are written in -/

/-- The command `bs`, of kind `k`, is under execution, with no work of it under way (10 R182). -/
def InHand (s : State) (k : Nat) (bs : List Byte) : Prop :=
  s.recUnit.state = .executing ∧ s.recUnit.work = none ∧ s.recUnit.command = some bs ∧ cmdKind bs = k

/-- The entry `e` is current on a channel and has not begun; the channel is RUNNING (or is Code-out with a frame
on offer, or come out of WAIT_REPORT under a request), has no notice out, and no pause request stops the entry:
one lets a LINES entry begin (log 20) and an entry fault (02 R29, R33, R50, R53). -/
def AtEntry (s : State) (ch : Channel) (e : Entry) : Prop :=
  (∃ a, (s.chan ch).current = some { addr := a, entry := e }) ∧ (s.chan ch).phase = .fresh ∧
    ((s.chan ch).state = .running ∨ (s.chan ch).state = .waiting .device ∨
        (s.chan ch).state = .waiting .report) ∧
      (s.chan ch).notices = [] ∧
        ((s.chan ch).pauseReq = none ∨ e.isLines = true ∨ (s.entryFault ch e).isSome = true)

/-- The entry `e` is current on a channel that waits for `w` and is not at the boundary of a pause request
(02 R29, R53). -/
def AtWait (s : State) (ch : Channel) (w : Wait) (e : Entry) : Prop :=
  (∃ a, (s.chan ch).current = some { addr := a, entry := e }) ∧ (s.chan ch).state = .waiting w ∧
    s.boundaryDue ch = false

/-- In `e` the band-pool condition of `s` has been compared with the F − r of `e`, with the event of a change; nothing
else has been raised (01 R19). -/
def PoolTested (s e : State) : Prop :=
  let u := e.page.free.length - e.page.r
  (s.page.low = true → s.page.lowMark ≤ u →
    e.page.low = false ∧ e.sensor = (s.raise 19 .ok (.word u)).sensor) ∧
  (s.page.low = false → u < s.page.lowMark →
    e.page.low = true ∧ e.sensor = (s.raise 19 .low (.word u)).sensor) ∧
  (s.page.low = decide (u < s.page.lowMark) → e.page.low = s.page.low ∧ e.sensor = s.sensor)

/-- In `e` the scan reservation of `s` has ended: r is 0, the band-pool condition is set anew, with its event
when it changes (01 R13, R19), and page memory is otherwise as it was. -/
def ReservationEnded (s e : State) : Prop :=
  e.page = { s.page with r := 0, low := decide (s.page.free.length < s.page.lowMark) } ∧
  (s.page.low = decide (s.page.free.length < s.page.lowMark) → e.sensor = s.sensor) ∧
  (s.page.low = true → s.page.lowMark ≤ s.page.free.length →
    e.sensor = (s.raise 19 .ok (.word s.page.free.length)).sensor) ∧
  (s.page.low = false → s.page.free.length < s.page.lowMark →
    e.sensor = (s.raise 19 .low (.word s.page.free.length)).sensor)

/-- `e` is `s` after the abort steps of a channel with their final notice `n` (02 R51): a writer's page is
completed as truncated (01 R16), a reader leaves its page without its release option (01 R17), the link ends, a moving
motor keeping the stop path of its committed index (06 R123) and the scan reservation with it (01 R13, R19), the
path is cleared (03 R76, 04 R94, 05 R101, R108), the context is cleared, and the notice is called for, or on Print
kept back while a burn runs on. -/
def AbortStepsDone (s : State) (ch : Channel) (n : Notice) (e : State) : Prop :=
  ((e.chan ch).notices = (s.chan ch).notices ++ [n] ∧ (ch = .print → e.print.queue = []) ∨
    (ch = .print ∧ e.print.clearing = some n ∧ e.print.queue ≠ [] ∧
      (e.chan ch).notices = (s.chan ch).notices)) ∧
  e.chan ch = { s.chan ch with
    state := .running
    pauseReq := none
    current := none
    next := none
    fetch := none
    phase := .fresh
    remaining := 0
    edge := none
    openPage := none
    resolved := none
    reading := false
    releaseOnClose := false
    held := none
    limitDue := false
    linkCut := false
    waitTimer := 0
    notices := (e.chan ch).notices
    chainFault := (e.chan ch).chainFault } ∧
  (∀ d, d ≠ ch → e.chan d = s.chan d) ∧
  (∀ m, motorFor ch = some m →
    let x := s.motor m
    (x.link = none → e.motor m = x) ∧
    (x.link.isSome = true → x.moving = false → e.motor m = { x with link := none, budget := none }) ∧
    (∀ j, x.link.isSome = true → x.moving = true → x.committed = some j →
      e.motor m = { x with
        link := none
        heldStep := false
        budget := some (x.budget.elim (j + 1) fun b => min (j + 1) b) }) ∧
    (e.motor m).link = none) ∧
  (ch = .scan → (s.motor .m0).link.isSome = true →
    e.page.r = 0 ∧ e.page.low = decide (e.page.free.length < s.page.lowMark) ∧
      ((s.chan .scan).openPage = none → PoolTested s e)) ∧
  (ch ≠ .scan ∨ (s.motor .m0).link = none → e.page.r = s.page.r) ∧
  (e.page.lowMark = s.page.lowMark ∧ e.page.geo = s.page.geo ∧ e.page.taken = s.page.taken) ∧
  (∀ m, motorFor ch ≠ some m → e.motor m = s.motor m) ∧
  ch ∉ e.page.slotWait ∧
  (∀ ref, isWriter ch = true → (s.chan ch).openPage = some ref →
    e.slot ref.slot = (s.completePage ref.slot true).slot ref.slot ∧
    ((s.slot ref.slot).release = false ∨ (s.slot ref.slot).readers ≠ 0 →
      (e.slot ref.slot).state = .complete ∧ (e.slot ref.slot).truncated = true ∧
        (e.slot ref.slot).gen = (s.slot ref.slot).gen ∧
        (e.slot ref.slot).stored = (s.slot ref.slot).stored ∧
        (e.slot ref.slot).assigned = (s.slot ref.slot).stored)) ∧
  (∀ ref, isWriter ch = false → (s.chan ch).openPage = some ref →
    e.slot ref.slot = (s.leave ref.slot ch false).slot ref.slot) ∧
  (∀ i, (∀ ref, (s.chan ch).openPage = some ref → ref.slot ≠ i) → e.slot i = s.slot i) ∧
  (ch = .scan → e.scan = { s.scan with
    busy := false, bufA := LineBuf.reset, bufB := LineBuf.reset, captureTicks := 0 }) ∧
  (ch ≠ .scan → e.scan = s.scan) ∧
  (ch = .print →
    e.print.queue = ((s.print.queue.take 1).filter fun c => !c.ended) ∧
      e.print.readRequest = none ∧ (e.print.queue = [] → e.print.head = .idle) ∧
      (e.print.queue ≠ [] → e.print.head = s.print.head)) ∧
  (ch ≠ .print → e.print = s.print) ∧
  (ch = .codeOut →
    (s.coder.send = .sending → e.coder = s.coder) ∧
    (s.coder.send ≠ .sending → e.coder.send = .idle ∧ e.coder.sendBuf = none)) ∧
  (ch = .codeIn →
    (s.coder.recv = .receiving → e.coder = { s.coder with recv := .discard, cutShort := true }) ∧
    (s.coder.recv = .discard → e.coder = s.coder) ∧
    (s.coder.recv ≠ .receiving → s.coder.recv ≠ .discard → e.coder.recv = .idle)) ∧
  ((ch = .scan ∨ ch = .print) → e.coder = s.coder) ∧
  (∀ j, s.port.busy = some j ∨ s.port.suspended = some j → j.lineWork = some ch →
    (ch = .codeIn → s.coder.recv = .storing) →
    e.port.busy ≠ some j ∧ e.port.suspended ≠ some j) ∧
  e.port.rotation = s.port.rotation ∧ e.port.mode = s.port.mode ∧
  e.recUnit = s.recUnit ∧ e.host = s.host ∧ e.eeprom = s.eeprom ∧ e.power = s.power ∧
  e.boot = s.boot ∧ e.motors.ramps = s.motors.ramps ∧ e.motors.steps = s.motors.steps ∧
  e.motors.halts = s.motors.halts

/-- The gateway of a line under a configuration (09 R170, R172). -/
def gateUnder (c : Sections) (i : Fin 16) : GateCfg :=
  (c.gateways.getD []).getD i.val GateCfg.default

/-- The line is active at its first sample under a configuration (07 R138). -/
def activeUnder (c : Sections) (lines : BitVec 16) (i : Fin 16) : Bool :=
  (gateUnder c i).mode.active (lines.getLsbD i.val)

/-- The priority of a source under a configuration (09 R170, R172, 07 R145). -/
def priorityUnder (c : Sections) (i : Fin 24) : Nat :=
  (c.priorities.getD ((List.range 24).map defaultPriority)).getD i.val 0

/-- Hold time and auto-release of a motor under a configuration (09 R170, R172). -/
def holdUnder (c : Sections) (m : MotorId) : Nat × Bool :=
  let k := c.constants.getD Constants.default
  match m with
  | .m0 => k.hold0
  | .m1 => k.hold1
  | .m2 => k.hold2

/-- `e` is `s` brought from LOAD to READY under the configuration `c`, with the start-up unit at `b`, the first
samples of the sensor lines being `lines`: page memory at its power-on values under the geometry (09 R171), the
rest of the configuration (R172), the first samples with what they make occur (07 R138), and the BOOT report in
writing (R173); nothing else is changed. -/
def BroughtUp (c : Sections) (lines : BitVec 16) (b : BootUnit) (s e : State) : Prop :=
  let k := c.constants.getD Constants.default
  let geo := c.geometry.getD Geometry.default
  e.boot = { b with stage := .ready, ready := .report, pendingConfig := none } ∧
  (e.page.geo = geo ∧ e.page.lowMark = k.lowMark ∧ e.page.free = List.range geo.bands ∧
    e.page.used = List.replicate geo.bands 0 ∧ (∀ i, e.slot i = Page.reset) ∧ e.page.r = 0 ∧
    e.page.low = false ∧ e.page.staleRef = false ∧ e.page.taken = 0 ∧ e.page.returned = 0 ∧
    e.page.slotWait = []) ∧
  e.recUnit = { s.recUnit with writing := some { who := .boot, bytes := bootBytes e.boot geo } } ∧
  e.scan = { s.scan with tLine := k.tLine } ∧
  e.print =
    { s.print with dmax := k.dmax, strobe := c.strobe.getD (List.replicate 8 500) } ∧
  (∀ n, e.ramp n = (c.ramp n).getD [5000, 5000]) ∧
  (∀ m, (e.motor m).holdTime = (holdUnder c m).1 ∧ (e.motor m).autoRelease = (holdUnder c m).2 ∧
    (e.motor m).phaseTable = ((c.phase m).getD PhaseCfg.default).patterns ∧
    (e.motor m).phaseLen = ((c.phase m).getD PhaseCfg.default).length) ∧
  (∀ i, e.gate i =
    { cfg := gateUnder c i, high := lines.getLsbD i.val, run := 0,
      armed := (s.gate i).armed || (gateUnder c i).mode.isLevel }) ∧
  (∀ i, (e.source i).priority = priorityUnder c i) ∧
  (e.sensor.sampling = true ∧ e.sensor.threshold = s.sensor.threshold ∧
    e.sensor.posted = s.sensor.posted) ∧
  (∀ i, activeUnder c lines i = true → priorityUnder c (lineSource i) ≠ 0 →
    (s.source (lineSource i)).entry = none →
    (e.source (lineSource i)).entry =
      some { kind := .active, data := .level (lines.getLsbD i.val), repeated := false }) ∧
  (∀ i, activeUnder c lines i = false → priorityUnder c (lineSource i) ≠ 0 →
    (e.source (lineSource i)).entry = (s.source (lineSource i)).entry) ∧
  ((∀ m, (s.motor m).moving = false) →
    (∀ m, e.motor m =
      { s.motor m with
        holdTime := (e.motor m).holdTime
        autoRelease := (e.motor m).autoRelease
        phaseTable := (e.motor m).phaseTable
        phaseLen := (e.motor m).phaseLen
        halted := (e.motor m).halted }) ∧
    (∀ m,
      ((∃ i, activeUnder c lines i = true ∧
          (gateUnder c i).haltSet.getLsbD (motorNumber m) = true) →
        (e.motor m).halted.isSome = true) ∧
      ((∀ i, activeUnder c lines i = true →
          (gateUnder c i).haltSet.getLsbD (motorNumber m) = false) →
        (e.motor m).halted = (s.motor m).halted)) ∧
    e.motors.steps = s.motors.steps ∧ e.motors.halts = s.motors.halts ∧
    e.sensor.raises =
      s.sensor.raises +
        BitVec.ofNat 16 ((ids16.filter fun i => activeUnder c lines i).length) ∧
    ∀ i, 16 ≤ i.val → priorityUnder c i ≠ 0 → (e.source i).entry = (s.source i).entry) ∧
  ((∀ ch, (s.chan ch).state = .idle) → e.chans = s.chans) ∧
  e.power.drainLimit = k.drainLimit ∧
  (s.power.state ≠ .sleep →
    e.power = { s.power with drainLimit := k.drainLimit } ∧
      e.port = { s.port with mode := .running } ∧ e.sensor.groups = s.sensor.groups) ∧
  e = { s with
    boot := e.boot, page := e.page, recUnit := e.recUnit, scan := e.scan, print := e.print
    motors := e.motors, sensor := e.sensor, chans := e.chans, power := e.power, port := e.port }

/-- The row that takes a LOAD TABLE for a table (03 R73, 04 R92, 06 R116, R117). -/
def Table.row : Table → Instr
  | .shading _ => .loadTableScan
  | .tone _ => .loadTableScan
  | .strobe => .loadTableStrobe
  | .ramp _ => .loadTableRamp
  | .phase _ => .loadTablePhase

/-! ## What `settle` keeps -/

/-- What `settle` keeps of a motor. -/
structure KeptMotor where
  k : Option Nat
  group : Nat
  move : Option HostMove
  remaining : Nat
  position : Int
  phase : Nat
  halted : Option Halt
  timerRelease : Bool
  holdTime : Nat
  autoRelease : Bool
  rampPath : Option HaltCause
  phaseTable : List (BitVec 4)
  phaseLen : Nat

/-- What `settle` keeps of a channel. -/
structure KeptChan where
  position : Nat
  sel : Selection
  scale : Nat
  scaleAcc : Nat
  badRun : Nat
  moved : Word
  posted : Word

/-- The parts of the state that only a command itself changes, never `settle`. -/
structure Kept where
  boot : BootUnit
  eeprom : List Word
  pending : List Instr
  power : PowerUnit
  geo : Geometry
  lowMark : Nat
  staleRef : Bool
  consumer : Nat
  producer : Nat
  command : Option (List Byte)
  work : Option Work
  completion : Option Completion
  badKind : Bool
  badAddress : Bool
  stall : Bool
  completed : Word
  reports : Word
  hostProducer : Nat
  hostConsumer : Nat
  attention : Word
  threshold : Nat
  events : Word
  sampling : Bool
  groups : BitVec 4
  gates : Vector (GateCfg × Bool × Nat) 16
  priorities : Vector Nat 24
  tLine : Nat
  starts : Nat
  shadingA : List (Nat × Nat)
  shadingB : List (Nat × Nat)
  toneA : List Nat
  toneB : List Nat
  strobe : List Nat
  headClass : Nat
  dmax : Nat
  latches : Nat
  m0 : KeptMotor
  m1 : KeptMotor
  m2 : KeptMotor
  ramps : Vector (List Nat) 4
  haltedByAction : Bool
  steps : Word
  halts : Word
  header : Byte
  rxDots : List Byte
  rxCounts : Counts
  bytesReceived : Nat
  copyDots : List Byte
  copyCounts : Counts
  burstReported : Bool
  lastReceive : Bool
  unsolicited : Bool
  frameError : Bool
  badLines : Bool
  sent : Word
  received : Word
  resetLow : Bool
  scanChan : KeptChan
  printChan : KeptChan
  codeOutChan : KeptChan
  codeInChan : KeptChan

/-- The kept part of a motor. -/
def Motor.kept (x : Motor) : KeptMotor :=
  { k := x.k, group := x.group, move := x.move, remaining := x.remaining, position := x.position,
    phase := x.phase, halted := x.halted, timerRelease := x.timerRelease, holdTime := x.holdTime,
    autoRelease := x.autoRelease,
    rampPath := x.rampPath, phaseTable := x.phaseTable, phaseLen := x.phaseLen }

/-- The kept part of a channel. -/
def Chan.kept (c : Chan) : KeptChan :=
  { position := c.position, sel := c.sel, scale := c.scale, scaleAcc := c.scaleAcc,
    badRun := c.badRun, moved := c.moved, posted := c.posted }

/-- The kept part of the state. -/
def State.kept (s : State) : Kept :=
  { boot := s.boot, eeprom := s.eeprom, pending := s.pending, power := s.power, geo := s.page.geo,
    lowMark := s.page.lowMark, staleRef := s.page.staleRef, consumer := s.recUnit.consumer,
    producer := s.recUnit.producer, command := s.recUnit.command, work := s.recUnit.work,
    completion := s.recUnit.completion, badKind := s.recUnit.badKind,
    badAddress := s.recUnit.badAddress, stall := s.recUnit.stall, completed := s.recUnit.completed,
    reports := s.recUnit.posted, hostProducer := s.host.producer, hostConsumer := s.host.consumer,
    attention := s.host.attention, threshold := s.sensor.threshold, events := s.sensor.posted,
    sampling := s.sensor.sampling, groups := s.sensor.groups,
    gates := s.sensor.gates.map fun g => (g.cfg, g.high, g.run),
    priorities := s.sensor.sources.map fun x => x.priority,
    tLine := s.scan.tLine, starts := s.scan.starts, shadingA := s.scan.shadingA, shadingB := s.scan.shadingB,
    toneA := s.scan.toneA, toneB := s.scan.toneB, strobe := s.print.strobe,
    headClass := s.print.headClass, dmax := s.print.dmax,
    latches := s.print.latches, m0 := s.motors.m0.kept,
    m1 := s.motors.m1.kept, m2 := s.motors.m2.kept, ramps := s.motors.ramps,
    haltedByAction := s.motors.haltedByAction, steps := s.motors.steps, halts := s.motors.halts,
    header := s.coder.header, rxDots := s.coder.rxDots, rxCounts := s.coder.rxCounts,
    bytesReceived := s.coder.bytesReceived, copyDots := s.coder.copyDots,
    copyCounts := s.coder.copyCounts, burstReported := s.coder.burstReported,
    lastReceive := s.coder.lastReceive, unsolicited := s.coder.unsolicited,
    frameError := s.coder.frameError, badLines := s.coder.badLines, sent := s.coder.sent,
    received := s.coder.received, resetLow := s.coder.resetLow, scanChan := s.chans.scan.kept,
    printChan := s.chans.print.kept, codeOutChan := s.chans.codeOut.kept,
    codeInChan := s.chans.codeIn.kept }

/-- What every part of `settle` but the last two, the answer to a host cycle and the arbiter, leaves as it
is. -/
structure Held where
  kept : Kept
  host : HostPort
  mode : DramMode

/-- The held part of the state. -/
def State.held (s : State) : Held := { kept := s.kept, host := s.host, mode := s.port.mode }

end Sys2Proof.Machine
end

