-- ==== Sys2Proof/Certificates/Slice0/Obligations.lean ====
section
/-! DEFINITION. The statements for the provers. Almost every step of the block is its own effect followed by
`State.settle`, what the block does of itself within the same step (95_what_each_step_holds.md): a statement
names the effect and says that the step answers it, settled. -/

open Sys2Proof Sys2Proof.Machine

/-! ## The step, the queue and the invariants -/

/-- A step takes the command at the front of the queue and executes it on the state with the queue's rest.
That an empty queue idles is the model's choice (log 3). -/
def Obligations.StepTakesTheFrontCommand : Prop :=
  (∀ (s : State) (c : Instr) (rest : List Instr),
    s.pending = c :: rest → step s = exec c { s with pending := rest }) ∧
  ∀ s : State, s.pending = [] → step s = .next s

/-- No command faults or is refused, and none touches the queue it was taken from. The book describes what
each command does when its condition holds; that one whose condition does not hold answers next as well, and
does nothing, is the model's choice (log 1). -/
def Obligations.EveryCommandAnswersNext : Prop :=
  ∀ (c : Instr) (s : State), ∃ t, exec c s = .next t ∧ t.pending = s.pending

/-- Every step keeps the memory in its canonical form. -/
def Obligations.EveryStepKeepsMemoryCanonical : Prop :=
  ∀ s t : State, MemoryOk s → step s = .next t → MemoryOk t

/-- Every step keeps the reservation bound (01 R13): the scan reservation never exceeds the free count. -/
def Obligations.EveryStepKeepsReservationBound : Prop :=
  ∀ s t : State, ReservationOk s → step s = .next t → ReservationOk t

/-- Every step keeps the print queue, with the copies promised to a read in progress, within its 16 entries
(04 R77, R79). -/
def Obligations.EveryStepKeepsPrintQueueRoom : Prop :=
  ∀ s t : State, QueueOk s → step s = .next t → QueueOk t

/-- Before READY every block stays as reset left it, whatever is commanded, but for the start-up unit's
reading, the EEPROM and a held host cycle (09 R174); and so the ring indices stay inside their rings through
every command, those that put a geometry in force included (10 R180, R182, R186). -/
def Obligations.RingIndicesStayInTheRings : Prop :=
  (∀ (c : Instr) (s t : State), AsleepBeforeReady s → exec c s = .next t → AsleepBeforeReady t) ∧
  ∀ (c : Instr) (s t : State),
    AsleepBeforeReady s → IndicesOk s → exec c s = .next t → IndicesOk t

/-- Band conservation (01 R4) through every operation that moves a band, in every state. -/
def Obligations.BandMovesConserveBands : Prop :=
  ∀ (s : State) (i : Fin 16) (ch : Channel) (scan cut release : Bool), Conserved s →
    Conserved (s.takeBand i scan) ∧ Conserved (s.freeBehind i) ∧ Conserved (s.releaseTest i) ∧
      Conserved (s.closePage i cut) ∧ Conserved (s.completePage i cut) ∧
        Conserved (s.leave i ch release) ∧ Conserved (s.assignLine i scan).1

/-- The report-slot arbiter (10 R186, R187): no slot while a report is in writing or the ring is full; else
the completion first, then the channel of lowest number with a notice, then the event unit (07 R148, R149),
whose chosen entry leaves the pending set, is written with its source's priority, and disarms a level gateway
when its kind is ACTIVE. The event unit asks from READY on in RUN, DRAIN and DOZE, after a wake once the requests
that waited through self-refresh have been served (08 R163); that an event may so be written before the index
words of READY is log 37. The event chosen (07 R147, R148): pending, its priority
strictly above the threshold, of the highest priority and among equals of the lowest source number; none when
none is reportable. -/
def Obligations.ReportSlotsGoInOrder : Prop :=
  (∀ s : State,
    (s.recUnit.writing.isSome = true → s.grantSlot = s) ∧
    ((s.recUnit.producer + 1) % s.page.geo.repSize = s.host.consumer → s.grantSlot = s) ∧
    (s.recUnit.writing = none → (s.recUnit.producer + 1) % s.page.geo.repSize ≠ s.host.consumer →
      (∀ c, s.recUnit.state = .completing → s.recUnit.completion = some c →
        s.grantSlot =
          { s with recUnit := { s.recUnit with writing := some ⟨.completion, c.bytes⟩ } }) ∧
      (s.recUnit.state ≠ .completing ∨ s.recUnit.completion = none →
        (∀ ch n rest, (s.chan ch).notices = n :: rest →
          (∀ d, chanNumber d < chanNumber ch → (s.chan d).notices = []) →
          s.grantSlot =
            { s with recUnit :=
                { s.recUnit with writing := some ⟨.notice ch n.final, n.bytes ch (s.chan ch)⟩ } }) ∧
        ((∀ ch, (s.chan ch).notices = []) →
          (¬(s.boot.stage = .ready ∧ s.port.backlog = false ∧
              (s.power.state = .run ∨ s.power.state = .drain ∨ s.power.state = .doze)) →
            s.grantSlot = s) ∧
          (s.chosenSource = none → s.grantSlot = s) ∧
          (∀ i e, s.boot.stage = .ready → s.port.backlog = false →
            (s.power.state = .run ∨ s.power.state = .drain ∨ s.power.state = .doze) →
            s.chosenSource = some i → (s.source i).entry = some e →
            s.grantSlot.recUnit =
                { s.recUnit with
                  writing := some ⟨.event, eventBytes i (s.source i).priority e⟩ } ∧
              s.grantSlot.source i = { s.source i with entry := none } ∧
              (∀ j, j ≠ i → s.grantSlot.source j = s.source j) ∧
              (∀ g : Fin 16, s.grantSlot.gate g =
                if g.val = i.val ∧ e.kind = .active ∧
                    ((s.gate g).cfg.mode = .levelHigh ∨ (s.gate g).cfg.mode = .levelLow) then
                  { s.gate g with armed := false }
                else s.gate g) ∧
              s.grantSlot =
                { s with
                  recUnit := s.grantSlot.recUnit
                  sensor := { s.sensor with
                    sources := s.grantSlot.sensor.sources
                    gates := s.grantSlot.sensor.gates } }))))) ∧
  ∀ s : State,
    (∀ i, s.chosenSource = some i →
      (s.source i).entry.isSome = true ∧ s.sensor.threshold < (s.source i).priority ∧
        ∀ j, (s.source j).entry.isSome = true → s.sensor.threshold < (s.source j).priority →
          (s.source j).priority ≤ (s.source i).priority ∧
            ((s.source j).priority = (s.source i).priority → i ≤ j)) ∧
    (s.chosenSource = none →
      ∀ j, (s.source j).entry.isSome = true → (s.source j).priority ≤ s.sensor.threshold)

/-- Every step keeps the bands of page memory conserved (01 R4): with every EMPTY slot without a chain, every
writer's open page FILLING under that writer, and no writer in a wait of OPEN READ, the free list and the
sixteen chains together stay a rearrangement of the bands, and the same holds after the step, one that puts a
geometry in force included: before READY every block is as reset left it, which every step keeps
(`Obligations.RingIndicesStayInTheRings`). -/
def Obligations.EveryStepConservesBands : Prop :=
  ∀ (c : Instr) (s t : State),
    AsleepBeforeReady s → PagesOk s → exec c s = .next t → PagesOk t

/-- The table of 07 R146: what a raise makes of a source's pending entry, and the raises counter. -/
def Obligations.RaiseMakesOrMergesAnEntry : Prop :=
  ∀ (s : State) (i : Fin 24) (kind : EventKind) (data : EventData),
    (s.raise i kind data).sensor.raises = s.sensor.raises + 1 ∧
    (∀ j, j ≠ i → (s.raise i kind data).source j = s.source j) ∧
    ((s.raise i kind data).source i).priority = (s.source i).priority ∧
    s.raise i kind data = { s with sensor := (s.raise i kind data).sensor } ∧
    ((s.source i).priority = 0 →
      ((s.raise i kind data).source i).entry = (s.source i).entry ∧
        (s.raise i kind data).sensor.merged = s.sensor.merged) ∧
    ((s.source i).priority ≠ 0 → (s.source i).entry = none →
      ((s.raise i kind data).source i).entry = some { kind, data, repeated := false } ∧
        (s.raise i kind data).sensor.merged = s.sensor.merged) ∧
    ((s.source i).priority ≠ 0 → (s.source i).entry ≠ none →
      ((s.raise i kind data).source i).entry = some { kind, data, repeated := true } ∧
        (s.raise i kind data).sensor.merged = true)

/-- The governor's choice (06 R126): at a step from index k the largest of k + 1, k and k − 1 that the
constraints allow, k − 1 when they allow none, rest only from index 0; from rest index 0 or rest. What the
constraints allow (06 R127): the stop budget, a host move's top index and remaining steps, HALTED and a ramp load
at rest; with Scan's link its lines λ(j) against band space, window and page, and k_line (R129, 02 R31); with
Print's link the steps owed and the caps of the copies whose burn has not ended (R132). The decision from rest
(06 R125, R112): index 0 makes the motor MOVING, due I[0] ticks later; the reservation follows either decision
(R130). -/
def Obligations.GovernorTakesTheLargestCandidate : Prop :=
  (∀ (s : State) (m : MotorId) (k : Nat),
    (k + 1 < (s.motor m).run.length → s.allows m (k + 1) = true →
      s.govern m (some k) = some (k + 1)) ∧
    (¬(k + 1 < (s.motor m).run.length ∧ s.allows m (k + 1) = true) → s.allows m k = true →
      s.govern m (some k) = some k) ∧
    (¬(k + 1 < (s.motor m).run.length ∧ s.allows m (k + 1) = true) → s.allows m k = false →
      s.govern m (some k) = if k = 0 then none else some (k - 1)) ∧
    s.govern m none = (if s.allows m 0 = true then some 0 else none)) ∧
  ((∀ (s : State) (m : MotorId) (j : Nat),
    let x := s.motor m
    let host := (∀ b, x.budget = some b → j + 1 ≤ b) ∧
      ∀ v, x.move = some v → j ≤ v.top ∧ j + 1 ≤ x.remaining
    (x.link = none →
      (s.allows m j = true ↔ host ∧
        (x.moving = true ∨
          x.halted = none ∧ ∃ v, x.move = some v ∧
            ∀ l : Load, s.recUnit.work = some (.load l) → l.table ≠ .ramp v.ramp))) ∧
    ∀ l : Link, x.link = some l →
      let atRest := x.halted = none ∧
        ∀ d : Load, s.recUnit.work = some (.load d) →
          d.table ≠ .ramp (x.move.elim l.ramp fun v => v.ramp)
      (m = .m2 → s.allows m j = false) ∧
      (m = .m0 →
        let c := s.chan .scan
        let n := (x.group + j + 1) / l.spl
        (s.allows m j = true ↔ host ∧ j ≤ l.top ∧ j ≤ l.kLine ∧ n ≤ c.windowCount ∧
          (c.openPage = none → n = 0) ∧
          (∀ p, c.openPage = some p →
            n ≤ s.slotsLeft p.slot + 64 * s.page.free.length ∧
              n ≤ (s.slot p.slot).limit - (s.slot p.slot).assigned) ∧
          (x.moving = true ∨ atRest ∧ c.state = .running ∧ c.inLines = true ∧
            c.openPage.isSome = true ∧ c.pauseReq = none))) ∧
      (m = .m1 →
        (s.allows m j = true ↔ host ∧ j ≤ l.top ∧
          j + 1 ≤ l.spl * s.print.queue.length - x.group ∧
          (∀ (i : Nat) (c : Copy), s.print.queue[i]? = some c → c.ended = false →
            let d := if i = 0 then 1 else (l.spl - x.group) + (i - 1) * l.spl + 1
            (∀ k, c.cap = some k → j ≤ k + d - 1) ∧ (c.cap = none → j + 1 ≤ d - 1)) ∧
          (x.moving = true ∨ atRest)))) ∧
  (∀ c : Chan,
    (c.inLines = true ↔ c.phase = .begun ∧
      ∃ a n e b, c.current = some { addr := a, entry := .lines n e b }) ∧
    (c.inLines = false → c.windowCount = 0) ∧
    (c.inLines = true → c.edge.isSome = true → c.windowCount = c.remaining) ∧
    (c.inLines = true → c.edge = none →
      (∀ a n e b, c.next = some { addr := a, entry := .lines n e b } →
        c.windowCount = c.remaining + n) ∧
      ((∀ a n e b, c.next ≠ some { addr := a, entry := .lines n e b }) →
        c.windowCount = c.remaining))) ∧
  ∀ (s : State) (i : Fin 16),
    ((s.slot i).chain = [] → s.slotsLeft i = 0) ∧
    ∀ pre b, (s.slot i).chain = pre ++ [b] → s.slotsLeft i = 64 - s.bandUsed b) ∧
  ∀ (s : State) (m : MotorId),
    let x := s.motor m
    let run := match x.move, x.link with
      | some v, _ => s.ramp v.ramp
      | none, some l => s.ramp l.ramp
      | none, none => []
    (x.moving = true → s.restDecision m = s) ∧
    (x.moving = false → s.allows m 0 = false → s.restDecision m = s.afterDecision m none) ∧
    (x.moving = false → s.allows m 0 = true →
      s.restDecision m = (s.leaveRest m).afterDecision m (some 0)) ∧
    s.leaveRest m = s.setMotor m { x with
      state := .moving
      committed := some 0
      due := some (run.getD 0 0)
      run
      dark := decide (x.state = .off)
      holdTimer := none }

/-! ## The arithmetic of the scan and print paths -/

/-- 03 R67, with its figures. -/
def Obligations.ShadingCorrectsASample : Prop :=
  (∀ v b g : Nat, v ≤ b → shade v (b, g) = 0) ∧
  (∀ v b g : Nat, b < v → shade v (b, g) = min 255 (((v - b) * g + 128) / 256)) ∧
  (∀ v : Nat, v ≤ 255 → shade v (0, 256) = v) ∧
  (∀ (s : State) (x : Selection) (samples : List Byte) (i : Nat) (v : Byte) (e : Nat × Nat) (t : Nat),
    samples[i]? = some v →
    (if x.shadingB then s.scan.shadingB else s.scan.shadingA)[i]? = some e →
    (if x.toneB then s.scan.toneB else s.scan.toneA)[shade v.toNat e]? = some t →
    (corrected (if x.shadingB then s.scan.shadingB else s.scan.shadingA)
      (if x.toneB then s.scan.toneB else s.scan.toneA) samples)[i]? = some t) ∧
  shade 200 (12, 384) = 255 ∧ shade 100 (12, 384) = 132 ∧ shade 12 (12, 384) = 0 ∧
    shade 10 (12, 384) = 0

/-- 03 R69, with its figures. -/
def Obligations.ThresholdDecidesADot : Prop :=
  (∀ (s : State) (x : Selection) (samples : List Byte), x.diffuse = false →
    s.convert x samples = thresholdDots x.threshold
      (corrected (if x.shadingB then s.scan.shadingB else s.scan.shadingA)
        (if x.toneB then s.scan.toneB else s.scan.toneA) samples)) ∧
  (∀ (th : Nat) (ts : List Nat) (i t : Nat), ts[i]? = some t →
    (thresholdDots th ts)[i]? = some (decide (t < th))) ∧
  (∀ ts : List Nat, thresholdDots 0 ts = ts.map fun _ => false) ∧
  (∀ ts : List Nat, (∀ t ∈ ts, t ≤ 255) → thresholdDots 255 ts = ts.map fun t => decide (t ≠ 255)) ∧
  thresholdDots 128 [255, 132, 0] = [false, false, true] ∧
  corrected (List.replicate 3 (12, 384)) (List.range 256) [200, 100, 10] = [255, 132, 0]

/-- 03 R70, with its figures: the error carried is 0 at the start of a line, a black dot's error is u, a
white one's u − 255, and half of it, truncated toward zero and clamped, goes to the next pixel. -/
def Obligations.DiffusionCarriesHalfTheError : Prop :=
  (∀ (s : State) (x : Selection) (samples : List Byte), x.diffuse = true →
    s.convert x samples = diffuseDots x.threshold 0
      (corrected (if x.shadingB then s.scan.shadingB else s.scan.shadingA)
        (if x.toneB then s.scan.toneB else s.scan.toneA) samples)) ∧
  (∀ (th t : Nat) (e : Int) (rest : List Nat), (t : Int) + e < th →
    diffuseDots th e (t :: rest) =
      true :: diffuseDots th (max (-128) (min 127 (((t : Int) + e).tdiv 2))) rest) ∧
  (∀ (th t : Nat) (e : Int) (rest : List Nat), (th : Int) ≤ (t : Int) + e →
    diffuseDots th e (t :: rest) =
      false :: diffuseDots th (max (-128) (min 127 (((t : Int) + e - 255).tdiv 2))) rest) ∧
  (∀ (th : Nat) (e : Int), diffuseDots th e [] = []) ∧
  (∀ (th t : Nat) (e : Int), th ≤ 255 → t ≤ 255 → -128 ≤ e → e ≤ 127 →
    -128 ≤ (t : Int) + e ∧ (t : Int) + e ≤ 382 ∧
      -255 ≤ pixelError th ((t : Int) + e) ∧ pixelError th ((t : Int) + e) ≤ 254 ∧
        carryError (pixelError th ((t : Int) + e)) =
          (pixelError th ((t : Int) + e)).tdiv 2) ∧
  diffuseDots 128 0 [100, 100, 100] = [true, false, true] ∧
  carryError (pixelError 128 100) = 50 ∧ carryError (pixelError 128 150) = -52 ∧
    carryError (pixelError 128 48) = 24

/-- 04 R82: the phases of a copy from its four counts and Dmax. -/
def Obligations.PhasesFollowTheCounts : Prop :=
  (∀ (s : State) (line index : Nat) (slot : List Byte),
    (s.newCopy line index slot).phases =
      phasesOf s.print.dmax (s.newCopy line index slot).counts) ∧
  (∀ (d : Nat) (c : Counts), c.c0 + c.c1 + c.c2 + c.c3 ≤ d → phasesOf d c = 1) ∧
  (∀ (d : Nat) (c : Counts), d < c.c0 + c.c1 + c.c2 + c.c3 → c.c0 + c.c1 ≤ d → c.c2 + c.c3 ≤ d →
    phasesOf d c = 2) ∧
  (∀ (d : Nat) (c : Counts), d < c.c0 + c.c1 + c.c2 + c.c3 → ¬(c.c0 + c.c1 ≤ d ∧ c.c2 + c.c3 ≤ d) →
    phasesOf d c = 4) ∧
  (∀ (d : Nat) (c : Counts), d < c.c0 ∨ d < c.c1 ∨ d < c.c2 ∨ d < c.c3 → phasesOf d c = 4) ∧
  (∀ c : Counts, c.c0 ≤ 432 → c.c1 ≤ 432 → c.c2 ≤ 432 → c.c3 ≤ 432 → phasesOf 1728 c = 1) ∧
  ∀ d : Nat, phasesOf d Counts.zero = 1

/-! ## Start-up (09) -/

/-- HARD_RESET (09 R166): every block at its power-on values, an EEPROM newly fitted at a power-on only (its
1024 words, those not listed being erased: log 6), and the invariants hold there. -/
def Obligations.HardResetPutsPowerOnValues : Prop :=
  (∀ (cause : ResetCause) (rom : Option (List Word)) (s : State),
    (∀ r, rom = some r → r.length ≤ 1024) →
    ∃ t, exec (.hardReset cause rom) s = .next t ∧
      (t.boot.stage = .reset ∧ t.boot.cause = cause ∧ t.boot.version = 0 ∧ t.boot.store = none ∧
        t.boot.romBlank = false ∧ t.boot.romInvalid = false ∧ t.boot.romChecksum = false ∧
        t.boot.romSkipped = false ∧ t.boot.storeFail = false ∧ t.boot.read = 0 ∧ t.boot.written = 0) ∧
      (t.page.free = List.range 32 ∧ t.page.r = 0 ∧ t.page.low = false ∧ t.page.staleRef = false ∧
        t.page.taken = 0 ∧ t.page.returned = 0 ∧ ∀ i, t.slot i = Page.reset) ∧
      (t.recUnit.state = .waiting ∧ t.recUnit.consumer = 0 ∧ t.recUnit.producer = 0 ∧
        t.recUnit.badKind = false ∧ t.recUnit.badAddress = false ∧ t.recUnit.stall = false ∧
        t.recUnit.completed = 0 ∧ t.recUnit.posted = 0) ∧
      (t.port.mode = .off ∧ t.port.busy = none ∧ t.port.suspended = none ∧
        t.port.refreshDue = false ∧ t.port.rotation = .loader) ∧
      (∀ ch, t.chan ch = Chan.reset) ∧
      (t.scan.busy = false ∧ t.scan.bufA.state = .free ∧ t.scan.bufB.state = .free ∧
        t.scan.shadingA = List.replicate 1728 (0, 256) ∧
        t.scan.shadingB = List.replicate 1728 (0, 256) ∧ t.scan.toneA = List.range 256 ∧
        t.scan.toneB = List.range 256) ∧
      (t.print.queue = [] ∧ t.print.strobe = List.replicate 8 500 ∧ t.print.headClass = 0 ∧
        t.print.dmax = 432 ∧ t.print.head = .idle ∧ t.print.readRequest = none) ∧
      (t.coder.send = .idle ∧ t.coder.recv = .idle ∧ t.coder.sendBuf = none ∧
        t.coder.lastReceive = false ∧ t.coder.resetLow = true ∧ t.coder.sent = 0 ∧
        t.coder.received = 0 ∧ t.coder.bytesSent = 0 ∧ t.coder.bytesReceived = 0 ∧
        t.coder.unsolicited = false ∧ t.coder.frameError = false ∧ t.coder.badLines = false ∧
        t.coder.copyDots = List.replicate 216 0 ∧ t.coder.copyCounts = ⟨0, 0, 0, 0⟩ ∧
        t.coder.burstLimit = 0 ∧ t.coder.burstReported = false) ∧
      (∀ m, t.motor m = Motor.reset) ∧ (∀ n, t.ramp n = [5000, 5000]) ∧
      (t.motors.haltedByAction = false ∧ t.motors.steps = 0 ∧ t.motors.halts = 0) ∧
      (∀ g, (t.gate g).cfg = GateCfg.default ∧ (t.gate g).armed = false) ∧
      (∀ i : Fin 24, t.source i = { priority := if i.val < 16 then 0 else 4, entry := none }) ∧
      (t.sensor.threshold = 0 ∧ t.sensor.merged = false ∧ t.sensor.sampling = false ∧
        t.sensor.raises = 0 ∧ t.sensor.posted = 0) ∧
      (t.power.state = .run ∧ t.power.target = none ∧ t.power.sleepTime = 0 ∧
        t.power.hclken = true ∧ t.power.drainTimer = none ∧ t.power.drainLimit = 100 ∧
        t.power.sleepTimer = none ∧ t.power.wakeCause = none ∧ t.power.abandoned = 0 ∧
        t.power.sleeps = 0) ∧
      (t.host.producer = 0 ∧ t.host.consumer = 0 ∧ t.host.unmapped = false ∧
        t.host.guardDrop = false ∧ t.host.noGrant = 0 ∧ t.host.attention = 0) ∧
      t.eeprom =
        (if cause = .powerOn then
          rom.elim s.eeprom fun r => r ++ List.replicate (1024 - r.length) 0xFFFF
        else s.eeprom) ∧
      t.pending = s.pending) ∧
  MemoryOk State.reset ∧ ReservationOk State.reset ∧ QueueOk State.reset ∧ IndicesOk State.reset ∧
    Conserved State.reset ∧ PagesOk State.reset ∧ AsleepBeforeReady State.reset

/-- PROBE and PROBE_WORD_READ_END (09 R168): with CFGSKIP low, or an erased EEPROM, start-up goes on to READY
with the default configuration (R170), page memory at its power-on values under the default geometry (R171), the
default tables, constants, gateways and priorities in force and the filtered levels at the first samples (R172,
07 R138), and the BOOT report in writing (R173); otherwise to the reading of word 0, and to LOAD. That the row
carries the first samples as an operand is the model's choice (log 15). -/
def Obligations.ProbeChoosesTheConfiguration : Prop :=
  (∀ (lines : BitVec 16) (s : State), s.boot.stage = .reset →
    (∃ e, exec (.probe false lines) s = .next (State.settle e) ∧
      BroughtUp Sections.empty lines { s.boot with rom := .skipped, romSkipped := true } s e) ∧
    exec (.probe true lines) s =
      .next (State.settle { s with boot := { s.boot with stage := .probe } })) ∧
  (∀ (lines : BitVec 16) (s : State), s.boot.stage = .probe →
    (s.eeprom.getD 0 0xFFFF = 0xFFFF →
      ∃ e, exec (.probeWordReadEnd lines) s = .next (State.settle e) ∧
        BroughtUp Sections.empty lines
          { s.boot with rom := .blank, romBlank := true, read := s.boot.read + 1 } s e) ∧
    (s.eeprom.getD 0 0xFFFF ≠ 0xFFFF →
      exec (.probeWordReadEnd lines) s =
        .next (State.settle
          { s with boot := { s.boot with stage := .load, read := s.boot.read + 1 } }))) ∧
  ∀ (lines : BitVec 16) (b : BootUnit) (s e : State), BroughtUp Sections.empty lines b s e →
    e.page.geo =
      { dramSize := 0x100000, cmdBase := 0, cmdSize := 64, repBase := 0x400, repSize := 64
        idxBase := 0x800, bandBase := 0x80000, bands := 32, guard := false } ∧
    e.page.lowMark = 4 ∧ e.page.free = List.range 32 ∧ e.scan.tLine = 2500 ∧
    e.print.dmax = 432 ∧ e.print.strobe = List.replicate 8 500 ∧ e.power.drainLimit = 100 ∧
    (∀ n, e.ramp n = [5000, 5000]) ∧
    (∀ m, (e.motor m).holdTime = 50 ∧ (e.motor m).autoRelease = true ∧
      (e.motor m).phaseTable = [3, 6, 12, 9, 3, 6, 12, 9] ∧ (e.motor m).phaseLen = 4) ∧
    (∀ g, (e.gate g).cfg =
      { mode := .edgeBoth, debounce := 3, haltSet := 0, haltMode := .ramp, pauseSet := 0
        wake := false }) ∧
    (∀ g, (e.gate g).high = lines.getLsbD g.val) ∧
    (∀ i : Fin 24, (e.source i).priority = if i.val < 16 then 0 else 4) ∧
    (∀ i, activeUnder Sections.empty lines i = false) ∧ e.eeprom = s.eeprom

/-- The checks of an image in their order and the words each reads (09 R167), its sections one behind another
and what each kind carries, with what is clamped and counted (11 R197, 01 R1, 07 R136); that rings and index words
beyond the DRAM size make no image invalid is log 39.
IMAGE_READ_END (09 R169) and HOST_RELEASE (09 R173): a valid image gives its version and the sections it
carries, the rest being defaults; a failing one gives the defaults and its flag; whichever it is, it is put in
force whole (R171, R172; 07 R138) and the BOOT report is in writing, with the bytes of 11 section 11.4; that the
row carries the first samples as an operand is the model's choice (log 15); READY ends with the release of the
host and of the coder (a frame that then stands in the send buffer is offered: log 56). -/
def Obligations.ImageLoadAndHostRelease : Prop :=
  (∀ (rom : List Word) (f : Sections → Nat),
    let w := fun i => (rom.getD i 0xFFFF).toNat
    let n := w 1
    let body := (List.range (n - 4)).map fun k => w (k + 3)
    let sum := ((List.range n).map w).sum
    let failing := fun (status : RomStatus) (words : Nat) =>
      ({ status, version := 0, sections := Sections.empty, words } : Reading)
    (w 0 = 0xFFFF → readImage rom f = failing .blank 1) ∧
    (w 0 ≠ 0xFFFF → w 0 ≠ 0xE416 → readImage rom f = failing .invalid 1) ∧
    (w 0 = 0xE416 → n < 8 ∨ 1024 < n → readImage rom f = failing .invalid 2) ∧
    (w 0 = 0xE416 → 8 ≤ n → n ≤ 1024 →
      (sum % 65536 ≠ 0 → readImage rom f = failing .checksum n) ∧
      (sum % 65536 = 0 →
        (parseSections n body Sections.empty = none → readImage rom f = failing .invalid n) ∧
        ∀ c, parseSections n body Sections.empty = some c →
          (c.constants = none →
            readImage rom f = { status := .valid, version := w 2, sections := c, words := n }) ∧
          ∀ k, c.constants = some k →
            readImage rom f =
              { status := .valid
                version := w 2
                sections :=
                  { c with
                    constants := some { k with lowMark := min (f c) k.lowMark }
                    clamped := c.clamped + if f c < k.lowMark then 1 else 0 }
                words := n }))) ∧
  (∀ c : Sections, startBands c = c.geometry.elim 32 fun g => g.bands) ∧
  (∀ (c : Sections) (fuel : Nat), parseSections fuel [] c = some c ∧
    ∀ (h : Nat) (rest : List Nat),
      (rest.length ≤ fuel → parseSections (fuel + 1) (h :: rest) c =
        parseSections (rest.length + 1) (h :: rest) c) ∧
      (rest.length < h % 256 → parseSections (fuel + 1) (h :: rest) c = none) ∧
      (h % 256 ≤ rest.length →
        parseSections (fuel + 1) (h :: rest) c =
          (c.add (h / 256) (rest.take (h % 256))).bind fun d =>
            parseSections fuel (rest.drop (h % 256)) d)) ∧
  (∀ (c : Sections) (ws : List Nat),
    (∀ kind, kind = 0 ∨ 7 < kind → c.add kind ws = none) ∧
    (let g : Geometry :=
       { dramSize := ws.getD 0 0 + 65536 * ws.getD 1 0
         cmdBase := ws.getD 2 0 + 65536 * ws.getD 3 0, cmdSize := ws.getD 4 0
         repBase := ws.getD 5 0 + 65536 * ws.getD 6 0, repSize := ws.getD 7 0
         idxBase := ws.getD 8 0 + 65536 * ws.getD 9 0
         bandBase := ws.getD 10 0 + 65536 * ws.getD 11 0, bands := ws.getD 12 0
         guard := bitOf (ws.getD 13 0) 0 }
     c.add 1 ws =
       if ws.length = 14 ∧ c.geometry = none ∧ g.valid = true then some { c with geometry := some g }
       else none) ∧
    (let hold := fun v : Nat => (v % 256, bitOf v 15)
     let k : Constants :=
       { tLine := max 125 (min 5000 (ws.getD 0 0)), dmax := max 64 (min 1728 (ws.getD 1 0))
         drainLimit := max 1 (min 255 (ws.getD 2 0)), lowMark := ws.getD 3 0
         hold0 := hold (ws.getD 4 0), hold1 := hold (ws.getD 5 0), hold2 := hold (ws.getD 6 0) }
     c.add 2 ws =
       if ws.length = 7 ∧ c.constants = none then
         some { c with
           constants := some k
           clamped := c.clamped + flag (decide (k.tLine ≠ ws.getD 0 0)) 1 +
             flag (decide (k.dmax ≠ ws.getD 1 0)) 1 + flag (decide (k.drainLimit ≠ ws.getD 2 0)) 1 }
       else none) ∧
    (let raw := ws.drop 2
     let t := raw.map fun v => max 25 (min 32767 v)
     (3 < ws.getD 0 0 → c.add 3 ws = none) ∧
     ∀ n : Fin 4, ws.getD 0 0 = n.val →
       (ws.length = 2 + ws.getD 1 0 ∧ 2 ≤ ws.getD 1 0 ∧ ws.getD 1 0 ≤ 64 ∧ c.ramp n = none ∧
           (∀ j, 1 ≤ j → j < t.length → t.getD j 0 ≤ t.getD (j - 1) 0) →
         ∃ d, c.add 3 ws = some d ∧ d.ramp n = some t ∧ (∀ q, q ≠ n → d.ramp q = c.ramp q) ∧
           d = { c with
             ramp0 := d.ramp0, ramp1 := d.ramp1, ramp2 := d.ramp2, ramp3 := d.ramp3
             clamped := c.clamped + (raw.filter fun v => max 25 (min 32767 v) ≠ v).length }) ∧
       (ws.length ≠ 2 + ws.getD 1 0 ∨ ws.getD 1 0 < 2 ∨ 64 < ws.getD 1 0 ∨ c.ramp n ≠ none ∨
           (∃ j, 1 ≤ j ∧ j < t.length ∧ t.getD (j - 1) 0 < t.getD j 0) →
         c.add 3 ws = none)) ∧
    (let raw := ws.drop 2
     (2 < ws.getD 0 0 → c.add 4 ws = none) ∧
     ∀ m : MotorId, ws.getD 0 0 = motorNumber m →
       (ws.length = 10 ∧ (ws.getD 1 0 = 4 ∨ ws.getD 1 0 = 8) ∧ c.phase m = none →
         ∃ d, c.add 4 ws = some d ∧
           d.phase m = some { patterns := raw.map (BitVec.ofNat 4), length := ws.getD 1 0 } ∧
           (∀ q, q ≠ m → d.phase q = c.phase q) ∧
           d = { c with
             phase0 := d.phase0, phase1 := d.phase1, phase2 := d.phase2
             clamped := c.clamped + (raw.filter fun v => v % 16 ≠ v).length }) ∧
       (ws.length ≠ 10 ∨ (ws.getD 1 0 ≠ 4 ∧ ws.getD 1 0 ≠ 8) ∨ c.phase m ≠ none →
         c.add 4 ws = none)) ∧
    c.add 5 ws =
      (if ws.length = 8 ∧ c.strobe = none then
        some { c with
          strobe := some (ws.map fun v => max 50 (min 4000 v))
          clamped := c.clamped + (ws.filter fun v => max 50 (min 4000 v) ≠ v).length }
      else none) ∧
    (ws.length = 32 → c.gateways = none → (∀ g : Fin 16, ws.getD (2 * g.val) 0 % 8 ≤ 4) →
      ∃ gs, gs.length = 16 ∧
        c.add 6 ws = some { c with
          gateways := some gs
          clamped := c.clamped +
            (ids16.filter fun g => ws.getD (2 * g.val) 0 / 16 % 16 == 0).length } ∧
        ∀ g : Fin 16, ∀ mode, gateModeOf (ws.getD (2 * g.val) 0 % 8) = some mode →
          gs[g.val]? = some
            { mode
              debounce := max 1 (ws.getD (2 * g.val) 0 / 16 % 16)
              haltSet := BitVec.ofNat 3 (ws.getD (2 * g.val) 0 / 256)
              haltMode := if bitOf (ws.getD (2 * g.val) 0) 11 then .immediate else .ramp
              pauseSet := BitVec.ofNat 4 (ws.getD (2 * g.val + 1) 0)
              wake := bitOf (ws.getD (2 * g.val) 0) 15 }) ∧
    (ws.length ≠ 32 ∨ c.gateways ≠ none ∨ (∃ g : Fin 16, 4 < ws.getD (2 * g.val) 0 % 8) →
      c.add 6 ws = none) ∧
    c.add 7 ws =
      (if ws.length = 24 ∧ c.priorities = none then
        some { c with
          priorities := some (ws.map (min 7))
          clamped := c.clamped + (ws.filter fun v => 7 < v).length }
      else none)) ∧
  (∀ g : Geometry,
    let ring := fun n => n = 16 ∨ n = 32 ∨ n = 64 ∨ n = 128 ∨ n = 256
    let apart := fun a n b m => a + n ≤ b ∨ b + m ≤ a
    g.valid = true ↔
      (g.dramSize = 0x100000 ∨ g.dramSize = 0x200000 ∨ g.dramSize = 0x400000) ∧
        ring g.cmdSize ∧ ring g.repSize ∧ 8 ≤ g.bands ∧ g.bands ≤ 192 ∧
        g.cmdBase % 16 = 0 ∧ g.repBase % 16 = 0 ∧ g.idxBase % 4 = 0 ∧ g.bandBase % 16384 = 0 ∧
        g.bandBase + 16384 * g.bands ≤ g.dramSize ∧
        apart g.cmdBase (16 * g.cmdSize) g.repBase (16 * g.repSize) ∧
        apart g.cmdBase (16 * g.cmdSize) g.idxBase 4 ∧
        apart g.cmdBase (16 * g.cmdSize) g.bandBase (16384 * g.bands) ∧
        apart g.repBase (16 * g.repSize) g.idxBase 4 ∧
        apart g.repBase (16 * g.repSize) g.bandBase (16384 * g.bands) ∧
        apart g.idxBase 4 g.bandBase (16384 * g.bands)) ∧
  (∀ (lines : BitVec 16) (s : State), s.boot.stage = .load →
    ∃ e, exec (.imageReadEnd lines) s = .next (State.settle e) ∧
      BroughtUp (readImage s.eeprom startBands).sections lines
        { s.boot with
          rom := (readImage s.eeprom startBands).status
          version := (readImage s.eeprom startBands).version
          read := s.boot.read + BitVec.ofNat 16 ((readImage s.eeprom startBands).words - 1)
          romBlank := s.boot.romBlank || (readImage s.eeprom startBands).status == .blank
          romInvalid := s.boot.romInvalid || (readImage s.eeprom startBands).status == .invalid
          romChecksum :=
            s.boot.romChecksum || (readImage s.eeprom startBands).status == .checksum
          romSkipped := s.boot.romSkipped || (readImage s.eeprom startBands).status == .skipped }
        s e) ∧
  (∀ (rom : List Word) (f : Sections → Nat), (readImage rom f).status ≠ .valid →
    (readImage rom f).sections = Sections.empty ∧ (readImage rom f).version = 0) ∧
  (∀ (rom : List Word) (f : Sections → Nat), (readImage rom f).status = .valid →
    rom.getD 0 0xFFFF = 0xE416 ∧ (readImage rom f).version = (rom.getD 2 0xFFFF).toNat) ∧
  (∀ (b : BootUnit) (g : Geometry), (bootBytes b g).length = 16 ∧
    byteAt (bootBytes b g) 0 = 4 ∧ byteAt (bootBytes b g) 1 = 0 ∧
    wordAt (bootBytes b g) 2 = (if b.cause = .powerOn then 0 else 1) ∧
    wordAt (bootBytes b g) 4 = b.rom.code ∧ wordAt (bootBytes b g) 6 = b.version % 65536 ∧
    wordAt (bootBytes b g) 8 = 0x0416 ∧ wordAt (bootBytes b g) 10 = 1 ∧
    wordAt (bootBytes b g) 12 = g.bands % 65536 ∧
    wordAt (bootBytes b g) 14 = g.dramSize / 1048576 % 65536) ∧
  ∀ s : State, s.boot.ready = .release →
    exec .hostRelease s =
      .next (State.settle
        { s with
          boot := { s.boot with ready := .released }
          coder := { s.coder with
            resetLow := false
            send :=
              if s.coder.send = .idle ∧ s.coder.sendBuf.isSome = true then .offering
              else s.coder.send } })

/-! ## Host port and DRAM port (01, 10) -/

/-- The host port (10 R180, R174; 01 R24). The attention writes take their index modulo its ring and count,
and do nothing before the host is released. A memory cycle at or beyond the DRAM size is answered with 0xFFFF
or dropped, a guarded write is dropped, each without a grant; every other one is passed to the arbiter; with
HASEL it is an attention cycle, whose read drives the index and whose write is that of its attention word.
While the DRAM port is not running (before the DRAM stage, in SLEEP and in the wake: 09 R174, 08 R160) every
memory cycle is held with HWAITN low, an unmapped one too; that it is judged only then is log 28. -/
def Obligations.HostPortAnswersTheHost : Prop :=
  (∀ (v : Word) (s : State),
    (s.boot.ready = .released →
      exec (.commandWordWrite v) s =
        .next (State.settle
          { s with host :=
              { s.host with
                producer := v.toNat % s.page.geo.cmdSize, attention := s.host.attention + 1 } }) ∧
      exec (.reportWordWrite v) s =
        .next (State.settle
          { s with host :=
              { s.host with
                consumer := v.toNat % s.page.geo.repSize, attention := s.host.attention + 1 } })) ∧
    (s.boot.ready ≠ .released →
      exec (.commandWordWrite v) s = .next s.settle ∧ exec (.reportWordWrite v) s = .next s.settle)) ∧
  (∀ (addr : BitVec 21) (w : Option Word) (s : State), s.host.cycle = none →
    (s.port.mode = .running → s.page.geo.dramSize ≤ 2 * addr.toNat →
      ∃ t, exec (.hostMemoryCycle false addr w) s = .next t ∧
        t.host = { s.host with
          unmapped := true
          noGrant := s.host.noGrant + 1
          data := if w.isNone then 0xFFFF else s.host.data }) ∧
    (s.port.mode = .running → 2 * addr.toNat < s.page.geo.dramSize → s.page.geo.guard = true →
      s.page.geo.inBands (2 * addr.toNat) = true → w.isSome = true →
      ∃ t, exec (.hostMemoryCycle false addr w) s = .next t ∧
        t.host = { s.host with guardDrop := true, noGrant := s.host.noGrant + 1 }) ∧
    (s.port.mode = .running → 2 * addr.toNat < s.page.geo.dramSize →
      (s.page.geo.guard = false ∨ s.page.geo.inBands (2 * addr.toNat) = false ∨ w = none) →
      ∃ t, exec (.hostMemoryCycle false addr w) s = .next t ∧
        t.host = { s.host with
          cycle := some { addr := 2 * addr.toNat, write := w, asked := true } }) ∧
    (s.port.mode ≠ .running →
      ∃ t, exec (.hostMemoryCycle false addr w) s = .next t ∧
        t.host = { s.host with
          cycle := some { addr := 2 * addr.toNat, write := w, asked := false } }) ∧
    (s.boot.ready = .released → s.boot.stage = .ready →
      ∃ t, exec (.hostMemoryCycle true addr none) s = .next t ∧
        t.host = { s.host with
          data := if addr.getLsbD 0 then BitVec.ofNat 16 s.recUnit.producer
            else BitVec.ofNat 16 s.recUnit.consumer }) ∧
    (∀ v, exec (.hostMemoryCycle true addr (some v)) s =
      exec (if addr.getLsbD 0 then .reportWordWrite v else .commandWordWrite v) s))

/-- HOST_WORD_SERVED (01 R22, R24): a write stores its two bytes, low byte first, and no other; a read drives
them; the grant ends and HWAITN is released. REFRESH_DUE and REFRESH_END (01 R23). A SLEEP entry that waits for
the end of the grant goes on (`State.afterGrant`, 08 R160). The order of grants (01 R22): refresh, Print with
fewer than two queued copies, the host word, then the rotation from the requester after the last one granted
there, which alone moves the pointer. A burst is suspended for a refresh, or for a host word that arrives in it,
and resumes before any other requester (01 R23); how many of its words have passed then is a free value (log 10,
log 30). A host word that already waited when the burst was granted waits to its end. What each requester asks
for (01 R22): the record unit its report write, then the producer index word, then the job of the command in
hand; the loader the burst of a LOAD TABLE before that of a store (09 R178); a channel its entry fetch or its line
transfer, which of the two first being a free value (log 11); Scan writes its buffer of lower line number (03
R66). The requests that waited through self-refresh (08 R163) are left by the grants that serve them. -/
def Obligations.DramPortServesWordsAndRefreshes : Prop :=
  ((∀ (s : State) (c : HostCycle) (w : Word), MemoryOk s → s.host.cycle = some c →
    s.port.busy = some .hostWord → c.write = some w →
    ∃ e : State, exec .hostWordServed s = .next (State.settle e.afterGrant) ∧
      Memory.read e.mem c.addr = w.setWidth 8 ∧
      Memory.read e.mem (c.addr + 1) = (w >>> 8).setWidth 8 ∧
      (∀ a, a ≠ c.addr → a ≠ c.addr + 1 → Memory.read e.mem a = Memory.read s.mem a) ∧
      e = { s with
        mem := e.mem
        host := { s.host with cycle := none }
        port := { s.port with busy := none } }) ∧
  (∀ (s : State) (c : HostCycle), s.host.cycle = some c → s.port.busy = some .hostWord →
    c.write = none →
    exec .hostWordServed s =
      .next (State.settle
        (State.afterGrant
          { s with
            host :=
              { s.host with
                cycle := none
                data := (Memory.read s.mem (c.addr + 1)) ++ (Memory.read s.mem c.addr) }
            port := { s.port with busy := none } }))) ∧
  (∀ s : State, s.port.mode = .running → s.port.refreshDue = false →
    exec .refreshDue s =
      .next (State.settle { s with port := { s.port with refreshDue := true } })) ∧
  ∀ s : State, s.port.busy = some .refresh →
    exec .refreshEnd s =
      .next (State.settle (State.afterGrant { s with port := { s.port with busy := none } }))) ∧
  (∀ s : State,
    (s.port.refreshDue = true →
      s.grantFree = { s with port := { s.port with busy := some .refresh, refreshDue := false } }) ∧
    (∀ j, s.port.refreshDue = false → s.print.queue.length < 2 → s.chanWants .print = some j →
      s.grantFree = s.grant j) ∧
    (s.port.refreshDue = false → (2 ≤ s.print.queue.length ∨ s.chanWants .print = none) →
      (s.hostWaits = true →
        s.grantFree =
          { s with port := { s.port with
              busy := some .hostWord
              hostHeld := false
              backlog := s.port.backlog &&
                (s.recUnit.producerAsk || decide (s.recUnit.state = .advancing)) } }) ∧
      (s.hostWaits = false →
        (∀ before q after j, rotationAfter s.port.rotation = before ++ q :: after →
          (∀ p ∈ before, s.wants p = none) → s.wants q = some j →
          s.grantFree =
            { s.grant j with port := { (s.grant j).port with rotation := q } }) ∧
        ((∀ q, s.wants q = none) → s.grantFree = s))) ∧
    (∀ j,
      let u := s.grant j
      u.port = { s.port with
        busy := some j
        done := 0
        partialData := []
        hostHeld := s.hostWaits
        backlog := u.port.backlog } ∧
      (s.port.backlog = false → u.port.backlog = false) ∧
      (∀ v, j = .producerWord v →
        u.port.backlog = (s.port.backlog && decide (s.recUnit.state = .advancing)) ∧
          u.recUnit = { s.recUnit with producerAsk := false } ∧ u.scan = s.scan) ∧
      (∀ v, j = .consumerWord v → u.port.backlog = false) ∧
      (∀ b a, j = .scanWrite b a →
        u.buf b = { s.buf b with state := .writing } ∧ u.buf b.other = s.buf b.other) ∧
      ((∀ b a, j ≠ .scanWrite b a) → u.scan = s.scan) ∧
      ((∀ v, j ≠ .producerWord v) → u.recUnit = s.recUnit ∧
        ((∀ v, j ≠ .consumerWord v) → j ≠ .hostWord → u.port.backlog = s.port.backlog)) ∧
      u = { s with
        port := u.port
        free := u.free
        recUnit := u.recUnit
        scan := { s.scan with bufA := u.scan.bufA, bufB := u.scan.bufB } }) ∧
    (∀ q : Requester, ∃ before after,
      [.recUnit, .chan .scan, .chan .print, .chan .codeOut, .chan .codeIn, .loader] =
        before ++ q :: after ∧
      rotationAfter q = after ++ before ++ [q])) ∧
  (∀ s : State,
    (s.port.mode = .running → s.port.busy = none → s.port.suspended = none →
      s.arbitrate = s.grantFree) ∧
    (∀ j, s.port.mode = .running → s.port.busy = none → s.port.suspended = some j →
      s.port.refreshDue = false → (s.hostWaits = false ∨ s.port.hostHeld = true) →
      s.arbitrate = { s with port := { s.port with busy := some j, suspended := none } }) ∧
    (∀ j, s.port.mode = .running → s.port.busy = none → s.port.suspended = some j →
      (s.port.refreshDue = true ∨ s.hostWaits = true ∧ s.port.hostHeld = false) →
      s.arbitrate.port.suspended = some j ∧
        s.arbitrate.port.busy =
          some (if s.port.refreshDue = true then Job.refresh else Job.hostWord) ∧
        s.arbitrate.port.hostHeld = (s.port.refreshDue && s.port.hostHeld) ∧
        s.port.done ≤ s.arbitrate.port.done ∧ s.arbitrate.port.done ≤ s.port.done + 8) ∧
    (∀ j, s.port.mode = .running → s.port.busy = some j → s.port.suspended = none →
      (j.burstWords = none ∨
        s.port.refreshDue = false ∧ (s.hostWaits = false ∨ s.port.hostHeld = true)) →
      s.arbitrate = s) ∧
    (∀ j n, s.port.mode = .running → s.port.busy = some j → s.port.suspended = none →
      j.burstWords = some n →
      (s.port.refreshDue = true ∨ s.hostWaits = true ∧ s.port.hostHeld = false) →
      s.arbitrate.port.suspended = some j ∧
        s.arbitrate.port.busy =
          some (if s.port.refreshDue = true then Job.refresh else Job.hostWord) ∧
        s.arbitrate.port.hostHeld = (s.port.refreshDue && s.port.hostHeld) ∧
        s.port.done ≤ s.arbitrate.port.done ∧ s.arbitrate.port.rotation = s.port.rotation) ∧
    (s.port.mode ≠ .running → s.port.mode ≠ .entering → s.arbitrate = s)) ∧
  (∀ s : State,
    s.wants .recUnit = s.recUnitWants ∧ (∀ ch, s.wants (.chan ch) = s.chanWants ch) ∧
      s.wants .loader = s.loaderWants ∧
    (s.recUnit.writing.isSome = true → s.recUnitWants = some .reportWrite) ∧
    (s.recUnit.writing = none →
      (s.recUnit.producerAsk = true →
        s.recUnitWants = some (.producerWord s.recUnit.producer)) ∧
      (s.recUnit.producerAsk = false →
        (s.boot.ready = .consumerWord → s.recUnitWants = some (.consumerWord 0)) ∧
        (s.boot.ready ≠ .consumerWord →
          (s.recUnit.state = .fetching → s.recUnitWants = some .commandFetch) ∧
          (s.recUnit.state = .advancing →
            s.recUnitWants = some (.consumerWord s.recUnit.consumer)) ∧
          (∀ q, s.recUnit.state = .executing → s.recUnit.work = some (.query q) →
            s.recUnitWants = some (.queryWrite q.second)) ∧
          (s.recUnit.state = .executing → (∀ q, s.recUnit.work ≠ some (.query q)) →
            s.recUnitWants = none) ∧
          (s.recUnit.state = .waiting ∨ s.recUnit.state = .completing →
            s.recUnitWants = none)))) ∧
    (∀ l : Load, s.recUnit.work = some (.load l) →
      let w := if (∃ b, l.table = .shading b) then 2 else 1
      s.loaderWants = some
        (.tableBurst (l.source + 2 * w * l.got) (min 128 (w * (l.count - l.got))))) ∧
    ((∀ l : Load, s.recUnit.work ≠ some (.load l)) →
      (∀ o : StoreOp, s.boot.store = some o → o.phase = .source →
        s.loaderWants = some (.storeBurst (o.source + 2 * o.next) (min 128 (o.count - o.next)))) ∧
      ((∀ o : StoreOp, s.boot.store = some o → o.phase ≠ .source) → s.loaderWants = none)) ∧
    ∀ ch : Channel,
      ((s.chan ch).fetch = none → s.chanWants ch = s.lineJob ch) ∧
      ((s.chan ch).fetch.isSome = true → s.lineJob ch = none →
        s.chanWants ch = some (.entryFetch ch)) ∧
      (∀ j, (s.chan ch).fetch.isSome = true → s.lineJob ch = some j →
        s.chanWants ch = some (.entryFetch ch) ∨ s.chanWants ch = some j)) ∧
  ∀ s : State,
    let asks := fun b : BufId => (s.buf b).state = .ready ∧
      ((s.buf b.other).state = .free ∨ (s.buf b).line < (s.buf b.other).line)
    (asks .bufA → s.lineJob .scan = some (.scanWrite .bufA s.scan.bufA.addr)) ∧
    (¬asks .bufA → asks .bufB → s.lineJob .scan = some (.scanWrite .bufB s.scan.bufB.addr)) ∧
    (¬asks .bufA → ¬asks .bufB → s.lineJob .scan = none) ∧
    (∀ ch, isWriter ch = false →
      (∀ p, (s.chan ch).reading = true → (s.chan ch).openPage = some p →
        s.lineJob ch = some (.lineRead ch (s.lineAddr p.slot (s.chan ch).position))) ∧
      ((s.chan ch).reading = false ∨ (s.chan ch).openPage = none → s.lineJob ch = none)) ∧
    (∀ p n, s.coder.recv = .storing → (s.chan .codeIn).openPage = some p →
      (s.chan .codeIn).held = some n →
      s.lineJob .codeIn = some (.codeInWrite (s.lineAddr p.slot n))) ∧
    (s.coder.recv ≠ .storing ∨ (s.chan .codeIn).openPage = none → s.lineJob .codeIn = none) ∧
    ∀ (i : Fin 16) (n : Nat),
      s.lineAddr i n =
        s.page.geo.bandBase +
          16384 * (s.slot i).chain.getD ((n - 1) / 64 - (s.slot i).freed / 64) 0 +
          256 * ((n - 1) % 64)

/-! ## The record unit (10) -/

/-- COMMAND_FETCH_END (10 R182): the 16 bytes at the consumer index are taken as they stand.
UNKNOWN_COMMAND (10 R183, R185, R191): BAD_KIND with the tag and the kind as read and result bytes of 0. How a
command ends with any code, accepted or refused (10 R183, R185, R188, R191): its completion asks for a slot, and
the flags BAD_KIND, BAD_ADDRESS and REPORT_STALL are set by their codes and by a full ring; that a ring which fills
after the request sets no REPORT_STALL is log 61. -/
def Obligations.CommandsAreFetchedAndUnknownOnesRefused : Prop :=
  (∀ s : State, s.port.busy = some .commandFetch →
    exec .commandFetchEnd s =
      .next (State.settle
        { s.releasePort with recUnit :=
            { s.recUnit with
              state := .executing
              command :=
                some (Memory.readBytes s.mem (s.page.geo.cmdBase + 16 * s.recUnit.consumer) 16) } })) ∧
  (∀ (s : State) (k : Nat) (bs : List Byte), InHand s k bs → (k = 0 ∨ 20 < k) →
    ∃ e, exec .unknownCommand s = .next (State.settle e) ∧
      e = { s with recUnit :=
        { s.recUnit with
          state := .completing
          completion := some { kind := k, tag := cmdTag bs, code := .badKind, result := [] }
          badKind := true
          stall := s.recUnit.stall || s.ringFull } }) ∧
  (∀ (s : State) (bs : List Byte) (code : ResultCode) (result : List Nat),
    s.recUnit.command = some bs →
    s.complete code result =
      { s with recUnit :=
        { s.recUnit with
          state := .completing
          work := none
          completion := some { kind := wordAt bs 0, tag := wordAt bs 2, code, result }
          badKind := s.recUnit.badKind || decide (code = .badKind)
          badAddress := s.recUnit.badAddress || decide (code = .badAddress)
          stall := s.recUnit.stall || s.ringFull } }) ∧
  ∀ s : State,
    (∀ code, s.refuse code = s.complete code []) ∧
    (s.ringFull = true ↔
      (s.recUnit.producer + 1) % s.page.geo.repSize = s.host.consumer)

/-- REPORT_WRITE_END (10 R186, R182; 02 R28, R33): the 16 bytes stand in the entry at the producer index, which
advances; then the completion advances the consumer index, a channel's last final notice makes it IDLE, the last
of its other notices ends its WAIT_REPORT (log 17) and the entry that called for it, an event is counted. The end
of the grant may let a SLEEP entry go on (08 R160). PRODUCER_INDEX_WRITE_END and CONSUMER_INDEX_WRITE_END: the
index word holds the value the index had at the grant, and no other byte changes. RPTN is low exactly while the
boot stage is READY and the producer index differs from the host consumer index (10 R181). The 16 bytes of a
completion, a notice and an event, with their codes (11 sections 11.2, 11.4, 11 R196; that byte 1 of a completion
is the low byte of the kind is log 24). A channel under a request stays shown in WAIT_REPORT until its boundary,
which is at that instant but for lines in flight, and its entry stays current until the resume (02 R53; deduced,
log 70). PAUSED carries what its channel holds at the grant of the slot (11 R196; what that is behind an ABORT or
the end of a read: log 62). That a report in writing is posted though the host has meanwhile made the ring full
is log 66. -/
def Obligations.ReportsAndIndexWordsAreWritten : Prop :=
  (∀ (s : State) (w : Writing), MemoryOk s → s.recUnit.writing = some w → w.bytes.length = 16 →
    s.port.busy = some .reportWrite →
    ∃ e, exec .reportWriteEnd s = .next (State.settle e) ∧
      Memory.readBytes e.mem (s.page.geo.repBase + 16 * s.recUnit.producer) 16 = w.bytes ∧
      (∀ a, a < s.page.geo.repBase + 16 * s.recUnit.producer ∨
          s.page.geo.repBase + 16 * s.recUnit.producer + 16 ≤ a →
        Memory.read e.mem a = Memory.read s.mem a) ∧
      e.recUnit.producer = (s.recUnit.producer + 1) % s.page.geo.repSize ∧
      e.recUnit.posted = s.recUnit.posted + 1 ∧ e.recUnit.producerAsk = true ∧
      e.recUnit.writing = none ∧ e.eeprom = s.eeprom ∧ e.power = s.releasePort.power ∧
      e.page.geo = s.page.geo ∧
      (w.who = .completion →
        e.recUnit.consumer = (s.recUnit.consumer + 1) % s.page.geo.cmdSize ∧
          e.recUnit.completed = s.recUnit.completed + 1 ∧ e.recUnit.state = .advancing ∧
          e.recUnit.completion = none ∧ e.chans = s.chans ∧
          e.sensor = s.releasePort.sensor) ∧
      (w.who = .event →
        e.sensor = { s.releasePort.sensor with posted := s.sensor.posted + 1 } ∧
          e.chans = s.chans ∧ e.recUnit.consumer = s.recUnit.consumer) ∧
      (∀ ch, w.who = .notice ch true →
        (e.chan ch).state = .idle ∧ (e.chan ch).notices = (s.chan ch).notices.drop 1 ∧
          (e.chan ch).posted = (s.chan ch).posted + 1 ∧
          ∀ d, d ≠ ch → e.chan d = s.chan d) ∧
      (∀ ch, w.who = .notice ch false →
        let c := { s.chan ch with
          notices := (s.chan ch).notices.drop 1, posted := (s.chan ch).posted + 1 }
        (e.chan ch).posted = (s.chan ch).posted + 1 ∧
        (c.notices ≠ [] → e = (s.advanceProducer w).setChan ch c) ∧
        let after : ChState :=
          if c.state = .waiting .report ∧ c.pauseReq = none then .running else c.state
        (c.notices = [] → c.phase ≠ .ending ∨ c.pauseReq ≠ none ∨ c.state = .paused →
          e = (s.advanceProducer w).setChan ch { c with state := after }) ∧
        (c.notices = [] → c.phase = .ending → c.pauseReq = none → c.state ≠ .paused →
          e = ((s.advanceProducer w).setChan ch { c with state := after }).endEntry ch ∧
            (c.atLines = false →
              e.chan ch = Chan.shift { c with state := after } s.page.geo))) ∧
      (w.who = .boot → e.boot = { s.boot with ready := .producerWord } ∧ e.chans = s.chans)) ∧
  ((∀ (s : State) (v : Nat), MemoryOk s → s.port.busy = some (.producerWord v) →
    ∃ e, exec .producerIndexWriteEnd s = .next (State.settle e) ∧
      Memory.readBytes e.mem (s.page.geo.idxBase + 2) 2 = le16 v ∧
      (∀ a, a < s.page.geo.idxBase + 2 ∨ s.page.geo.idxBase + 4 ≤ a →
        Memory.read e.mem a = Memory.read s.mem a) ∧
      e = { s.releasePort with
        mem := e.mem
        boot := { s.boot with
          ready := if s.boot.ready = .producerWord then .consumerWord else s.boot.ready } }) ∧
  (∀ (s : State) (v : Nat), MemoryOk s → s.port.busy = some (.consumerWord v) →
    ∃ e, exec .consumerIndexWriteEnd s = .next (State.settle e) ∧
      Memory.readBytes e.mem s.page.geo.idxBase 2 = le16 v ∧
      (∀ a, a < s.page.geo.idxBase ∨ s.page.geo.idxBase + 2 ≤ a →
        Memory.read e.mem a = Memory.read s.mem a) ∧
      (s.boot.ready = .consumerWord →
        e = { s.releasePort with mem := e.mem, boot := { s.boot with ready := .release } }) ∧
      (s.boot.ready ≠ .consumerWord →
        e = { s.releasePort with mem := e.mem, recUnit := { s.recUnit with state := .waiting } })) ∧
  (∀ s : State, s.rptn = false ↔
    s.boot.stage = .ready ∧ s.recUnit.producer ≠ s.host.consumer)) ∧
  ((∀ c : Completion,
    c.bytes.length = 16 ∧ byteAt c.bytes 0 = 1 ∧ byteAt c.bytes 1 = c.kind % 256 ∧
    wordAt c.bytes 2 = c.tag % 65536 ∧ byteAt c.bytes 4 = c.code.code ∧ byteAt c.bytes 5 = 0 ∧
    wordAt c.bytes 6 = 0 ∧ ∀ i, i < 4 → wordAt c.bytes (8 + 2 * i) = c.result.getD i 0 % 65536) ∧
  [ResultCode.done, .busy, .badKind, .badTarget, .badAddress, .badRange, .stalePage, .pageState,
    .tableInvalid, .tableBusy, .motorBusy, .motorLinked, .powerPending, .notQuiescent, .romBusy,
    .romInvalid].map ResultCode.code = List.range 16) ∧
  ((∀ (ch : Channel) (c : Chan) (n : Notice),
    let bs := n.bytes ch c
    bs.length = 16 ∧ byteAt bs 0 = 2 ∧ byteAt bs 1 = chanNumber ch ∧
    (n.page = none → byteAt bs 4 = 255 ∧ byteAt bs 5 = 255) ∧
    (∀ p, n.page = some p → byteAt bs 4 = p.slot.val ∧ byteAt bs 5 = p.gen % 256) ∧
    let fields := fun kind a b c d e : Nat =>
      wordAt bs 2 = kind ∧ wordAt bs 6 = a % 65536 ∧ wordAt bs 8 = b % 65536 ∧
        wordAt bs 10 = c % 65536 ∧ wordAt bs 12 = d % 65536 ∧ wordAt bs 14 = e % 65536
    (n.body = .pageOpened → fields 1 0 0 0 0 0) ∧
    (∀ k t c, n.body = .pageClosed k t c → fields 2 k (if t then 1 else 0) c 0 0) ∧
    (∀ k c, n.body = .readShort k c → fields 3 k c 0 0 0) ∧
    (∀ l, n.body = .pageLimit l → fields 4 l 0 0 0 0) ∧
    (∀ v k, n.body = .mark v k → fields 5 v k 0 0 0) ∧
    (n.body = .paused .command → fields 6 0xFFFF c.entryAddr (c.entryAddr / 65536) c.remaining 0) ∧
    (∀ g : Fin 16, n.body = .paused (.line g) →
      fields 6 g.val c.entryAddr (c.entryAddr / 65536) c.remaining 0) ∧
    (∀ f a, n.body = .chainEnd f a → fields 7 (if f then 1 else 0) a (a / 65536) 0 0) ∧
    (∀ c a, n.body = .chainFault c a → fields 8 c.code a (a / 65536) 0 0)) ∧
  [FaultCode.badAddress, .badEntry, .badTarget, .pageOpen, .noPage, .pageState, .stalePage,
    .notPermitted, .readersFull, .notLinked, .linkTooFast, .waitExpired].map FaultCode.code =
      (List.range 12).map (· + 1)) ∧
  (∀ (i : Fin 24) (priority : Nat) (e : PendingEvent),
    let bs := eventBytes i priority e
    bs.length = 16 ∧ byteAt bs 0 = 3 ∧ byteAt bs 1 = i.val ∧ wordAt bs 2 = e.kind.code ∧
    byteAt bs 4 = priority % 256 ∧ byteAt bs 5 = (if e.repeated then 1 else 0) ∧
    (∀ h, e.data = .level h → wordAt bs 6 = (if h then 1 else 0) ∧ bs.drop 8 = List.replicate 8 0) ∧
    (∀ v, e.data = .word v → wordAt bs 6 = v % 65536 ∧ bs.drop 8 = List.replicate 8 0) ∧
    (∀ sleep c, e.data = .abandoned sleep c →
      byteAt bs 6 = (if sleep then 3 else 2) ∧ byteAt bs 7 = c % 256 ∧
        bs.drop 8 = List.replicate 8 0) ∧
    (∀ p r, e.data = .motor p r →
      (dwordAt bs 6 : Int) = p % 4294967296 ∧ bs.drop 12 = List.replicate 4 0 ∧
      (r = .complete → byteAt bs 10 = 0 ∧ byteAt bs 11 = 0) ∧
      (r = .stopped → byteAt bs 10 = 1 ∧ byteAt bs 11 = 0) ∧
      (r = .halt .command → byteAt bs 10 = 2 ∧ byteAt bs 11 = 0) ∧
      ∀ g : Fin 16, r = .halt (.line g) → byteAt bs 10 = 3 ∧ byteAt bs 11 = g.val)) ∧
  [EventKind.rise, .fall, .active, .done, .halted, .low, .ok, .burst, .storeDone, .storeFailed, .doze,
    .resumed, .abandoned, .wake, .frame, .unsolicited].map EventKind.code =
      (List.range 16).map (· + 1)

/-- PAGE_QUERY with its two record writes (01 R21, R8; 11 R196): its refusals in order; the copy of the page
record, its 32 bytes at the destination, and the completion with the slot's state and instance in bytes 8 and
9, F at 10 and r at 12, of the copy. The 32 bytes of the copy are those of 11 section 11.6 (11 R196). -/
def Obligations.PageQueryCopiesThePageRecord : Prop :=
  (∀ (s : State) (bs : List Byte) (i : Fin 16), InHand s 10 bs → wordAt bs 4 = i.val →
    s.page.geo.goodSource (dwordAt bs 8) 32 = true →
    (wordAt bs 6 = 0 ∨ ((s.slot i).state ≠ .empty ∧ (s.slot i).gen = wordAt bs 6)) →
    exec .pageQuery s =
      .next (State.settle
        (s.startWork
          (.query
            { dest := dwordAt bs 8
              data := queryBytes i (s.slot i)
              result :=
                [(s.slot i).state.code + 256 * (s.slot i).gen, s.page.free.length, s.page.r]
              second := false })))) ∧
  (∀ (s : State) (bs : List Byte), InHand s 10 bs →
    (15 < wordAt bs 4 → exec .pageQuery s = .next (State.settle (s.refuse .badTarget))) ∧
    ∀ i : Fin 16, wordAt bs 4 = i.val →
      (s.page.geo.goodSource (dwordAt bs 8) 32 = false →
        exec .pageQuery s = .next (State.settle (s.refuse .badAddress))) ∧
      (s.page.geo.goodSource (dwordAt bs 8) 32 = true → wordAt bs 6 ≠ 0 →
        ((s.slot i).state = .empty →
          exec .pageQuery s = .next (State.settle (s.refuse .pageState))) ∧
        ((s.slot i).state ≠ .empty → (s.slot i).gen ≠ wordAt bs 6 →
          exec .pageQuery s =
            .next (State.settle
              ({ s with page := { s.page with staleRef := true } }.refuse .stalePage))))) ∧
  (∀ (s : State) (q : Query), MemoryOk s → q.data.length = 32 →
    s.recUnit.work = some (.query q) → s.port.busy = some (.queryWrite false) →
    ∃ e, exec .pageQueryFirstWriteEnd s = .next (State.settle e) ∧
      Memory.readBytes e.mem q.dest 16 = q.data.take 16 ∧
      (∀ a, a < q.dest ∨ q.dest + 16 ≤ a → Memory.read e.mem a = Memory.read s.mem a) ∧
      e = { s.releasePort with
        mem := e.mem
        recUnit := { s.recUnit with work := some (.query { q with second := true }) } }) ∧
  (∀ (s : State) (q : Query), MemoryOk s → q.data.length = 32 →
    s.recUnit.work = some (.query q) → s.port.busy = some (.queryWrite true) →
    ∃ e, exec .pageQueryWriteEnd s = .next (State.settle e) ∧
      Memory.readBytes e.mem (q.dest + 16) 16 = q.data.drop 16 ∧
      (∀ a, a < q.dest + 16 ∨ q.dest + 32 ≤ a → Memory.read e.mem a = Memory.read s.mem a) ∧
      e.recUnit.completion =
        some { kind := cmdKind s.cmdBytes, tag := cmdTag s.cmdBytes, code := .done,
               result := q.result } ∧
      (∀ p f r, q.result = [p, f, r] →
        e.recUnit.completion.map (fun c => c.bytes.drop 8) =
          some (le16 p ++ le16 f ++ le16 r ++ [0, 0])) ∧
      e.recUnit.work = none ∧ e = { s.releasePort with mem := e.mem, recUnit := e.recUnit }) ∧
  ∀ (i : Fin 16) (p : Page),
    let bs := queryBytes i p
    let bit := fun (b : Bool) (n : Nat) => if b then n else 0
    bs.length = 32 ∧
    byteAt bs 0 = (match p.state with
      | .empty => 0
      | .filling => 1
      | .complete => 2) ∧
    byteAt bs 1 = p.gen % 256 ∧
    (∀ ch, p.writer = some ch → byteAt bs 2 = chanNumber ch) ∧
    (p.writer = none → byteAt bs 2 = 255) ∧
    byteAt bs 3 = bit p.consume 1 + bit p.permitPrint 2 + bit p.permitCodeOut 4 ∧
    byteAt bs 4 = bit p.readPrint 2 + bit p.readCodeOut 4 ∧
    byteAt bs 5 = bit p.release 1 + bit p.truncated 2 ∧
    wordAt bs 6 = p.limit % 65536 ∧ wordAt bs 8 = p.assigned % 65536 ∧
    wordAt bs 10 = p.stored % 65536 ∧ wordAt bs 12 = p.freed % 65536 ∧
    wordAt bs 14 = p.concealed % 65536 ∧
    (p.chain = [] → byteAt bs 16 = 255 ∧ byteAt bs 17 = 255) ∧
    (∀ b, p.chain.head? = some b → byteAt bs 16 = b % 256) ∧
    (∀ b, p.chain.getLast? = some b → byteAt bs 17 = b % 256) ∧
    wordAt bs 18 = p.chain.length % 65536 ∧ wordAt bs 20 = i.val ∧
    bs.drop 22 = List.replicate 10 0


/-! ## Channel and motor commands (02, 06) -/

/-- START CHAIN (02 R52): its checks in order; on acceptance the channel is RUNNING at the address and asks
for the fetch of its first entry, and in DOZE the part is returned to RUN. -/
def Obligations.StartChainTakesAnIdleChannel : Prop :=
  ∀ (s : State) (bs : List Byte), InHand s 1 bs →
    (chanOf (wordAt bs 4) = none →
      exec .startChain s = .next (State.settle (s.refuse .badTarget))) ∧
    ∀ ch, chanOf (wordAt bs 4) = some ch →
      (s.power.state = .drain →
        exec .startChain s = .next (State.settle (s.refuse .powerPending))) ∧
      (s.power.state ≠ .drain → (s.chan ch).state ≠ .idle →
        exec .startChain s = .next (State.settle (s.refuse .busy))) ∧
      (s.power.state ≠ .drain → (s.chan ch).state = .idle →
        s.page.geo.goodSource (dwordAt bs 6) 16 = false →
        exec .startChain s = .next (State.settle (s.refuse .badAddress))) ∧
      (s.power.state ≠ .drain → (s.chan ch).state = .idle →
        s.page.geo.goodSource (dwordAt bs 6) 16 = true →
        ∃ e, exec .startChain s = .next (State.settle e) ∧
          e.chan ch = { s.chan ch with
            state := .running
            entryAddr := dwordAt bs 6
            phase := .fresh
            current := none
            next := none
            fetch := some { addr := dwordAt bs 6, asCurrent := true, viaJump := false } } ∧
          (∀ d, d ≠ ch → e.chan d = s.chan d) ∧
          e.power = { s.power with
            state := if s.power.state = .doze then .run else s.power.state } ∧
          e.sensor =
            (if s.power.state = .doze then (s.raise 22 .resumed (.word 1)).sensor
              else s.sensor) ∧
          e.recUnit = (s.complete .done []).recUnit ∧
          e = { s with
            chans := e.chans, power := e.power, sensor := e.sensor, recUnit := e.recUnit })

/-- STOP CHANNEL with PAUSE and with ABORT (02 R53, R54): the request, the linked motor's stop point shrunk,
Scan's motor unlinked at an ABORT, its reservation ended (01 R13, R19); no effect on a channel that is IDLE or
posts its final notice; a channel above 3 is refused. That an unknown mode is refused by each of the two rows is
the model's choice (log 25). RESUME CHANNEL (02 R55): one whose notice has been posted is RUNNING, any other
keeps its state; an entry whose last notice was posted under the request or in PAUSED ends (deduced, log 70).
That an ABORT which has ended Scan's link leaves no NOT_LINKED behind it (`linkCut`) is log 67, deduced. A shrunk
stop point (06 R128) is the committed index + 1, or 0 with no step committed, also in the instant of a step (log
60); the resume ends the budget of a linked motor that runs out no RAMP halt. -/
def Obligations.StopAndResumeChannel : Prop :=
  (∀ (s : State) (bs : List Byte) (ch : Channel), InHand s 2 bs → chanOf (wordAt bs 4) = some ch →
    (wordAt bs 6 = 0 →
      (((s.chan ch).state = .idle ∨ (s.chan ch).state = .paused ∨ (s.chan ch).pauseReq.isSome = true ∨
          s.finalPending ch = true) →
        exec .stopChannelPause s = .next (State.settle (s.complete .done []))) ∧
      ((s.chan ch).state ≠ .idle → (s.chan ch).state ≠ .paused → (s.chan ch).pauseReq = none →
        s.finalPending ch = false →
        ∃ e, exec .stopChannelPause s = .next (State.settle e) ∧
          e.chan ch = { s.chan ch with pauseReq := some (.pause .command) } ∧
          (∀ d, d ≠ ch → e.chan d = s.chan d) ∧
          (∀ m, e.motor m =
            if motorFor ch = some m ∧ (s.motor m).link.isSome = true then (s.motor m).shrink
            else s.motor m) ∧
          e.recUnit = (s.complete .done []).recUnit ∧
          e.motors = { s.motors with m0 := e.motors.m0, m1 := e.motors.m1, m2 := e.motors.m2 } ∧
          e = { s with chans := e.chans, motors := e.motors, recUnit := e.recUnit })) ∧
    (wordAt bs 6 = 1 →
      (((s.chan ch).state = .idle ∨ s.finalPending ch = true) →
        exec .stopChannelAbort s = .next (State.settle (s.complete .done []))) ∧
      ((s.chan ch).state ≠ .idle → s.finalPending ch = false →
        ∃ e, exec .stopChannelAbort s = .next (State.settle e) ∧
          e.chan ch = { s.chan ch with
            pauseReq := some .abort
            linkCut := (s.chan ch).linkCut || (ch == .scan && (s.motor .m0).link.isSome) } ∧
          (∀ d, d ≠ ch → e.chan d = s.chan d) ∧
          (ch = .scan → (e.motor .m0).link = none ∧
            ((s.motor .m0).link.isSome = true →
              ReservationEnded s e ∧
              ((s.motor .m0).moving = false →
                e.motor .m0 = { s.motor .m0 with link := none, budget := none }) ∧
              ∀ j, (s.motor .m0).moving = true → (s.motor .m0).committed = some j →
                e.motor .m0 = { s.motor .m0 with
                  link := none
                  heldStep := false
                  budget := some ((s.motor .m0).budget.elim (j + 1) fun b => min (j + 1) b) }) ∧
            ((s.motor .m0).link = none →
              e.page = s.page ∧ e.sensor = s.sensor ∧ e.motors.m0 = s.motors.m0) ∧
            e.motors.m1 = s.motors.m1) ∧
          (ch = .print → (s.motor .m1).link.isSome = true → e.motor .m1 = (s.motor .m1).shrink) ∧
          (ch = .print → (s.motor .m1).link = none → e.motors.m1 = s.motors.m1) ∧
          (ch ≠ .scan → e.page = s.page ∧ e.sensor = s.sensor ∧ e.motors.m0 = s.motors.m0) ∧
          (ch ≠ .print → e.motors.m1 = s.motors.m1) ∧ e.motors.m2 = s.motors.m2 ∧
          e.recUnit = (s.complete .done []).recUnit ∧
          e.motors = { s.motors with m0 := e.motors.m0, m1 := e.motors.m1, m2 := e.motors.m2 } ∧
          e = { s with
            chans := e.chans, motors := e.motors, page := e.page, sensor := e.sensor
            recUnit := e.recUnit })) ∧
    (wordAt bs 6 ≠ 0 → wordAt bs 6 ≠ 1 →
      exec .stopChannelPause s = .next (State.settle (s.refuse .badRange)) ∧
        exec .stopChannelAbort s = .next (State.settle (s.refuse .badRange)))) ∧
  (∀ (s : State) (bs : List Byte), InHand s 2 bs → 3 < wordAt bs 4 →
    (wordAt bs 6 ≠ 1 → exec .stopChannelPause s = .next (State.settle (s.refuse .badTarget))) ∧
    (wordAt bs 6 ≠ 0 → exec .stopChannelAbort s = .next (State.settle (s.refuse .badTarget)))) ∧
  (∀ (s : State) (bs : List Byte), InHand s 3 bs →
    (chanOf (wordAt bs 4) = none →
      exec .resumeChannel s = .next (State.settle (s.refuse .badTarget))) ∧
    ∀ ch, chanOf (wordAt bs 4) = some ch →
      ((s.chan ch).pauseReq = some .abort →
        exec .resumeChannel s = .next (State.settle (s.refuse .busy))) ∧
      ((s.chan ch).pauseReq = none → (s.chan ch).state ≠ .paused →
        exec .resumeChannel s = .next (State.settle (s.refuse .busy))) ∧
      (∀ cause, (s.chan ch).pauseReq = some (.pause cause) →
        ∃ u : State, exec .resumeChannel s = .next (State.settle ((u.endPosted ch).complete .done [])) ∧
          u.chan ch = { s.chan ch with
            pauseReq := none
            state :=
              if (s.chan ch).state = .waiting .report ∧ (s.chan ch).notices = [] then .running
              else (s.chan ch).state } ∧
          (∀ d, d ≠ ch → u.chan d = s.chan d) ∧ u.motors = (s.freeBudget ch).motors ∧
          u = { s with chans := u.chans, motors := u.motors }) ∧
      ((s.chan ch).pauseReq = none → (s.chan ch).state = .paused →
        ∃ u : State, exec .resumeChannel s = .next (State.settle ((u.endPosted ch).complete .done [])) ∧
          u.chan ch = { s.chan ch with
            state := if (s.chan ch).notices = [] then .running else .waiting .report } ∧
          (∀ d, d ≠ ch → u.chan d = s.chan d) ∧ u.motors = (s.freeBudget ch).motors ∧
          u = { s with chans := u.chans, motors := u.motors })) ∧
  (∀ (s : State) (ch : Channel),
    let c := s.chan ch
    let ends := c.phase = .ending ∧ c.notices = [] ∧ c.pauseReq = none ∧ c.state ≠ .paused
    (ends → s.endPosted ch = s.endEntry ch) ∧ (¬ends → s.endPosted ch = s) ∧
      (s.complete .done []) = { s with recUnit := (s.complete .done []).recUnit }) ∧
  (∀ x : Motor,
    (∀ j, x.committed = some j →
      x.shrink = { x with budget := some (x.budget.elim (j + 1) fun b => min (j + 1) b) }) ∧
    (x.committed = none → x.shrink = { x with budget := some 0 })) ∧
  ∀ (s : State) (ch : Channel),
    (motorFor ch = none → s.freeBudget ch = s) ∧
    ∀ m, motorFor ch = some m →
      ((s.motor m).link.isSome = true → (s.motor m).rampPath = none →
        s.freeBudget ch = s.setMotor m { s.motor m with budget := none }) ∧
      ((s.motor m).link = none ∨ (s.motor m).rampPath.isSome = true → s.freeBudget ch = s)

/-- MOTOR MOVE (06 R118): its checks in order; on acceptance the host move and the remaining steps, with
the top index clamped, and the decision from rest, which commits index 0 (an unlinked motor at rest has no
stop budget); out of OFF its outputs stay off until the first step (06 R114). -/
def Obligations.MotorMoveStartsAHostMove : Prop :=
  ∀ (s : State) (bs : List Byte), InHand s 4 bs →
    (motorOf (wordAt bs 4) = none →
      exec .motorMove s = .next (State.settle (s.refuse .badTarget))) ∧
    ∀ m, motorOf (wordAt bs 4) = some m →
      ((1 < wordAt bs 6 ∨ 3 < wordAt bs 12 ∨ dwordAt bs 8 = 0 ∨ 16777215 < dwordAt bs 8) →
        exec .motorMove s = .next (State.settle (s.refuse .badRange))) ∧
      ∀ dir n, dirOf (wordAt bs 6) = some dir → rampOf (wordAt bs 12) = some n →
        1 ≤ dwordAt bs 8 → dwordAt bs 8 ≤ 16777215 →
        (s.power.state = .drain →
          exec .motorMove s = .next (State.settle (s.refuse .powerPending))) ∧
        (s.power.state ≠ .drain → (s.motor m).link.isSome = true →
          exec .motorMove s = .next (State.settle (s.refuse .motorLinked))) ∧
        (s.power.state ≠ .drain → (s.motor m).link = none →
          ((s.motor m).moving = true ∨ (s.motor m).halted.isSome = true) →
          exec .motorMove s = .next (State.settle (s.refuse .motorBusy))) ∧
        (s.power.state ≠ .drain → (s.motor m).link = none → (s.motor m).moving = false →
          (s.motor m).halted = none →
          ∃ e, exec .motorMove s = .next (State.settle e) ∧
            (e.motor m).move = some
              { dir, ramp := n, top := min (wordAt bs 14) ((s.ramp n).length - 1)
                shortened := false } ∧
            (e.motor m).remaining = dwordAt bs 8 ∧
            ((s.motor m).budget = none →
              e.motor m = { s.motor m with
                move := (e.motor m).move
                remaining := dwordAt bs 8
                state := .moving
                committed := some 0
                due := some ((s.ramp n).getD 0 0)
                run := s.ramp n
                dark := decide ((s.motor m).state = .off)
                holdTimer := none }) ∧
            ((s.motor m).budget = none → (s.motor m).state = .off →
              (e.motor m).phaseOut = 0) ∧
            (∀ d, d ≠ m → e.motor d = s.motor d) ∧
            e.power = { s.power with
              state := if s.power.state = .doze then .run else s.power.state } ∧
            e.sensor =
              (if s.power.state = .doze then (s.raise 22 .resumed (.word 4)).sensor
                else s.sensor) ∧
            e.recUnit =
              (s.complete .done [min (wordAt bs 14) ((s.ramp n).length - 1)]).recUnit ∧
            e.motors = { s.motors with m0 := e.motors.m0, m1 := e.motors.m1, m2 := e.motors.m2 } ∧
            e = { s with
              motors := e.motors, power := e.power, sensor := e.sensor, recUnit := e.recUnit })

/-- MOTOR STOP with RAMP and with IMMEDIATE (06 R119; that a move records its shortening is log 26, and which
halt a second one leaves is log 27), MOTOR RESUME and MOTOR RELEASE (06 R120), with a motor above 2 refused,
and the hold timer's expiry (06 R114), under the auto-release option the timer was loaded with. The outputs MnA to
MnD and MREDn (06 R113, R114). That an
unknown mode of MOTOR STOP is refused by each of its two rows is the model's choice (log 25). -/
def Obligations.MotorStopResumeAndRelease : Prop :=
  (∀ x : Motor,
    (x.state = .off ∨ x.dark = true → x.phaseOut = 0) ∧
    (x.state ≠ .off → x.dark = false → x.phaseOut = x.phaseTable.getD x.phase 0) ∧
    (x.reduced = true ↔ x.state = .hold)) ∧
  (∀ (s : State) (bs : List Byte) (m : MotorId), InHand s 5 bs → motorOf (wordAt bs 4) = some m →
    (wordAt bs 6 = 0 →
      ((s.motor m).link.isSome = true →
        exec .motorStopRamp s = .next (State.settle (s.refuse .motorLinked))) ∧
      ((s.motor m).link = none →
        ∃ e, exec .motorStopRamp s = .next (State.settle e) ∧
          (∀ v j, (s.motor m).move = some v → (s.motor m).committed = some j →
            e.motor m = { s.motor m with
              remaining := min (s.motor m).remaining (j + 1)
              move := some { v with
                shortened := v.shortened || decide (j + 1 < (s.motor m).remaining) } }) ∧
          (((s.motor m).move = none ∨ (s.motor m).committed = none) → e.motor m = s.motor m) ∧
          (∀ d, d ≠ m → e.motor d = s.motor d) ∧
          e.recUnit = (s.complete .done []).recUnit ∧
          e.motors = { s.motors with m0 := e.motors.m0, m1 := e.motors.m1, m2 := e.motors.m2 } ∧
          e = { s with motors := e.motors, recUnit := e.recUnit })) ∧
    (wordAt bs 6 = 1 →
      ∃ e, exec .motorStopImmediate s = .next (State.settle e) ∧
        (e.motor m).halted =
          some (mergeHalt (s.motor m).halted { mode := .immediate, cause := .command }) ∧
        ((s.motor m).halted = none →
          (e.motor m).halted = some { mode := .immediate, cause := .command }) ∧
        ((s.motor m).moving = true →
          (e.motor m).moving = false ∧ (e.motor m).k = none ∧ (e.motor m).committed = none ∧
            (e.motor m).move = none ∧ (e.motor m).remaining = 0 ∧
            (e.motor m).position = (s.motor m).position ∧ (e.motor m).phase = (s.motor m).phase ∧
            (e.motor m).link = (s.motor m).link ∧ (e.motor m).group = (s.motor m).group ∧
            e.motors.halts = s.motors.halts + 1 ∧
            (e.motor m).timerRelease = (s.motor m).autoRelease ∧
            (e.motor m).state =
              (if (s.motor m).holdTime = 0 ∧ (s.motor m).autoRelease = true then .off
                else .hold) ∧
            (e.motor m).holdTimer =
              (if (s.motor m).holdTime = 0 then none else some ((s.motor m).holdTime * 10)) ∧
            (e.motor m).due = none ∧ (e.motor m).heldStep = false ∧ (e.motor m).dark = false ∧
            (e.motor m).rampPath = none ∧
            ∀ c, (e.motor m).halted = some c →
              e.sensor =
                (s.raise (motorSource m) .halted
                  (.motor (s.motor m).position (.halt c.cause))).sensor) ∧
        ((s.motor m).moving = false →
          e.motor m = { s.motor m with halted := (e.motor m).halted } ∧ e.sensor = s.sensor ∧
            e.motors.halts = s.motors.halts) ∧
        (∀ d, d ≠ m → e.motor d = s.motor d) ∧ e.motors.steps = s.motors.steps ∧
        e.recUnit = (s.complete .done []).recUnit ∧
        e.motors = { s.motors with
          m0 := e.motors.m0, m1 := e.motors.m1, m2 := e.motors.m2, halts := e.motors.halts } ∧
        e = { s with motors := e.motors, sensor := e.sensor, recUnit := e.recUnit })) ∧
  (∀ (s : State) (bs : List Byte),
    (InHand s 5 bs → 2 < wordAt bs 4 →
      (wordAt bs 6 ≠ 1 → exec .motorStopRamp s = .next (State.settle (s.refuse .badTarget))) ∧
      (wordAt bs 6 ≠ 0 → exec .motorStopImmediate s = .next (State.settle (s.refuse .badTarget)))) ∧
    (InHand s 5 bs → wordAt bs 4 ≤ 2 → 1 < wordAt bs 6 →
      exec .motorStopRamp s = .next (State.settle (s.refuse .badRange)) ∧
        exec .motorStopImmediate s = .next (State.settle (s.refuse .badRange))) ∧
    (InHand s 6 bs → 2 < wordAt bs 4 →
      exec .motorResume s = .next (State.settle (s.refuse .badTarget))) ∧
    (InHand s 7 bs → 2 < wordAt bs 4 →
      exec .motorRelease s = .next (State.settle (s.refuse .badTarget)))) ∧
  ((∀ (s : State) (bs : List Byte) (m : MotorId), motorOf (wordAt bs 4) = some m →
    (InHand s 6 bs →
      exec .motorResume s =
        .next (State.settle
          ((s.setMotor m { s.motor m with halted := none }).complete .done []))) ∧
    (InHand s 7 bs →
      ((s.motor m).state = .moving →
        exec .motorRelease s = .next (State.settle (s.refuse .motorBusy))) ∧
      ((s.motor m).state = .hold →
        exec .motorRelease s =
          .next (State.settle
            ((s.setMotor m { s.motor m with state := .off, holdTimer := none }).complete
              .done []))) ∧
      ((s.motor m).state = .off →
        exec .motorRelease s = .next (State.settle (s.complete .done []))))) ∧
  ∀ (s : State) (m : MotorId), (s.motor m).state = .hold → (s.motor m).holdTimer.isSome = true →
    exec (.holdTimerExpiry m) s =
      .next (State.settle
        (s.setMotor m
          { s.motor m with
            state := if (s.motor m).timerRelease = true then .off else .hold
            holdTimer := none })))

/-- MOTOR_STEP (06 R113, R124, R125; 04 R88): a step that waits for the burn of the head copy is held; any
other moves the phase pointer and the position by one, counts in its group, gives a completed group its effect (a
trigger, 03 R62, or the head copy's leaving, 04 R89), lowers stop budget and remaining steps by one, and commits
what the governor chooses (R126) with its due time, or reaches rest; the reservation follows the decision (R130,
01 R13). At rest: HOLD with its timer (R112, R114) and the event of R121. That HALTED is raised at the end of a RAMP
halt's path when the motor's link has ended meanwhile, too, is log 50 (DEDUCED), not R123; that a RAMP halt of a
motor that still runs out an earlier one's path gives one HALTED, with the newer cause, is log 65. -/
def Obligations.MotorStepMovesOnePosition : Prop :=
  (∀ (s : State) (m : MotorId) (j : Nat), (s.motor m).state = .moving →
    (s.motor m).committed = some j → (s.motor m).heldStep = false →
    (s.stepHeld m = true →
      exec (.motorStep m) s =
        .next (State.settle (s.setMotor m { s.motor m with heldStep := true }))) ∧
    (s.stepHeld m = false →
      (let x := s.motor m
       let full := x.link.any fun l => decide (l.spl ≤ x.group + 1)
       let u := s.setMotor m { x with
         k := some j
         committed := none
         due := none
         dark := false
         phase := stepPhase x.phaseLen x.phase x.dir
         position := stepPosition x.position x.dir
         group := if full then 0 else if x.link.isSome then x.group + 1 else x.group }
       let v := { u with motors := { u.motors with steps := s.motors.steps + 1 } }
       let w :=
         match full, m with
         | true, .m0 => v.offerTrigger
         | true, .m1 =>
           { v with print := { v.print with
               queue := s.print.queue.drop 1
               head := if s.print.queue.length ≤ 1 then .idle else .shifting } }
         | _, _ => v
       let d := w.setMotor m { w.motor m with
         budget := (w.motor m).budget.map fun b => b - 1
         remaining :=
           if (w.motor m).move.isSome then (w.motor m).remaining - 1 else (w.motor m).remaining }
       exec (.motorStep m) s =
         .next (State.settle
           (match d.govern m (some j) with
            | some i =>
              (d.setMotor m { d.motor m with
                committed := some i, due := some ((d.motor m).run.getD i 0) }).afterDecision m
                  (some i)
            | none => (d.reachRest m).afterDecision m none))) ∧
      ∃ t, exec (.motorStep m) s = .next t ∧
        (t.motor m).phase = stepPhase (s.motor m).phaseLen (s.motor m).phase (s.motor m).dir ∧
        (t.motor m).position = stepPosition (s.motor m).position (s.motor m).dir ∧
        (t.motor m).group =
          (match (s.motor m).link with
            | none => (s.motor m).group
            | some l => if l.spl ≤ (s.motor m).group + 1 then 0 else (s.motor m).group + 1) ∧
        ((t.motor m).k = some j ∨ ((t.motor m).k = none ∧ j = 0)) ∧
        t.motors.steps = s.motors.steps + 1 ∧
        (∀ d, d ≠ m →
          (t.motor d).phase = (s.motor d).phase ∧ (t.motor d).position = (s.motor d).position) ∧
        t.eeprom = s.eeprom ∧ t.boot = s.boot ∧ t.power = s.power ∧
        (∀ n, t.ramp n = s.ramp n) ∧ t.print.strobe = s.print.strobe)) ∧
  (∀ (s : State) (j : Option Nat),
    s.afterDecision .m1 j = s ∧ s.afterDecision .m2 j = s ∧
    ((s.motor .m0).link = none → s.afterDecision .m0 j = s) ∧
    ∀ l, (s.motor .m0).link = some l →
      let n := j.elim 0 fun k => ((s.motor .m0).group + k + 1) / l.spl
      let left := (s.chan .scan).openPage.elim 0 fun p => s.slotsLeft p.slot
      let v := (n - left + 63) / 64
      s.afterDecision .m0 j = s.reserve v ∧
        (s.reserve v).page.r = (if v ≤ s.page.r then v else min v s.page.free.length) ∧
        (s.reserve v).page.free = s.page.free ∧ (∀ i, (s.reserve v).slot i = s.slot i)) ∧
  ∀ (s : State) (m : MotorId),
    let x := s.motor m
    let e := s.reachRest m
    e.motor m = { x with
      state := if x.holdTime = 0 ∧ x.autoRelease = true then .off else .hold
      k := none
      committed := none
      due := none
      run := []
      heldStep := false
      dark := false
      rampPath := none
      budget := if s.linkPaused m = true then some 0 else none
      move := none
      remaining := 0
      holdTimer := if x.holdTime = 0 then none else some (10 * x.holdTime)
      timerRelease := x.autoRelease } ∧
    (∀ d, d ≠ m → e.motor d = s.motor d) ∧
    (∀ cause, x.rampPath = some cause →
      e.motors.halts = s.motors.halts + 1 ∧
        e.sensor =
          (s.raise (motorSource m) .halted (.motor x.position (.halt cause))).sensor) ∧
    (x.rampPath = none →
      e.motors.halts = s.motors.halts ∧
      (∀ v, x.move = some v →
        e.sensor =
          (s.raise (motorSource m) .done
            (.motor x.position (if v.shortened = true then .stopped else .complete))).sensor) ∧
      (x.move = none → e.sensor = s.sensor)) ∧
    e.motors = { s.motors with
      m0 := e.motors.m0, m1 := e.motors.m1, m2 := e.motors.m2, halts := e.motors.halts } ∧
    e = { s with motors := e.motors, sensor := e.sensor }

/-! ## Tables, the head class, pages (03, 04, 06, 01) -/

/-- LOAD TABLE for any of the twelve tables, by its four rows `loadTableScan`, `loadTableStrobe`,
`loadTableRamp`, `loadTablePhase` (`Table.row` names the row of a table): its checks in order, with their
figures, and its acceptance (03 R73, 04 R92, 06 R116, R117; 08 R159). A selector that names no table is
refused (10 R183); that each of the four rows does so is the model's choice (log 25). When a table is busy (03
R72, R73; 06 R116, R117): a scan bank that a selection names, that of a Scan channel not IDLE or of a buffer not
FREE; a ramp that a MOVING motor's host move or link names; the phase table of a MOVING motor; the strobe table
never. -/
def Obligations.LoadTableIsCheckedAndAccepted : Prop :=
  (∀ (s : State) (bs : List Byte) (t : Table), InHand s 8 bs → tableOf (wordAt bs 4) = some t →
    (t.rangeOk (wordAt bs 6) (wordAt bs 8) = false →
      exec t.row s = .next (State.settle (s.refuse .badRange))) ∧
    (t.rangeOk (wordAt bs 6) (wordAt bs 8) = true →
      s.page.geo.goodSource (dwordAt bs 10) (2 * t.entryWords * wordAt bs 8) = false →
      exec t.row s = .next (State.settle (s.refuse .badAddress))) ∧
    (t.rangeOk (wordAt bs 6) (wordAt bs 8) = true →
      s.page.geo.goodSource (dwordAt bs 10) (2 * t.entryWords * wordAt bs 8) = true →
      s.tableBusy t = true → exec t.row s = .next (State.settle (s.refuse .tableBusy))) ∧
    (t.rangeOk (wordAt bs 6) (wordAt bs 8) = true →
      s.page.geo.goodSource (dwordAt bs 10) (2 * t.entryWords * wordAt bs 8) = true →
      s.tableBusy t = false →
      ∃ e, exec t.row s = .next (State.settle e) ∧
        e.recUnit = { s.recUnit with
          work := some (.load
            { table := t, first := wordAt bs 6, count := wordAt bs 8, source := dwordAt bs 10
              got := 0, clamped := 0 }) } ∧
        e.power = { s.power with
          state := if s.power.state = .doze then .run else s.power.state } ∧
        e.sensor =
          (if s.power.state = .doze then (s.raise 22 .resumed (.word 8)).sensor else s.sensor) ∧
        e = { s with recUnit := e.recUnit, power := e.power, sensor := e.sensor })) ∧
  (∀ (s : State) (bs : List Byte) (t : Table), InHand s 8 bs → 11 < wordAt bs 4 →
    exec t.row s = .next (State.settle (s.refuse .badTarget))) ∧
  (∀ (b : Bool) (f c : Nat),
    ((Table.shading b).rangeOk f c = true ↔ 1 ≤ c ∧ f + c ≤ 1728) ∧
      ((Table.tone b).rangeOk f c = true ↔ 1 ≤ c ∧ f + c ≤ 256)) ∧
  (∀ f c : Nat, Table.strobe.rangeOk f c = true ↔ 1 ≤ c ∧ f + c ≤ 8) ∧
  (∀ (n : Fin 4) (f c : Nat), (Table.ramp n).rangeOk f c = true ↔ f = 0 ∧ 2 ≤ c ∧ c ≤ 64) ∧
  (∀ (m : MotorId) (f c : Nat), (Table.phase m).rangeOk f c = true ↔ f = 0 ∧ (c = 4 ∨ c = 8)) ∧
  ∀ s : State,
    (∀ b, s.tableBusy (.shading b) = true ↔
      ((s.chan .scan).state ≠ .idle ∧ (s.chan .scan).sel.shadingB = b) ∨
        (s.scan.bufA.state ≠ .free ∧ s.scan.bufA.sel.shadingB = b) ∨
        (s.scan.bufB.state ≠ .free ∧ s.scan.bufB.sel.shadingB = b)) ∧
    (∀ b, s.tableBusy (.tone b) = true ↔
      ((s.chan .scan).state ≠ .idle ∧ (s.chan .scan).sel.toneB = b) ∨
        (s.scan.bufA.state ≠ .free ∧ s.scan.bufA.sel.toneB = b) ∨
        (s.scan.bufB.state ≠ .free ∧ s.scan.bufB.sel.toneB = b)) ∧
    s.tableBusy .strobe = false ∧
    (∀ n, s.tableBusy (.ramp n) = true ↔
      ∃ m, (s.motor m).state = .moving ∧
        ((∃ v, (s.motor m).move = some v ∧ v.ramp = n) ∨
          ((s.motor m).move = none ∧ ∃ l, (s.motor m).link = some l ∧ l.ramp = n))) ∧
    ∀ m, s.tableBusy (.phase m) = true ↔ (s.motor m).state = .moving

/-- SCAN_TABLE_BURST_END (03 R74) and STROBE_LOAD_END (04 R92): the entries of a burst, clamped, replace a
run of the table. RAMP_LOAD_END (06 R116) and PHASE_LOAD_END (06 R117): a rising interval leaves the ramp as it
was with TABLE_INVALID and its index; otherwise the whole table, and what its links take from it. The
completion counts entries and clamped entries, and that of a scan table ends Scan's WAIT_TABLE in the same
event (03 R75). -/
def Obligations.LoadedTablesReplaceTheirEntries : Prop :=
  ((∀ (s : State) (a n : Nat), s.port.done = 0 → s.port.partialData = [] →
    s.burstData (.tableBurst a n) = wordsOf (Memory.readBytes s.mem a (2 * n))) ∧
  (∀ (s : State) (l : Load) (a n : Nat) (b : Bool), s.recUnit.work = some (.load l) →
    s.port.busy = some (.tableBurst a n) → l.table = .shading b →
    ∃ e, exec .scanTableBurstEnd s = .next (State.settle e) ∧
      (let es := pairsOf (s.burstData (.tableBurst a n))
       let old := if b then s.scan.shadingB else s.scan.shadingA
       let new := old.take (l.first + l.got) ++
         es.map (fun p => (min 255 p.1, max 256 (min 1023 p.2))) ++
         old.drop (l.first + l.got + es.length)
       let clamped := l.clamped +
         (es.filter fun p => (min 255 p.1, max 256 (min 1023 p.2)) ≠ p).length
       e.scan = (if b then { s.scan with shadingB := new } else { s.scan with shadingA := new }) ∧
       (l.got + es.length < l.count →
         e.recUnit.work = some (.load { l with got := l.got + es.length, clamped }) ∧
           e.chans = s.chans) ∧
       (l.count ≤ l.got + es.length →
         e.recUnit = (s.complete .done [l.got + es.length, clamped]).recUnit ∧
           (∀ sb tb mode th, AtWait s .scan .table (.setProcessing sb tb mode th) →
             e.chan .scan = Chan.shift
               { s.chan .scan with
                 state := .running
                 sel :=
                   { shadingB := sb, toneB := tb, diffuse := decide (mode = 1), threshold := th } }
               s.page.geo) ∧
           ((s.chan .scan).state ≠ .waiting .table → e.chan .scan = s.chan .scan))) ∧
      (∀ d, d ≠ .scan → e.chan d = s.chan d) ∧
      e = { s.releasePort with scan := e.scan, recUnit := e.recUnit, chans := e.chans }) ∧
  (∀ (s : State) (l : Load) (a n : Nat) (b : Bool), s.recUnit.work = some (.load l) →
    s.port.busy = some (.tableBurst a n) → l.table = .tone b →
    ∃ e, exec .scanTableBurstEnd s = .next (State.settle e) ∧
      (let es := s.burstData (.tableBurst a n)
       let old := if b then s.scan.toneB else s.scan.toneA
       let new := old.take (l.first + l.got) ++ es.map (min 255) ++
         old.drop (l.first + l.got + es.length)
       let clamped := l.clamped + (es.filter fun v => 255 < v).length
       e.scan = (if b then { s.scan with toneB := new } else { s.scan with toneA := new }) ∧
       (l.got + es.length < l.count →
         e.recUnit.work = some (.load { l with got := l.got + es.length, clamped }) ∧
           e.chans = s.chans) ∧
       (l.count ≤ l.got + es.length →
         e.recUnit = (s.complete .done [l.got + es.length, clamped]).recUnit ∧
           (∀ sb tb mode th, AtWait s .scan .table (.setProcessing sb tb mode th) →
             e.chan .scan = Chan.shift
               { s.chan .scan with
                 state := .running
                 sel :=
                   { shadingB := sb, toneB := tb, diffuse := decide (mode = 1), threshold := th } }
               s.page.geo) ∧
           ((s.chan .scan).state ≠ .waiting .table → e.chan .scan = s.chan .scan))) ∧
      (∀ d, d ≠ .scan → e.chan d = s.chan d) ∧
      e = { s.releasePort with scan := e.scan, recUnit := e.recUnit, chans := e.chans }) ∧
  ∀ (s : State) (l : Load) (a n : Nat), s.recUnit.work = some (.load l) →
    s.port.busy = some (.tableBurst a n) → l.table = .strobe →
    ∃ e, exec .strobeLoadEnd s = .next (State.settle e) ∧
      (let es := s.burstData (.tableBurst a n)
       e.print = { s.print with
         strobe := s.print.strobe.take l.first ++ es.map (fun v => max 50 (min 4000 v)) ++
           s.print.strobe.drop (l.first + es.length) } ∧
       e.recUnit =
         (s.complete .done
           [es.length, (es.filter fun v => max 50 (min 4000 v) ≠ v).length]).recUnit) ∧
      e = { s.releasePort with print := e.print, recUnit := e.recUnit }) ∧
  ((∀ (s : State) (l : Load) (a n : Nat) (r : Fin 4), s.recUnit.work = some (.load l) →
    s.port.busy = some (.tableBurst a n) → l.table = .ramp r →
    let ws := s.burstData (.tableBurst a n)
    let t := ws.map (fun v => max 25 (min 32767 v))
    (∀ i, firstRise 0 t = some i →
      exec .rampLoadEnd s = .next (State.settle (s.releasePort.complete .tableInvalid [i]))) ∧
    (firstRise 0 t = none →
      ∃ e, exec .rampLoadEnd s = .next (State.settle e) ∧
        e.ramp r = t ∧ (∀ q, q ≠ r → e.ramp q = s.ramp q) ∧
        (∀ m, ∀ x : Link, (s.motor m).link = some x → m ≠ .m2 →
          (x.ramp = r →
            ∃ y : Link, (e.motor m).link = some y ∧ y.spl = x.spl ∧ y.ramp = r ∧
              y.top = min x.top (t.length - 1) ∧
              y.kLine = if m = .m0 then lineCap t x.spl s.scan.tLine else x.kLine) ∧
          (x.ramp ≠ r → (e.motor m).link = some x)) ∧
        (∀ m, e.motor m = { s.motor m with link := (e.motor m).link }) ∧
        e.motors = { s.motors with
          m0 := e.motors.m0, m1 := e.motors.m1, ramps := e.motors.ramps } ∧
        e.print.queue.length = s.print.queue.length ∧
        (∀ (i : Nat) (c d : Copy), s.print.queue[i]? = some c → e.print.queue[i]? = some d →
          d = { c with cap := d.cap } ∧ (c.ended = true → d = c) ∧
            (∀ x : Link, s.motors.m1.link = some x → x.ramp = r → c.ended = false →
              d.cap = capOf t x.spl c.burn) ∧
            ((∀ x : Link, s.motors.m1.link = some x → x.ramp ≠ r) → d = c)) ∧
        e.recUnit =
          (s.complete .done
            [t.length, (ws.filter fun v => max 25 (min 32767 v) ≠ v).length]).recUnit ∧
        e = { s.releasePort with
          motors := e.motors
          print := { s.print with queue := e.print.queue }
          recUnit := e.recUnit })) ∧
  (∀ (t : List Nat) (i : Nat), firstRise 0 t = some i →
    1 ≤ i ∧ t.getD (i - 1) 0 < t.getD i 0 ∧ i < t.length ∧
      ∀ j, 1 ≤ j → j < i → t.getD j 0 ≤ t.getD (j - 1) 0) ∧
  (∀ t : List Nat, firstRise 0 t = none →
    ∀ j, 1 ≤ j → j < t.length → t.getD j 0 ≤ t.getD (j - 1) 0) ∧
  ∀ (s : State) (l : Load) (a n : Nat) (m : MotorId), s.recUnit.work = some (.load l) →
    s.port.busy = some (.tableBurst a n) → l.table = .phase m →
    let ws := s.burstData (.tableBurst a n)
    let ps := ws.map (BitVec.ofNat 4)
    exec .phaseLoadEnd s =
      .next (State.settle
        ((s.releasePort.setMotor m
          { s.motor m with
            phaseTable := if ws.length = 4 then ps ++ ps else ps
            phaseLen := ws.length
            phase := (s.motor m).phase % ws.length }).complete .done
              [ws.length, (ws.filter fun v => v % 16 ≠ v).length])))

/-- HEAD CLASS (04 R91), EVENT PRIORITY (07 R145), EVENT THRESHOLD (07 R147): the value held to 0..7 is in
force and in the completion; priority 0 withdraws the pending entry. -/
def Obligations.ClassPriorityAndThresholdAreSet : Prop :=
  ∀ (s : State) (bs : List Byte),
    (InHand s 9 bs →
      exec .headClass s =
        .next (State.settle
          ({ s with print := { s.print with headClass := min 7 (wordAt bs 4) } }.complete .done
            [min 7 (wordAt bs 4), s.print.strobe.getD (min 7 (wordAt bs 4)) 0]))) ∧
    (InHand s 13 bs →
      (23 < wordAt bs 4 →
        exec .eventPriority s = .next (State.settle (s.refuse .badTarget))) ∧
      ∀ i : Fin 24, wordAt bs 4 = i.val →
        exec .eventPriority s =
          .next (State.settle
            ((s.setSource i
              { priority := min 7 (wordAt bs 6)
                entry := if wordAt bs 6 = 0 then none else (s.source i).entry }).complete .done
                [min 7 (wordAt bs 6)]))) ∧
    (InHand s 14 bs →
      exec .eventThreshold s =
        .next (State.settle
          ({ s with sensor := { s.sensor with threshold := min 7 (wordAt bs 4) } }.complete .done
            [min 7 (wordAt bs 4)])))

/-- PAGE RELEASE (01 R20, R17, R8): its references refused in order; release pending; a COMPLETE page
without readers is EMPTY at once, its bands at the tail of the free list in chain order, with no line used (01 R2),
its generation kept, and the band-pool condition follows (01 R19); a writer that waits for the slot keeps its place
(it is handed the slot by SLOT_HANDED, O43). -/
def Obligations.PageReleaseReturnsBands : Prop :=
  ∀ (s : State) (bs : List Byte), InHand s 11 bs →
    (15 < wordAt bs 4 → exec .pageRelease s = .next (State.settle (s.refuse .badTarget))) ∧
    ∀ i : Fin 16, wordAt bs 4 = i.val →
      ((s.slot i).state = .empty →
        exec .pageRelease s = .next (State.settle (s.refuse .pageState))) ∧
      ((s.slot i).state ≠ .empty → (s.slot i).gen ≠ wordAt bs 6 →
        exec .pageRelease s =
          .next (State.settle
            ({ s with page := { s.page with staleRef := true } }.refuse .stalePage))) ∧
      ((s.slot i).state ≠ .empty → (s.slot i).gen = wordAt bs 6 →
        ((s.slot i).state = .filling ∨ (s.slot i).readers ≠ 0 →
          exec .pageRelease s =
            .next (State.settle
              ((s.setSlot i { s.slot i with release := true }).complete .done
                [(s.slot i).state.code, 0]))) ∧
        ((s.slot i).state = .complete → (s.slot i).readers = 0 →
          ∃ e, exec .pageRelease s = .next (State.settle e) ∧
            e.slot i = { Page.reset with gen := (s.slot i).gen } ∧
            (∀ j, j ≠ i → e.slot j = s.slot j) ∧
            e.page.free = s.page.free ++ (s.slot i).chain ∧ e.page.r = s.page.r ∧
            e.page.returned = s.page.returned + BitVec.ofNat 16 (s.slot i).chain.length ∧
            e.page.taken = s.page.taken ∧ e.page.geo = s.page.geo ∧
            e.page.slotWait = s.page.slotWait ∧ e.page.lowMark = s.page.lowMark ∧
            (∀ b, b ∈ (s.slot i).chain → e.bandUsed b = 0) ∧
            (∀ b, b ∉ (s.slot i).chain → e.bandUsed b = s.bandUsed b) ∧ PoolTested s e ∧
            e.recUnit =
              (s.complete .done [PageState.empty.code, (s.slot i).chain.length]).recUnit ∧
            e = { s with page := e.page, sensor := e.sensor, recUnit := e.recUnit }))

/-! ## Sensor lines and events (07), power save (08) -/

/-- SENSOR CONFIG (07 R143): the gateway's configuration is replaced, its run count 0, its filtered level
and the pending entry of its source kept, armed set under a level mode; the line's occurrence (07 R140; what it does
is in `SamplesLevelsAndOccurrences`) follows when the line is active under the new mode and was disarmed or not
active under the old one; the completion carries the level. -/
def Obligations.SensorConfigReplacesAGateway : Prop :=
  (∀ (s : State) (bs : List Byte) (g : Fin 16) (mode : GateMode), InHand s 12 bs → wordAt bs 4 = g.val →
    gateModeOf (wordAt bs 6) = some mode →
    exec .sensorConfig s =
      .next (State.settle
        ((s.configGate g
          { mode
            debounce := max 1 (min 15 (wordAt bs 8))
            haltSet := BitVec.ofNat 3 (wordAt bs 10)
            haltMode := if bitOf (wordAt bs 10) 8 then .immediate else .ramp
            pauseSet := BitVec.ofNat 4 (wordAt bs 12)
            wake := bitOf (wordAt bs 14) 0 }).complete .done [flag (s.gate g).high 1]))) ∧
  (∀ (s : State) (g : Fin 16) (cfg : GateCfg),
    let x := s.gate g
    let active := fun m : GateMode =>
      m = .levelHigh ∧ x.high = true ∨ m = .levelLow ∧ x.high = false
    let u := s.setGate g
      { x with
        cfg
        run := 0
        armed := x.armed || cfg.mode == .levelHigh || cfg.mode == .levelLow }
    (active cfg.mode → x.armed = false ∨ ¬active x.cfg.mode →
      s.configGate g cfg = u.occur g .active) ∧
    (¬active cfg.mode ∨ (x.armed = true ∧ active x.cfg.mode) → s.configGate g cfg = u)) ∧
  ∀ (s : State) (bs : List Byte), InHand s 12 bs →
    (15 < wordAt bs 4 → exec .sensorConfig s = .next (State.settle (s.refuse .badTarget))) ∧
    ∀ g : Fin 16, wordAt bs 4 = g.val →
      (4 < wordAt bs 6 → exec .sensorConfig s = .next (State.settle (s.refuse .badRange))) ∧
      ∀ mode, gateModeOf (wordAt bs 6) = some mode →
        ∃ t, exec .sensorConfig s = .next t ∧
          (t.gate g).cfg.mode = mode ∧
          (t.gate g).cfg.debounce = max 1 (min 15 (wordAt bs 8)) ∧
          (t.gate g).cfg.haltSet = BitVec.ofNat 3 (wordAt bs 10) ∧
          ((t.gate g).cfg.haltMode = .immediate ↔ bitOf (wordAt bs 10) 8 = true) ∧
          (t.gate g).cfg.pauseSet = BitVec.ofNat 4 (wordAt bs 12) ∧
          (t.gate g).cfg.wake = bitOf (wordAt bs 14) 0 ∧
          (t.gate g).run = 0 ∧ (t.gate g).high = (s.gate g).high ∧
          (∀ h, h ≠ g → (t.gate h).cfg = (s.gate h).cfg ∧ (t.gate h).high = (s.gate h).high ∧
            (t.gate h).run = (s.gate h).run) ∧
          t.recUnit.completion =
            some { kind := 12, tag := cmdTag bs, code := .done
                   result := [flag (s.gate g).high 1] } ∧
          (∀ i, (t.source i).priority = (s.source i).priority) ∧
          t.sensor.threshold = s.sensor.threshold ∧ t.eeprom = s.eeprom ∧ t.boot = s.boot

/-- SENSOR_SAMPLE (07 R137, R150): run counts, and in the same event the changes of filtered levels, what each is
to its writers (02 R40) and to its gateway (07 R139, R140). DEBOUNCE_LEVEL_CHANGE is the sample of one line alone
that changes its level (log 16). The trailing-edge event (02 R40, 06 R131): of the begun LINES entry whose option
names the line and its new level, once. In SLEEP the groups alone are sampled, once the entry has come to sleep
sampling (08 R160). An occurrence (07 R141, R142): its halts, with the path of a RAMP halt and the HOLD and event
of an IMMEDIATE one (06 R133, R128), its pause requests (02 R53), then its raise with the filtered level, then
the wake of a sleeping part by a wake-enabled line (08 R163). The order of lines within a sample is log 52, the
trailing edge before the occurrence log 53. That a part whose SLEEP entry still waits for the grant in progress
(port mode `entering`) samples every line, and is woken as a sleeping one, is the model's choice (log 57). That a
RAMP halt of a motor that still runs out an earlier one's path takes that path over, with its cause, is log 65.
-/
def Obligations.SamplesLevelsAndOccurrences : Prop :=
  (∀ (s : State) (ch : Channel) (g : Fin 16) (high : Bool),
    let named := fun o : EdgeOption =>
      (∃ a n b, (s.chan ch).current = some { addr := a, entry := .lines n (some o) b }) ∧
        (s.chan ch).phase = .begun ∧ (s.chan ch).edge = none ∧ o.line = g ∧ o.high = high
    (∀ o, named o →
      s.edgeEvent ch g high = s.setChan ch
        { s.chan ch with
          edge := some 0
          remaining := if ch = .scan then max o.tail s.committedLines else o.tail }) ∧
    ((∀ o, ¬named o) → s.edgeEvent ch g high = s)) ∧
  (∀ s : State,
    (∀ l j, (s.motor .m0).link = some l → (s.motor .m0).committed = some j →
      s.committedLines = ((s.motor .m0).group + j + 1) / l.spl) ∧
    ((s.motor .m0).link = none ∨ (s.motor .m0).committed = none → s.committedLines = 0)) ∧
  ((∀ (s : State) (g : Fin 16), s.sampled g = true ↔
    s.power.state ≠ .sleep ∨ s.port.mode = .entering ∨ s.sensor.groups.getLsbD (g.val / 4) = true) ∧
  (∀ (s : State) (lines : BitVec 16), s.sensor.sampling = true →
    ∃ t, exec (.sensorSample lines) s = .next t ∧
      (∀ g : Fin 16, (t.gate g).cfg = (s.gate g).cfg ∧
        (s.sampled g = false →
          (t.gate g).high = (s.gate g).high ∧ (t.gate g).run = (s.gate g).run) ∧
        (s.sampled g = true → lines.getLsbD g.val = (s.gate g).high →
          (t.gate g).high = (s.gate g).high ∧ (t.gate g).run = 0) ∧
        (s.sampled g = true → lines.getLsbD g.val ≠ (s.gate g).high →
          ((s.gate g).run + 1 < (s.gate g).cfg.debounce →
            (t.gate g).high = (s.gate g).high ∧ (t.gate g).run = (s.gate g).run + 1) ∧
          ((s.gate g).cfg.debounce ≤ (s.gate g).run + 1 →
            (t.gate g).high = lines.getLsbD g.val ∧ (t.gate g).run = 0))) ∧
      (∀ i, (t.source i).priority = (s.source i).priority) ∧
      t.sensor.threshold = s.sensor.threshold ∧ t.eeprom = s.eeprom ∧ t.boot = s.boot ∧
      t.recUnit.completion = s.recUnit.completion) ∧
  (∀ (s : State) (lines : BitVec 16), s.sensor.sampling = true →
    (∀ g : Fin 16, s.sampled g = true → lines.getLsbD g.val ≠ (s.gate g).high →
      (s.gate g).run + 1 < (s.gate g).cfg.debounce) →
    ∃ e, exec (.sensorSample lines) s = .next (State.settle e) ∧
      e = { s with sensor := { s.sensor with gates := e.sensor.gates } }) ∧
  (∀ (s : State) (lines : BitVec 16) (g : Fin 16), s.sensor.sampling = true →
    s.sampled g = true → lines.getLsbD g.val ≠ (s.gate g).high →
    (s.gate g).cfg.debounce ≤ (s.gate g).run + 1 →
    (∀ h, h ≠ g → s.sampled h = true → lines.getLsbD h.val = (s.gate h).high ∧ (s.gate h).run = 0) →
    exec (.sensorSample lines) s = .next (State.settle (s.changeLevel g)) ∧
      exec (.debounceLevelChange g) s = .next (State.settle (s.changeLevel g))) ∧
  (∀ (s : State) (g : Fin 16), s.sensor.sampling = true → s.sampled g = true →
    (s.gate g).cfg.debounce ≤ (s.gate g).run + 1 →
    ∃ t, exec (.debounceLevelChange g) s = .next t ∧
      (t.gate g).high = !(s.gate g).high ∧ (t.gate g).run = 0 ∧ (t.gate g).cfg = (s.gate g).cfg ∧
      (∀ h, h ≠ g → (t.gate h).cfg = (s.gate h).cfg ∧ (t.gate h).high = (s.gate h).high ∧
        (t.gate h).run = (s.gate h).run) ∧
      (∀ i, (t.source i).priority = (s.source i).priority) ∧
      t.sensor.threshold = s.sensor.threshold ∧ t.eeprom = s.eeprom ∧ t.boot = s.boot ∧
      t.recUnit.completion = s.recUnit.completion) ∧
  (∀ (s : State) (g : Fin 16),
    s.changeLevel g =
      (((s.setGate g { s.gate g with high := !(s.gate g).high, run := 0 }).edgeEvent .scan g
        (!(s.gate g).high)).edgeEvent .codeIn g (!(s.gate g).high)).levelChanged g) ∧
  ∀ (s : State) (g : Fin 16),
    ((s.gate g).cfg.mode = .edgeRise →
      s.levelChanged g = if (s.gate g).high then s.occur g .rise else s) ∧
    ((s.gate g).cfg.mode = .edgeFall →
      s.levelChanged g = if (s.gate g).high then s else s.occur g .fall) ∧
    ((s.gate g).cfg.mode = .edgeBoth →
      s.levelChanged g = s.occur g (if (s.gate g).high then .rise else .fall)) ∧
    ((s.gate g).cfg.mode = .levelHigh ∧ (s.gate g).high = true ∨
        (s.gate g).cfg.mode = .levelLow ∧ (s.gate g).high = false →
      s.levelChanged g = if (s.gate g).armed then s.occur g .active else s) ∧
    ((s.gate g).cfg.mode = .levelHigh ∧ (s.gate g).high = false ∨
        (s.gate g).cfg.mode = .levelLow ∧ (s.gate g).high = true →
      ((s.levelChanged g).gate g).armed = true ∧
        (∀ e, (s.source (lineSource g)).entry = some e → e.kind = .active →
          ((s.levelChanged g).source (lineSource g)).entry = none) ∧
        (∀ e, (s.source (lineSource g)).entry = some e → e.kind ≠ .active →
          ((s.levelChanged g).source (lineSource g)).entry = some e))) ∧
  (∀ (s : State) (g : Fin 16) (kind : EventKind),
    let c := (s.gate g).cfg
    let e := s.occur g kind
    let paused := fun ch : Channel => c.pauseSet.getLsbD (chanNumber ch) = true ∧
      (s.chan ch).state ≠ .idle ∧ (s.chan ch).state ≠ .paused ∧ (s.chan ch).pauseReq = none ∧
      s.finalPending ch = false
    (∀ m : MotorId, c.haltSet.getLsbD (motorNumber m) = true →
      let x := s.motor m
      let h : Halt := { mode := c.haltMode, cause := .line g }
      let h' :=
        match x.halted with
        | none => h
        | some old => if old.mode = .ramp ∧ h.mode = .immediate then h else old
      (e.motor m).halted = some h' ∧
      (x.moving = false →
        e.motor m = { x with halted := some h', budget := (e.motor m).budget } ∧
          (c.pauseSet = 0 → (e.motor m).budget = x.budget)) ∧
      (∀ j, x.moving = true → x.committed = some j → c.haltMode = .ramp →
        e.motor m = { x with
          halted := some h'
          rampPath := some h'.cause
          budget := some (x.budget.elim (j + 1) fun b => min (j + 1) b)
          remaining := min x.remaining (j + 1) }) ∧
      (x.moving = true → c.haltMode = .immediate →
        (e.motor m).moving = false ∧ (e.motor m).k = none ∧ (e.motor m).committed = none ∧
        (e.motor m).move = none ∧ (e.motor m).remaining = 0 ∧
        (e.motor m).position = x.position ∧ (e.motor m).phase = x.phase ∧
        (e.motor m).link = x.link ∧ (e.motor m).group = x.group ∧
        (e.motor m).rampPath = none ∧ (e.motor m).timerRelease = x.autoRelease ∧
        (e.motor m).state = (if x.holdTime = 0 ∧ x.autoRelease = true then .off else .hold) ∧
        (e.motor m).holdTimer = (if x.holdTime = 0 then none else some (x.holdTime * 10)) ∧
        (e.motor m).due = none ∧ (e.motor m).heldStep = false ∧ (e.motor m).dark = false ∧
        ((e.motor m).budget = none ∨ (e.motor m).budget = some 0) ∧
        e.source (motorSource m) =
          (s.raise (motorSource m) .halted (.motor x.position (.halt h'.cause))).source
            (motorSource m))) ∧
    (∀ m : MotorId, c.haltSet.getLsbD (motorNumber m) = false →
      e.motor m = { s.motor m with budget := (e.motor m).budget } ∧
      ((∀ ch, motorFor ch = some m → ¬paused ch) → e.motor m = s.motor m) ∧
      (∀ ch, motorFor ch = some m → paused ch → (s.motor m).link.isSome = true →
        let b := (s.motor m).committed.elim 0 fun j => j + 1
        (e.motor m).budget = some ((s.motor m).budget.elim b (min b)))) ∧
    e.motors.haltedByAction = (s.motors.haltedByAction || c.haltSet != 0) ∧
    e.motors.halts =
      s.motors.halts +
        BitVec.ofNat 16
          ((allMotors.filter fun m =>
            c.haltSet.getLsbD (motorNumber m) && c.haltMode == .immediate &&
              (s.motor m).moving).length) ∧
    e.motors.ramps = s.motors.ramps ∧ e.motors.steps = s.motors.steps ∧
    (∀ ch,
      (paused ch → e.chan ch = { s.chan ch with pauseReq := some (.pause (.line g)) }) ∧
      (¬paused ch → e.chan ch = s.chan ch)) ∧
    e.source (lineSource g) =
      (s.raise (lineSource g) kind (.level (s.gate g).high)).source (lineSource g) ∧
    (∀ i, i ≠ lineSource g →
      (∀ m, i = motorSource m → c.haltSet.getLsbD (motorNumber m) = false ∨
        (s.motor m).moving = false ∨ c.haltMode = .ramp) → e.source i = s.source i) ∧
    (∀ h, e.gate h = s.gate h) ∧ e.sensor.threshold = s.sensor.threshold ∧
    e.sensor.sampling = s.sensor.sampling ∧ e.sensor.posted = s.sensor.posted ∧
    (s.power.state ≠ .sleep ∨ c.wake = false →
      e.power = s.power ∧ e.port = s.port ∧ e.sensor.groups = s.sensor.groups) ∧
    (s.power.state = .sleep → c.wake = true →
      e.power = { s.power with state := .wake, wakeCause := some (.line g), sleepTimer := none } ∧
        e.port = { s.port with mode := .leaving } ∧ e.sensor.groups = 0) ∧
    (c.haltSet = 0 → c.pauseSet = 0 → s.power.state ≠ .sleep ∨ c.wake = false →
      e = s.raise (lineSource g) kind (.level (s.gate g).high)) ∧
    e = { s with
      motors := e.motors, chans := e.chans, sensor := e.sensor, power := e.power
      port := e.port })

/-- POWER with its three targets (08 R155): the table of the power states, and a completion that carries
the state just after acceptance. That each of the three rows refuses an unknown target is the model's choice
(log 25). -/
def Obligations.PowerTargetsFollowTheTable : Prop :=
  ∀ (s : State) (bs : List Byte), InHand s 15 bs →
    (wordAt bs 4 = 0 →
      (s.power.state = .drain →
        exec .powerRun s =
          .next (State.settle
            ({ s with power :=
                { s.power with state := .run, target := none, drainTimer := none } }.complete .done
              [PowerState.run.code]))) ∧
      (s.power.state = .doze →
        exec .powerRun s =
          .next (State.settle
            (({ s with power := { s.power with state := .run } }.raise 22 .resumed
              (.word 15)).complete .done [PowerState.run.code]))) ∧
      (s.power.state ≠ .drain → s.power.state ≠ .doze →
        exec .powerRun s =
          .next (State.settle (s.complete .done [s.power.state.code])))) ∧
    (wordAt bs 4 = 2 →
      (s.power.state = .doze →
        exec .powerDoze s = .next (State.settle (s.complete .done [PowerState.doze.code]))) ∧
      (s.power.state ≠ .doze →
        exec .powerDoze s =
          .next (State.settle
            ({ s with power :=
                { s.power with
                  state := .drain
                  target := some .doze
                  drainTimer := some (s.power.drainLimit * 10) } }.complete .done
              [PowerState.drain.code])))) ∧
    (wordAt bs 4 = 3 →
      exec .powerSleep s =
        .next (State.settle
          ({ s with power :=
              { s.power with
                state := .drain
                target := some .sleep
                sleepTime := wordAt bs 6
                drainTimer := some (s.power.drainLimit * 10) } }.complete .done
            [PowerState.drain.code]))) ∧
    (wordAt bs 4 = 1 ∨ 3 < wordAt bs 4 →
      exec .powerRun s = .next (State.settle (s.refuse .badRange)) ∧
        exec .powerDoze s = .next (State.settle (s.refuse .badRange)) ∧
          exec .powerSleep s = .next (State.settle (s.refuse .badRange)))

/-- The entry conditions of DOZE and SLEEP by their numbers, DRAIN_TIMER_EXPIRY, DOZE_ENTRY (its data is the
operand, log 12) and SLEEP_ENTRY (08 R157, R158, R160): its step 1 and the stop of refresh at once, its steps 2
to 5 when the grant in progress has ended. SLEEP_TIMER_EXPIRY and SELF_REFRESH_EXIT_END (08 R162, R163): a host
cycle held in SLEEP is passed to the arbiter or answered (01 R24; that it is judged only now is log 28), and the
event unit asks for no slot until it and the index words that waited have been served. -/
def Obligations.DrainsEndAndTheSleeperWakes : Prop :=
  (conditionsOf .doze = [1, 2, 3] ∧ conditionsOf .sleep = [1, 2, 3, 4, 5, 6] ∧
    ∀ s : State,
      (s.entryCondition 1 = true ↔ ∀ ch, (s.chan ch).state = .idle) ∧
      (s.entryCondition 2 = true ↔ ∀ m, (s.motor m).moving = false) ∧
      (s.entryCondition 3 = true ↔ s.coder.send = .idle ∧ s.coder.recv = .idle) ∧
      (s.entryCondition 4 = true ↔ s.boot.store = none) ∧
      (s.entryCondition 5 = true ↔ s.recUnit.consumer = s.host.producer ∧
        (s.recUnit.state = .waiting ∨ s.recUnit.state = .advancing) ∧
          s.recUnit.completion = none) ∧
      (s.entryCondition 6 = true ↔
        ∀ i, (s.source i).entry.isSome = true → (s.source i).priority ≤ s.sensor.threshold)) ∧
  (∀ s : State,
    (s.unmet .doze = none ↔
      (∀ ch, (s.chan ch).state = .idle) ∧ (∀ m, (s.motor m).moving = false) ∧
        s.coder.send = .idle ∧ s.coder.recv = .idle) ∧
    (s.unmet .sleep = none ↔
      s.unmet .doze = none ∧ s.boot.store = none ∧
        (s.recUnit.consumer = s.host.producer ∧
          (s.recUnit.state = .waiting ∨ s.recUnit.state = .advancing) ∧
            s.recUnit.completion = none) ∧
        ∀ i, (s.source i).entry.isSome = true → (s.source i).priority ≤ s.sensor.threshold) ∧
    (∀ (t : Quiet) (n : Nat), s.unmet t = some n →
      n ∈ conditionsOf t ∧ s.entryCondition n = false ∧
        ∀ k, k ∈ conditionsOf t → k < n → s.entryCondition k = true)) ∧
  ((∀ (s : State) (t : Quiet) (n : Nat), s.power.state = .drain → s.power.target = some t →
    s.power.drainTimer.isSome = true → s.unmet t = some n →
    exec .drainTimerExpiry s =
      .next (State.settle
        ({ s with power :=
            { s.power with
              state := .run
              target := none
              drainTimer := none
              abandoned := s.power.abandoned + 1 } }.raise 22 .abandoned
          (.abandoned (t == Quiet.sleep) n)))) ∧
  (∀ (s : State) (time : Nat), s.power.state = .drain → s.power.target = some .doze →
    s.unmet .doze = none → time ≤ 255 →
    exec (.dozeEntry time) s =
      .next (State.settle
        ({ s with power :=
            { s.power with state := .doze, target := none, drainTimer := none } }.raise 22 .doze
          (.word time)))) ∧
  (∀ s : State, s.power.state = .drain → s.power.target = some .sleep → s.unmet .sleep = none →
    ∃ e : State, exec .sleepEntry s = .next (State.settle e.afterGrant) ∧
      (∀ m, e.motor m =
        if (s.motor m).state = .hold then { s.motor m with state := .off, holdTimer := none }
        else s.motor m) ∧
      e.motors = { s.motors with
        m0 := e.motors.m0, m1 := e.motors.m1, m2 := e.motors.m2 } ∧
      e.port = { s.port with mode := .entering, refreshDue := false } ∧
      e.power = { s.power with
        state := .sleep
        target := none
        drainTimer := none
        sleeps := s.power.sleeps + 1 } ∧
      e = { s with motors := e.motors, port := e.port, power := e.power }) ∧
  ∀ s : State,
    (s.port.mode ≠ .entering ∨ s.port.busy.isSome = true ∨ s.port.suspended.isSome = true →
      s.afterGrant = s) ∧
    (s.port.mode = .entering → s.port.busy = none → s.port.suspended = none →
      s.afterGrant.port = { s.port with mode := .selfRefresh } ∧
        s.afterGrant.power = { s.power with
          hclken := false
          sleepTimer := if s.power.sleepTime = 0 then none else some s.power.sleepTime } ∧
        (∀ n : Fin 4, s.afterGrant.sensor.groups.getLsbD n.val = true ↔
          ∃ g : Fin 16, g.val / 4 = n.val ∧ (s.gate g).cfg.wake = true) ∧
        s.afterGrant = { s with
          port := s.afterGrant.port
          power := s.afterGrant.power
          sensor := { s.sensor with groups := s.afterGrant.sensor.groups } })) ∧
  (∀ s : State, s.power.state = .sleep → s.power.sleepTimer.isSome = true →
    exec .sleepTimerExpiry s =
      .next (State.settle
        { s with
          power := { s.power with state := .wake, wakeCause := some .timer, sleepTimer := none }
          port := { s.port with mode := .leaving }
          sensor := { s.sensor with groups := 0 } })) ∧
  (∀ s : State, s.power.state = .wake → s.port.mode = .leaving →
    ∃ u : State,
      exec .selfRefreshExitEnd s =
        .next (State.settle
          (u.raise 22 .wake
            (.word
              (match s.power.wakeCause with
                | some (.line g) => g.val
                | some .timer => 0xFFFF
                | none => 0xFFFF)))) ∧
      u.host = ({ s with port := { s.port with mode := .running } }.judgeCycle).host ∧
      (u.port.backlog = true ↔
        (∃ c, u.host.cycle = some c ∧ c.asked = true) ∨ s.recUnit.producerAsk = true ∨
          s.recUnit.state = .advancing) ∧
      u = { s with
        host := u.host
        port := { s.port with mode := .running, backlog := u.port.backlog }
        power := { s.power with state := .run, hclken := true } }) ∧
  ∀ s : State,
    (s.host.cycle = none ∨ s.port.mode ≠ .running → s.judgeCycle = s) ∧
    ∀ c, s.host.cycle = some c →
      (c.asked = true → s.judgeCycle = s) ∧
      (c.asked = false → s.port.mode = .running →
        (s.page.geo.dramSize ≤ c.addr →
          s.judgeCycle = { s with host := { s.host with
            cycle := none
            unmapped := true
            noGrant := s.host.noGrant + 1
            data := if c.write.isNone then 0xFFFF else s.host.data } }) ∧
        (c.addr < s.page.geo.dramSize →
          (s.page.geo.guard = true → s.page.geo.inBands c.addr = true → c.write.isSome = true →
            s.judgeCycle = { s with host := { s.host with
              cycle := none, guardDrop := true, noGrant := s.host.noGrant + 1 } }) ∧
          (s.page.geo.guard = false ∨ s.page.geo.inBands c.addr = false ∨ c.write = none →
            s.judgeCycle = { s with host := { s.host with
              cycle := some { c with asked := true } } })))

/-! ## What follows within every step (95) -/

/-- What the channels ask for within every step, when it has had its own effect (95_what_each_step_holds.md). A
reader in a begun LINES entry asks for its next line (02 R41; Print when the queue has room for the copies, 04
R79; Code-out when its last frame has been taken, 05 R100): it is read, or waited for in WAIT_LINES, or the entry
ends with READ SHORT. Code-in asks for the slot of its next line (05 R102; 01 R9, R11): it is held, or waited for
in WAIT_SPACE, or the entry ends with PAGE LIMIT; READY while a line is held. A writer's entry with none
remaining ends (02 R39), and at once one that begins behind it with none (02 R40, 05 R102). WAIT_MOTOR (02 R56),
WAIT_REPORT, for a notice behind one in writing too (02 R28, R33), WAIT_DEVICE until the frame begins (05 R100;
that CTXR is seen at the beginning alone is log 13), and the next command (10 R182). The order in which these
follow within a step is log 43; that an entry that becomes current while its halted motor still runs out a RAMP
halt's path enters WAIT_MOTOR only at its rest is log 59. -/
def Obligations.ChannelsAskForTheirLines : Prop :=
  ((∀ (s : State) (ch : Channel) (p : PageRef) (a count burst : Nat) (edge : Option EdgeOption),
    isWriter ch = false → (s.chan ch).openPage = some p → (s.chan ch).phase = .begun →
    (s.chan ch).current = some { addr := a, entry := .lines count edge burst } →
    let c := s.chan ch
    let t := if ch = .print then s.askPrint else s.askCodeOut
    let asks := c.state = .running ∧ c.pauseReq = none ∧ c.notices = [] ∧ c.reading = false ∧
      0 < c.remaining ∧
      (ch = .print → s.print.queue.length + (c.scaleAcc + c.scale) / 256 ≤ 16) ∧
      (ch = .codeOut → s.coder.sendBuf = none ∧ s.coder.send = .idle)
    (¬asks → t = s) ∧
    (asks →
      (c.position ≤ (s.slot p.slot).stored → (s.slot p.slot).freed < c.position →
        t = { s.setChan ch { c with reading := true } with
          print := { s.print with
            readRequest :=
              if ch = .print then some ((c.scaleAcc + c.scale) / 256)
              else s.print.readRequest } }) ∧
      ((s.slot p.slot).stored < c.position → (s.slot p.slot).state = .filling →
        t = s.setChan ch { c with state := .waiting .lines }) ∧
      (((s.slot p.slot).stored < c.position ∧ (s.slot p.slot).state ≠ .filling) ∨
          (c.position ≤ (s.slot p.slot).stored ∧ c.position ≤ (s.slot p.slot).freed) →
        t = s.setChan ch
          { c with
            phase := .ending
            notices := [{ body := .readShort (count - c.remaining) count, page := some p }] }))) ∧
  ∀ s : State,
    (s.chans.print.inLines = false ∨ s.chans.print.openPage = none → s.askPrint = s) ∧
    (s.chans.codeOut.inLines = false ∨ s.chans.codeOut.openPage = none → s.askCodeOut = s) ∧
    (s.chans.codeIn.inLines = false ∨ s.chans.codeIn.openPage = none → s.askCodeIn = s)) ∧
  (∀ (s : State) (p : PageRef), s.chans.codeIn.openPage = some p → s.chans.codeIn.inLines = true →
    let c := s.chans.codeIn
    let q := s.slot p.slot
    let asks := c.state = .running ∧ c.pauseReq = none ∧ c.notices = [] ∧ c.held = none ∧
      0 < c.remaining ∧ s.coder.recv = .idle
    (¬asks → s.askCodeIn = s) ∧
    (asks →
      (q.assigned = q.limit →
        s.askCodeIn = s.setChan .codeIn
          { c with
            phase := .ending
            notices := [{ body := .pageLimit q.limit, page := some p }] }) ∧
      (q.assigned ≠ q.limit → q.assigned % 64 = 0 → s.page.free.length ≤ s.page.r →
        s.askCodeIn = s.setChan .codeIn { c with state := .waiting .space }) ∧
      (q.assigned ≠ q.limit → (q.assigned % 64 ≠ 0 ∨ s.page.r < s.page.free.length) →
        s.askCodeIn.page = (s.assignLine p.slot false).1.page ∧
          s.askCodeIn.chan .codeIn = { c with
            remaining := c.remaining - 1
            edge := c.edge.map (· + 1)
            held := some (q.assigned + 1)
            limitDue := decide (1 < c.remaining ∧ q.assigned + 1 = q.limit) } ∧
          (∀ d, d ≠ .codeIn → s.askCodeIn.chan d = s.chan d) ∧
          s.askCodeIn = { s with
            page := s.askCodeIn.page
            chans := s.askCodeIn.chans
            sensor := s.askCodeIn.sensor }))) ∧
  (∀ s : State,
    let c := s.chans.codeIn
    let on := c.state = .running ∧ c.inLines = true ∧ c.pauseReq = none ∧ c.notices = [] ∧
      c.held.isSome = true ∧ s.coder.resetLow = false
    (s.coder.recv = .idle → on → s.setReady = { s with coder := { s.coder with recv := .ready } }) ∧
    (s.coder.recv = .ready → ¬on → s.setReady = { s with coder := { s.coder with recv := .idle } }) ∧
    ((s.coder.recv = .idle ∧ ¬on) ∨ (s.coder.recv = .ready ∧ on) ∨
        (s.coder.recv ≠ .idle ∧ s.coder.recv ≠ .ready) → s.setReady = s)) ∧
  ((∀ (s : State) (ch : Channel),
    let c := s.chan ch
    let ended := (c.state = .running ∨ c.state = .waiting .space ∨ c.state = .waiting .motor) ∧
      c.inLines = true ∧ c.remaining = 0 ∧ (ch = .codeIn → c.held = none)
    (ended → s.endIfDone ch = (s.setChan ch { c with state := .running }).endEntry ch) ∧
    (¬ended → s.endIfDone ch = s)) ∧
  (∀ (s : State) (ch : Channel),
    s.endOver ch = (s.endIfDone ch).endIfDone ch ∧
    let d := (s.endOver ch).chan ch
    ¬((d.state = .running ∨ d.state = .waiting .space ∨ d.state = .waiting .motor) ∧
      d.inLines = true ∧ d.remaining = 0 ∧ (ch = .codeIn → d.held = none))) ∧
  (∀ (s : State) (ch : Channel) (m : MotorId),
    let c := s.chan ch
    let stands := c.state = .running ∧ c.inLines = true ∧ c.notices = [] ∧
      (s.motor m).link.isSome = true ∧ (s.motor m).halted.isSome = true ∧
      (s.motor m).moving = false
    (stands → s.waitMotor ch m = s.setChan ch { c with state := .waiting .motor }) ∧
    (¬stands → s.waitMotor ch m = s)) ∧
  (∀ (s : State) (ch : Channel),
    let c := s.chan ch
    let stands := (c.state = .running ∨ c.state = .waiting .device) ∧ c.notices ≠ [] ∧
      (1 < c.notices.length ∨
        ∀ w, s.recUnit.writing = some w → w.who ≠ .notice ch true ∧ w.who ≠ .notice ch false)
    (stands → s.waitReport ch = s.setChan ch { c with state := .waiting .report }) ∧
    (¬stands → s.waitReport ch = s)) ∧
  (∀ s : State,
    let c := s.chans.codeOut
    (c.state = .running → s.coder.send = .offering → c.notices = [] →
      s.waitDevice = s.setChan .codeOut { c with state := .waiting .device }) ∧
    (c.state = .waiting .device → s.coder.send ≠ .offering →
      s.waitDevice = s.setChan .codeOut { c with state := .running }) ∧
    ((c.state ≠ .running ∧ c.state ≠ .waiting .device) ∨
        (c.state = .running ∧ (s.coder.send ≠ .offering ∨ c.notices ≠ [])) ∨
        (c.state = .waiting .device ∧ s.coder.send = .offering) → s.waitDevice = s)) ∧
  ∀ s : State,
    let reads := s.recUnit.state = .waiting ∧ s.boot.ready = .released ∧
      (s.power.state = .run ∨ s.power.state = .drain ∨ s.power.state = .doze) ∧
      s.recUnit.consumer ≠ s.host.producer
    (reads → s.fetchNext = { s with recUnit := { s.recUnit with state := .fetching } }) ∧
    (¬reads → s.fetchNext = s)) ∧
  ∀ s : State,
    s.settle = s.settleLines.settleMotors.settleReports.judgeCycle.arbitrate ∧
    (∃ u : State, u = ((((s.endOver .scan).endOver .codeIn).waitMotor .scan .m0).waitMotor
        .print .m1) ∧
      s.settleLines = u.askPrint.askCodeOut.askCodeIn.setReady) ∧
    s.settleMotors = ((s.restDecision .m0).restDecision .m1).restDecision .m2 ∧
    s.settleReports =
      (((((s.fetchNext.grantSlot).waitReport .scan).waitReport .print).waitReport .codeOut).waitReport
        .codeIn).waitDevice

/-! ## Status, flags and ENGINE RESET (10), the configuration store (09) -/

/-- STATUS QUERY and CLEAR FLAGS (10 R190, R192), and the table of R190: the state, the flags and the two
counters of each block, with the codes of the states and the places of the flags (11 sections 11.2, 11.4). -/
def Obligations.StatusIsReportedAndFlagsAreCleared : Prop :=
  (∀ (s : State) (bs : List Byte), InHand s 16 bs →
    (11 < wordAt bs 4 → exec .statusQuery s = .next (State.settle (s.refuse .badTarget))) ∧
    (wordAt bs 4 ≤ 11 →
      exec .statusQuery s =
        .next (State.settle
          (s.complete .done
            [wordAt bs 4 + 16 + 256 * (s.blockState (wordAt bs 4) % 256),
              s.blockFlags (wordAt bs 4), (s.blockCounters (wordAt bs 4)).1.toNat,
              (s.blockCounters (wordAt bs 4)).2.toNat])))) ∧
  (∀ (s : State) (bs : List Byte), InHand s 17 bs →
    (11 < wordAt bs 4 → exec .clearFlags s = .next (State.settle (s.refuse .badTarget))) ∧
    (wordAt bs 4 ≤ 11 →
      ∃ u : State, exec .clearFlags s =
          .next (State.settle (u.complete .done [u.blockFlags (wordAt bs 4)])) ∧
        (∀ i, bitOf (u.blockFlags (wordAt bs 4)) i =
          (bitOf (s.blockFlags (wordAt bs 4)) i && !bitOf (wordAt bs 6) i)) ∧
        (∀ b, b ≤ 11 → b ≠ wordAt bs 4 → u.blockFlags b = s.blockFlags b) ∧
        (∀ b, b ≤ 11 → u.blockState b = s.blockState b ∧ u.blockCounters b = s.blockCounters b) ∧
        u.mem = s.mem ∧ u.port = s.port ∧ u.eeprom = s.eeprom ∧ u.power = s.power ∧
        u.scan = s.scan ∧ u.print = s.print ∧ u.page = { s.page with staleRef := u.page.staleRef } ∧
        u.motors = { s.motors with haltedByAction := u.motors.haltedByAction } ∧
        u.sensor = { s.sensor with merged := u.sensor.merged } ∧
        u.recUnit = { s.recUnit with
          badKind := u.recUnit.badKind, badAddress := u.recUnit.badAddress
          stall := u.recUnit.stall } ∧
        u.coder = { s.coder with
          unsolicited := u.coder.unsolicited, frameError := u.coder.frameError
          badLines := u.coder.badLines } ∧
        u.boot = { s.boot with
          romBlank := u.boot.romBlank, romInvalid := u.boot.romInvalid
          romChecksum := u.boot.romChecksum, romSkipped := u.boot.romSkipped
          storeFail := u.boot.storeFail } ∧
        u.host = { s.host with
          unmapped := u.host.unmapped, guardDrop := u.host.guardDrop } ∧
        (∀ ch, u.chan ch = { s.chan ch with chainFault := (u.chan ch).chainFault }))) ∧
  (∀ s : State,
    s.blockState 0 =
      (s.recUnit.producer + s.page.geo.repSize - s.host.consumer) % s.page.geo.repSize ∧
    s.blockState 1 = s.page.free.length ∧
    (∀ ch, s.blockState (2 + chanNumber ch) = (s.chan ch).state.code) ∧
    s.blockState 6 =
      (s.motor .m0).state.code + 4 * (s.motor .m1).state.code + 16 * (s.motor .m2).state.code ∧
    s.blockState 7 = (ids24.filter fun i => (s.source i).entry.isSome).length ∧
    s.blockState 8 = s.coder.send.code + 4 * s.coder.recv.code ∧
    s.blockState 9 = s.power.state.code ∧ s.blockState 10 = s.boot.rom.code ∧
    s.blockState 11 = 0) ∧
  (ChState.idle.code = 0 ∧ ChState.running.code = 1 ∧ ChState.paused.code = 3 ∧
    (∀ w : Wait, (ChState.waiting w).code = 2 + 4 * w.code) ∧
    [Wait.slot, .space, .page, .complete, .lines, .gate, .motor, .table, .device, .report].map
      Wait.code = List.range 10 ∧
    [MotorState.off, .hold, .moving].map MotorState.code = [0, 1, 2] ∧
    [SendDir.idle, .offering, .sending].map SendDir.code = [0, 1, 2] ∧
    [RecvDir.idle, .ready, .receiving, .storing, .discard].map RecvDir.code = List.range 5 ∧
    [PowerState.run, .drain, .doze, .sleep, .wake].map PowerState.code = List.range 5 ∧
    [RomStatus.valid, .blank, .invalid, .checksum, .skipped].map RomStatus.code = List.range 5) ∧
  (∀ s : State,
    let bit := fun (b : Bool) (n : Nat) => if b then n else 0
    s.blockFlags 0 =
      bit s.recUnit.badKind 1 + bit s.recUnit.badAddress 2 + bit s.recUnit.stall 4 ∧
    s.blockFlags 1 = bit s.page.staleRef 1 ∧
    (∀ ch, s.blockFlags (2 + chanNumber ch) = bit (s.chan ch).chainFault 1) ∧
    s.blockFlags 6 = bit s.motors.haltedByAction 1 ∧ s.blockFlags 7 = bit s.sensor.merged 1 ∧
    s.blockFlags 8 =
      bit s.coder.unsolicited 1 + bit s.coder.frameError 2 + bit s.coder.badLines 4 ∧
    s.blockFlags 9 = 0 ∧
    s.blockFlags 10 =
      bit s.boot.romBlank 1 + bit s.boot.romInvalid 2 + bit s.boot.romChecksum 4 +
        bit s.boot.romSkipped 8 + bit s.boot.storeFail 16 ∧
    s.blockFlags 11 = bit s.host.unmapped 1 + bit s.host.guardDrop 2) ∧
  ∀ s : State,
    s.blockCounters 0 = (s.recUnit.completed, s.recUnit.posted) ∧
    s.blockCounters 1 = (s.page.taken, s.page.returned) ∧
    (∀ ch, s.blockCounters (2 + chanNumber ch) = ((s.chan ch).moved, (s.chan ch).posted)) ∧
    s.blockCounters 6 = (s.motors.steps, s.motors.halts) ∧
    s.blockCounters 7 = (s.sensor.raises, s.sensor.posted) ∧
    s.blockCounters 8 = (s.coder.sent, s.coder.received) ∧
    s.blockCounters 9 = (s.power.abandoned, s.power.sleeps) ∧
    s.blockCounters 10 = (s.boot.read, s.boot.written) ∧
    s.blockCounters 11 = (s.host.noGrant, s.host.attention)

/-- ENGINE RESET (10 R193; 01 R22, R25, 02 R57, 03 R76, 04 R95, 05 R109, 06 R134, 07 R151, 08 R164; at the DRAM
port no channel asks for anything, a channel's burst has ended and the rotation pointer stands) and
CRSTN_PULSE_END, after which a frame that then stands in the send buffer is offered (log 56). Every FILLING page
is completed as truncated, without its unstored lines and an emptied last band (01 R16), readers leave, and a
page with release pending is released; the order in which two FILLING pages are completed, and that their
releases come in the last phase, is log 45. A motor that was MOVING is left at rest with its hold timer loaded
(06 R114). A level line that was disarmed and is active gives its occurrence on the machine so reset (07 R151);
the order of two such lines is log 52. -/
def Obligations.EngineResetReachesEveryBlock : Prop :=
  (∀ (s : State) (bs : List Byte), InHand s 18 bs → s.power.state ≠ .sleep →
    ∃ e, exec .engineReset s = .next (State.settle e) ∧
      (∀ i, (e.slot i).state ≠ .filling ∧ (e.slot i).readers = 0 ∧
        (e.slot i).gen = (s.slot i).gen) ∧
      (∀ i, (s.slot i).state = .filling → (e.slot i).state = .complete →
        (e.slot i).truncated = true) ∧
      e.page.r = 0 ∧ e.page.slotWait = [] ∧ e.page.geo = s.page.geo ∧
      e.page.low = decide (e.page.free.length < s.page.lowMark) ∧
      e.page.lowMark = s.page.lowMark ∧ e.page.staleRef = s.page.staleRef ∧
      e.page.taken = s.page.taken ∧ s.page.free <+: e.page.free ∧
      e.page.returned =
        s.page.returned + BitVec.ofNat 16 (e.page.free.length - s.page.free.length) ∧
      (∀ i,
        let p := s.slot i
        let c := { p with readPrint := false, readCodeOut := false }
        (p.state = .empty ∨ p.state = .complete ∧ p.release = false → e.slot i = c) ∧
        (p.state ≠ .empty → p.release = true →
          e.slot i = { Page.reset with gen := p.gen } ∧
            ∀ b, b ∈ p.chain → b ∈ e.page.free ∧ e.bandUsed b = 0) ∧
        (p.state = .filling → p.release = false →
          e.slot i = { c with
            state := .complete, writer := none, assigned := p.stored, truncated := true
            chain := (e.slot i).chain, freed := (e.slot i).freed } ∧
          (p.consume = false → (e.slot i).freed = p.freed ∧
            ∀ b, p.chain.getLast? = some b → (∀ j, j ≠ i → ∀ a, a ∈ p.chain → a ∉ (s.slot j).chain) →
              (p.assigned - p.stored < s.bandUsed b → (e.slot i).chain = p.chain) ∧
              (p.assigned - p.stored = s.bandUsed b →
                (e.slot i).chain = p.chain.dropLast ∧ b ∈ e.page.free)))) ∧
      (∀ ch, e.chan ch = { Chan.reset with
        moved := (s.chan ch).moved, posted := (s.chan ch).posted
        chainFault := (s.chan ch).chainFault }) ∧
      e.scan = { s.scan with
        busy := false, bufA := LineBuf.reset, bufB := LineBuf.reset, captureTicks := 0 } ∧
      e.print = { s.print with queue := [], head := .idle, readRequest := none, clearing := none } ∧
      e.coder = { CoderLink.reset with
        unsolicited := s.coder.unsolicited, frameError := s.coder.frameError
        badLines := s.coder.badLines, sent := s.coder.sent, received := s.coder.received } ∧
      (let occurs := fun g : Fin 16 => !(s.gate g).armed &&
         ((s.gate g).cfg.mode == .levelHigh && (s.gate g).high ||
           (s.gate g).cfg.mode == .levelLow && !(s.gate g).high)
       let halts := fun (g : Fin 16) (m : MotorId) =>
         occurs g = true ∧ (s.gate g).cfg.haltSet.getLsbD (motorNumber m) = true
       (∀ m,
         let x := s.motor m
         let rest := { x with
           halted := (e.motor m).halted, link := none, move := none, remaining := 0
           budget := none, committed := none, group := 0, rampPath := none, heldStep := false }
         (x.moving = false → e.motor m = rest) ∧
         (x.moving = true →
           e.motor m = { rest with
             state := if x.holdTime = 0 ∧ x.autoRelease = true then .off else .hold
             k := none, due := none, run := [], dark := false
             holdTimer := if x.holdTime = 0 then none else some (x.holdTime * 10)
             timerRelease := x.autoRelease }) ∧
         ((∀ g, ¬halts g m) → (e.motor m).halted = none) ∧
         (∀ g, halts g m → (s.gate g).cfg.haltMode = .immediate →
           (∀ h, h < g → halts h m → (s.gate h).cfg.haltMode = .ramp) →
           (e.motor m).halted = some { mode := .immediate, cause := .line g }) ∧
         ∀ g, halts g m → (∀ h, halts h m → g ≤ h ∧ (s.gate h).cfg.haltMode = .ramp) →
           (e.motor m).halted = some { mode := .ramp, cause := .line g }) ∧
       e.motors.haltedByAction =
         (s.motors.haltedByAction ||
           ids16.any fun g => occurs g && (s.gate g).cfg.haltSet != 0) ∧
       (∀ g, e.source (lineSource g) = { s.source (lineSource g) with
         entry :=
           if occurs g = true ∧ (s.source (lineSource g)).priority ≠ 0 then
             some { kind := .active, data := .level (s.gate g).high, repeated := false }
           else none }) ∧
       e.sensor.raises =
         s.sensor.raises +
           BitVec.ofNat 16
             ((ids16.filter occurs).length +
               flag (s.power.state == .drain && s.power.target.isSome) 1)) ∧
      e.motors.ramps = s.motors.ramps ∧ e.motors.steps = s.motors.steps ∧
      e.motors.halts = s.motors.halts ∧
      (∀ g, e.gate g = { s.gate g with
        armed := (s.gate g).armed || (s.gate g).cfg.mode == .levelHigh ||
          (s.gate g).cfg.mode == .levelLow }) ∧
      (∀ i : Fin 24, 16 ≤ i.val → i.val ≠ 22 →
        e.source i = { s.source i with entry := none }) ∧
      (s.power.state ≠ .drain → e.source 22 = { s.source 22 with entry := none }) ∧
      (∀ t, s.power.state = .drain → s.power.target = some t →
        e.source 22 = { s.source 22 with
          entry :=
            if (s.source 22).priority = 0 then none
            else some
              { kind := .abandoned, data := .abandoned (decide (t = .sleep)) 7
                repeated := false } }) ∧
      e.sensor.threshold = s.sensor.threshold ∧ e.sensor.merged = s.sensor.merged ∧
      e.sensor.posted = s.sensor.posted ∧ e.sensor.sampling = s.sensor.sampling ∧
      e.sensor.groups = s.sensor.groups ∧
      (s.power.state ≠ .drain → e.power = s.power) ∧
      (∀ t, s.power.state = .drain → s.power.target = some t →
        e.power = { s.power with
          state := .run, target := none, drainTimer := none
          abandoned := s.power.abandoned + 1 }) ∧
      e.recUnit =
        (s.complete .done
          [(ids16.filter fun i => (s.slot i).state == .filling).length,
            e.page.free.length - s.page.free.length, e.power.state.code]).recUnit ∧
      (e.port.mode = s.port.mode ∧ e.port.rotation = s.port.rotation ∧
        e.port.refreshDue = s.port.refreshDue ∧ (∀ ch, e.chanWants ch = none) ∧
        e.loaderWants = s.loaderWants ∧
        (∀ j, s.port.busy = some j → j.lineWork.isSome = true → e.port.busy = none) ∧
        (∀ j, s.port.busy = some j → j.lineWork = none → e.port.busy = some j) ∧
        (s.port.busy = none → e.port.busy = none) ∧
        (∀ j, s.port.suspended = some j → j.lineWork.isSome = true → e.port.suspended = none) ∧
        (∀ j, s.port.suspended = some j → j.lineWork = none → e.port.suspended = some j) ∧
        (s.port.suspended = none → e.port.suspended = none) ∧
        ((∀ j, s.port.busy = some j ∨ s.port.suspended = some j → j.lineWork = none) →
          e.port = s.port ∧ e.mem = s.mem)) ∧
      e.eeprom = s.eeprom ∧ e.boot = s.boot ∧ e.host = s.host) ∧
  ∀ s : State, s.coder.resetLow = true → s.boot.ready = .released →
    exec .crstnPulseEnd s =
      .next (State.settle
        { s with coder :=
          { s.coder with
            resetLow := false
            send :=
              if s.coder.send = .idle ∧ s.coder.sendBuf.isSome = true then .offering
              else s.coder.send } })

/-- CONFIG RELOAD and the end of its reading (09 R175, R176): a valid image puts the sections it carries in
force, never the geometry; a failing one changes nothing but its flag and the ROM status. Every part of it: the
priorities as EVENT PRIORITY does; a ramp with the links that name it; a phase table with its pointer; the
constants, the low mark compared at once with F − r; then each gateway as SENSOR CONFIG does (`configGate` is stated
in `SensorConfigReplacesAGateway`). That what the constants and gateways raise is judged under the new priorities
is log 51, the order of the lines log 52. What `readImage` answers is stated in `ImageLoadAndHostRelease`. -/
def Obligations.ReloadPutsTheCarriedSectionsInForce : Prop :=
  (∀ s : State, s.recUnit.state = .executing → s.recUnit.work = some .reload →
    let r := readImage s.eeprom (fun _ => s.page.geo.bands)
    let c := r.sections
    r.status = .valid →
      ∃ u w, exec .reloadReadEnd s =
          .next (State.settle
            ((c.gateways.elim w fun gs => w.reloadGates gs ids16).complete .done
              [r.version, c.clamped,
                flag (c.geometry.any fun g => decide (g ≠ s.page.geo)) 1])) ∧
        (u = { s with sensor := u.sensor } ∧
          u.sensor = { s.sensor with sources := u.sensor.sources } ∧
          (c.priorities = none → u = s) ∧
          ∀ ps, c.priorities = some ps → ∀ i : Fin 24,
            u.source i =
              { priority := ps.getD i.val 0
                entry := if ps.getD i.val 0 = 0 then none else (s.source i).entry }) ∧
        w.boot = { s.boot with
          rom := .valid, version := r.version, read := s.boot.read + BitVec.ofNat 16 r.words } ∧
        w.scan = { s.scan with tLine := c.constants.elim s.scan.tLine fun k => k.tLine } ∧
        w.print = { s.print with
          strobe := c.strobe.getD s.print.strobe
          dmax := c.constants.elim s.print.dmax fun k => k.dmax
          queue := w.print.queue } ∧
        (s.print.queue = [] → w.print.queue = []) ∧
        w.power = { s.power with
          drainLimit := c.constants.elim s.power.drainLimit fun k => k.drainLimit } ∧
        (c.constants = none → w.page = s.page ∧ w.sensor = u.sensor) ∧
        (∀ k, c.constants = some k →
          let v := { u with page := { s.page with lowMark := k.lowMark } }
          w.page = { s.page with lowMark := k.lowMark, low := w.page.low } ∧ PoolTested v w) ∧
        (∀ n, w.ramp n = (c.ramp n).getD (s.ramp n)) ∧
        w.motors = { s.motors with
          m0 := w.motors.m0, m1 := w.motors.m1, m2 := w.motors.m2, ramps := w.motors.ramps } ∧
        (∀ m,
          let x := s.motor m
          let hold := c.constants.elim (x.holdTime, x.autoRelease) fun k =>
            match m with
            | .m0 => k.hold0
            | .m1 => k.hold1
            | .m2 => k.hold2
          w.motor m = { x with
            holdTime := hold.1
            autoRelease := hold.2
            phaseTable := (c.phase m).elim x.phaseTable fun p => p.patterns
            phaseLen := (c.phase m).elim x.phaseLen fun p => p.length
            phase := (c.phase m).elim x.phase fun p => x.phase % p.length
            link := (w.motor m).link } ∧
          (x.link = none → (w.motor m).link = none) ∧
          ∀ l, x.link = some l → m ≠ .m2 →
            (c.ramp l.ramp = none → (w.motor m).link = some l) ∧
            ∀ t, c.ramp l.ramp = some t →
              (w.motor m).link = some
                { l with
                  top := min l.top (t.length - 1)
                  kLine := if m = .m0 then lineCap t l.spl s.scan.tLine else l.kLine }) ∧
        w = { s with
          boot := w.boot, scan := w.scan, print := w.print, power := w.power, page := w.page
          motors := w.motors, sensor := w.sensor }) ∧
  (∀ (s : State) (gs : List GateCfg), s.reloadGates gs [] = s ∧
    ∀ (g : Fin 16) (rest : List (Fin 16)),
      s.reloadGates gs (g :: rest) =
        (s.configGate g (gs.getD g.val GateCfg.default)).reloadGates gs rest) ∧
  (∀ (s : State) (bs : List Byte), InHand s 19 bs →
    (((∃ ch, (s.chan ch).state ≠ .idle) ∨ ∃ m, (s.motor m).moving = true) →
      exec .configReload s = .next (State.settle (s.refuse .notQuiescent))) ∧
    ((∀ ch, (s.chan ch).state = .idle) → (∀ m, (s.motor m).moving = false) →
      (s.boot.store.isSome = true →
        exec .configReload s = .next (State.settle (s.refuse .romBusy))) ∧
      (s.boot.store = none →
        exec .configReload s = .next (State.settle (s.startWork .reload))))) ∧
  ∀ s : State, s.recUnit.state = .executing → s.recUnit.work = some .reload →
    let r := readImage s.eeprom (fun _ => s.page.geo.bands)
    (r.status ≠ .valid →
      ∃ e, exec .reloadReadEnd s = .next (State.settle e) ∧
        e.boot = { s.boot with
          rom := r.status
          read := s.boot.read + BitVec.ofNat 16 r.words
          romBlank := s.boot.romBlank || r.status == .blank
          romInvalid := s.boot.romInvalid || r.status == .invalid
          romChecksum := s.boot.romChecksum || r.status == .checksum
          romSkipped := s.boot.romSkipped || r.status == .skipped } ∧
        e.recUnit = (s.complete .romInvalid [r.status.code]).recUnit ∧
        e = { s with boot := e.boot, recUnit := e.recUnit }) ∧
    (r.status = .valid →
      ∃ t, exec .reloadReadEnd s = .next t ∧ t.boot.rom = .valid ∧ t.boot.version = r.version ∧
        t.boot.read = s.boot.read + BitVec.ofNat 16 r.words ∧
        t.page.geo = s.page.geo ∧ (∀ n, t.ramp n = (r.sections.ramp n).getD (s.ramp n)) ∧
        (∀ m, (t.motor m).phaseTable =
          (r.sections.phase m).elim (s.motor m).phaseTable fun p => p.patterns) ∧
        t.print.strobe = r.sections.strobe.getD s.print.strobe ∧
        t.print.headClass = s.print.headClass ∧
        t.scan.tLine = r.sections.constants.elim s.scan.tLine (fun k => k.tLine) ∧
        t.print.dmax = r.sections.constants.elim s.print.dmax (fun k => k.dmax) ∧
        t.power.drainLimit = r.sections.constants.elim s.power.drainLimit (fun k => k.drainLimit) ∧
        t.page.lowMark = r.sections.constants.elim s.page.lowMark (fun k => k.lowMark) ∧
        (∀ g : Fin 16, (t.gate g).cfg =
          r.sections.gateways.elim (s.gate g).cfg fun gs => gs.getD g.val GateCfg.default) ∧
        (∀ i : Fin 24, (t.source i).priority =
          r.sections.priorities.elim (s.source i).priority fun ps => ps.getD i.val 0) ∧
        t.sensor.threshold = s.sensor.threshold ∧ t.eeprom = s.eeprom ∧
        t.scan.shadingA = s.scan.shadingA ∧ t.scan.toneA = s.scan.toneA ∧
        t.recUnit.completion =
          some { kind := cmdKind s.cmdBytes, tag := cmdTag s.cmdBytes, code := .done
                 result := [r.version, r.sections.clamped,
                   flag (r.sections.geometry.any fun g => decide (g ≠ s.page.geo)) 1] })

/-- CONFIG STORE (09 R177) and its source burst, and the three steps of a word with their outcomes
(09 R178). The model's choices: the EEPROM holds the word from the end of its shifting on, and then the word
that is read back (log 41); the next source burst is asked for once the last word of the former one has been
read back (log 29); an EEPROM listed with fewer than its 1024 words is erased behind them (log 6). -/
def Obligations.StoreWritesTheEepromWordByWord : Prop :=
  (∀ (s : State) (bs : List Byte), InHand s 20 bs →
    ((wordAt bs 6 = 0 ∨ 1024 < wordAt bs 4 + wordAt bs 6) →
      exec .configStore s = .next (State.settle (s.refuse .badRange))) ∧
    (1 ≤ wordAt bs 6 → wordAt bs 4 + wordAt bs 6 ≤ 1024 →
      s.page.geo.goodSource (dwordAt bs 8) (2 * wordAt bs 6) = false →
      exec .configStore s = .next (State.settle (s.refuse .badAddress))) ∧
    (1 ≤ wordAt bs 6 → wordAt bs 4 + wordAt bs 6 ≤ 1024 →
      s.page.geo.goodSource (dwordAt bs 8) (2 * wordAt bs 6) = true →
      (s.power.state = .drain →
        exec .configStore s = .next (State.settle (s.refuse .powerPending))) ∧
      (s.power.state ≠ .drain → s.boot.store.isSome = true →
        exec .configStore s = .next (State.settle (s.refuse .romBusy))) ∧
      (s.power.state ≠ .drain → s.boot.store = none →
        exec .configStore s =
          .next (State.settle
            ((s.setStore
              (some
                { addr := wordAt bs 4, count := wordAt bs 6, source := dwordAt bs 8, next := 0
                  words := [], phase := .source })).complete .done []))))) ∧
  (∀ (s : State) (o : StoreOp) (a n : Nat), s.boot.store = some o →
    s.port.busy = some (.storeBurst a n) →
    exec .storeSourceBurstEnd s =
      .next (State.settle
        (s.releasePort.setStore
          (some { o with
            words := (s.burstData (.storeBurst a n)).map (BitVec.ofNat 16)
            phase := .shifting })))) ∧
  (∀ (s : State) (o : StoreOp) (w : Word) (rest : List Word), s.boot.store = some o →
    o.words = w :: rest →
    (o.phase = .shifting →
      exec .storeWordShifted s =
        .next (State.settle
          { s with
            eeprom :=
              (s.eeprom ++ List.replicate (1024 - s.eeprom.length) 0xFFFF).set (o.addr + o.next) w
            boot := { s.boot with
              store := some { o with phase := .waiting }
              written := s.boot.written + 1 } })) ∧
    (o.phase = .readback →
      ∀ v : Word,
        let u := { s with
          eeprom :=
            (s.eeprom ++ List.replicate (1024 - s.eeprom.length) 0xFFFF).set (o.addr + o.next) v
          boot := { s.boot with read := s.boot.read + 1 } }
        (v = w → o.next + 1 = o.count →
          exec (.storeReadbackEnd v) s =
            .next (State.settle ((u.setStore none).raise 21 .storeDone (.word 0)))) ∧
        (v = w → o.next + 1 < o.count →
          exec (.storeReadbackEnd v) s =
            .next (State.settle
              (u.setStore
                (some { o with
                  next := o.next + 1
                  words := rest
                  phase := if rest = [] then .source else .shifting })))) ∧
        (v ≠ w →
          exec (.storeReadbackEnd v) s =
            .next (State.settle
              ({ u with boot := { u.boot with store := none, storeFail := true } }.raise 21
                .storeFailed (.word (o.addr + o.next))))))) ∧
  ∀ (s : State) (o : StoreOp), s.boot.store = some o → o.phase = .waiting →
    exec .eepromReady s = .next (State.settle (s.setStore (some { o with phase := .readback }))) ∧
    exec .eepromReadyTimeout s =
      .next (State.settle
        ({ s with boot := { s.boot with store := none, storeFail := true } }.raise 21 .storeFailed
          (.word (o.addr + o.next))))

/-! ## Chains (02): fetching, opening and reading pages, LINES -/

/-- The fields of a chain entry (11 section 11.5, 11 R195), with the clamps of 02 R35, R36, R43, R45.
ENTRY_FETCH_END and JUMP (02 R30, R31, R32): a fetched entry becomes current, or the next entry of the
window, or is a JUMP that is followed once; an entry that becomes current asks for the one behind it; the
end of an entry moves the window. A LINES entry that becomes current behind a LINES entry begins in the same step (02
R31, R39; that it does is log 19, that its held line does not count against a tail that already stands is log 58, that
one of a PAUSED channel begins after the resume is log 49, that one whose link an ABORT has ended gives no NOT_LINKED
is log 67). -/
def Obligations.EntriesAreFetchedIntoTheWindow : Prop :=
  (∀ (s : State) (ch : Channel),
    let c := (s.chan ch).shift s.page.geo
    let t := s.setChan ch c
    ((s.chan ch).atLines = false ∨ (s.chan ch).state = .paused → s.endEntry ch = t) ∧
    ((∀ a n o b, c.current ≠ some { addr := a, entry := .lines n o b }) → s.endEntry ch = t) ∧
    ∀ a n o b, (s.chan ch).atLines = true → (s.chan ch).state ≠ .paused →
      c.current = some { addr := a, entry := .lines n o b } →
      (n = 0 → s.endEntry ch = t.faultEntry ch .badEntry) ∧
      (n ≠ 0 → c.openPage = none → s.endEntry ch = t.faultEntry ch .noPage) ∧
      (∀ m, n ≠ 0 → c.openPage.isSome = true → motorFor ch = some m → (s.motor m).link = none →
        c.linkCut = false → s.endEntry ch = t.faultEntry ch .notLinked) ∧
      (n ≠ 0 → c.openPage.isSome = true →
        (∀ m, motorFor ch = some m → (s.motor m).link.isSome = true ∨ c.linkCut = true) →
        let e := s.endEntry ch
        (isWriter ch = false ∨ (∀ x, o = some x → (s.gate x.line).high ≠ x.high) →
          e.chan ch = { c with
            phase := .begun
            remaining := if ch = .codeIn ∧ c.held.isSome = true then n - 1 else n }) ∧
        (∀ x, isWriter ch = true → o = some x → (s.gate x.line).high = x.high →
          e.chan ch = { c with
            phase := .begun
            edge := some 0
            remaining := if ch = .scan then max x.tail s.committedLines else x.tail }) ∧
        (∀ d, d ≠ ch → e.chan d = s.chan d) ∧
        e.coder = (if ch = .codeIn then { s.coder with burstLimit := b } else s.coder) ∧
        e = { s with chans := e.chans, coder := e.coder })) ∧
  (∀ (s : State) (ch : Channel) (f : Fetch), s.port.busy = some (.entryFetch ch) →
    (s.chan ch).fetch = some f →
    let w : WinEntry :=
      { addr := f.addr, entry := Entry.decode (Memory.readBytes s.mem f.addr 16) }
    (f.asCurrent = true →
      exec .entryFetchEnd s =
        .next (State.settle (s.releasePort.setChan ch ((s.chan ch).makeCurrent s.page.geo w)))) ∧
    (∀ a, f.asCurrent = false → f.viaJump = false → w.entry = .jump a →
      s.page.geo.goodSource a 16 = true →
      exec .entryFetchEnd s =
        .next (State.settle
          (s.releasePort.setChan ch
            { s.chan ch with
              fetch := some { addr := a, asCurrent := false, viaJump := true } }))) ∧
    (f.asCurrent = false →
      (∀ a, w.entry = .jump a → f.viaJump = true ∨ s.page.geo.goodSource a 16 = false) →
      exec .entryFetchEnd s =
        .next (State.settle
          (s.releasePort.setChan ch
            (if (s.chan ch).current.isSome then { s.chan ch with next := some w, fetch := none }
              else (s.chan ch).makeCurrent s.page.geo w))))) ∧
  (∀ (c : Chan) (geo : Geometry) (w : WinEntry),
    (c.makeCurrent geo w).current = some w ∧ (c.makeCurrent geo w).entryAddr = w.addr ∧
    (c.makeCurrent geo w).phase = .fresh ∧ (c.makeCurrent geo w).remaining = 0 ∧
    (c.makeCurrent geo w).edge = none ∧
    (w.entry.hasNext = true → geo.goodSource (w.addr + 16) 16 = true →
      (c.makeCurrent geo w).next = none ∧
        (c.makeCurrent geo w).fetch =
          some { addr := w.addr + 16, asCurrent := false, viaJump := false }) ∧
    (w.entry.hasNext = true → geo.goodSource (w.addr + 16) 16 = false →
      (c.makeCurrent geo w).next = some { addr := w.addr + 16, entry := .notFetched } ∧
        (c.makeCurrent geo w).fetch = none) ∧
    (w.entry.hasNext = false →
      (c.makeCurrent geo w).next = none ∧ (c.makeCurrent geo w).fetch = none) ∧
    (c.next = some w → c.shift geo = c.makeCurrent geo w) ∧
    (c.next = none → c.shift geo = { c with
      current := none, phase := .fresh, remaining := 0, edge := none, resolved := none
      limitDue := false, waitTimer := 0 }) ∧
    c.makeCurrent geo w = { c with
      current := some w
      next := (c.makeCurrent geo w).next
      fetch := (c.makeCurrent geo w).fetch
      entryAddr := w.addr
      phase := .fresh
      remaining := 0
      edge := none
      resolved := none
      limitDue := false
      waitTimer := 0 }) ∧
  (∀ (s : State) (ch : Channel) (target : Nat), AtEntry s ch (.jump target) →
    (s.page.geo.goodSource target 16 = true →
      exec (.jump ch) s =
        .next (State.settle
          (s.setChan ch
            { s.chan ch with
              current := none
              next := none
              entryAddr := target
              fetch := some { addr := target, asCurrent := true, viaJump := false } }))) ∧
    (s.page.geo.goodSource target 16 = false →
      exec (.jump ch) s = .next (State.settle (s.faultEntry ch .badAddress)))) ∧
  ∀ bs : List Byte,
    let w := wordAt bs
    (w 0 = 1 →
      Entry.decode bs = .openWrite (bitOf (w 2) 0) (bitOf (w 2) 1) (bitOf (w 2) 2)
        (if w 4 = 0 then 65535 else w 4)) ∧
    (w 0 = 2 →
      Entry.decode bs = .openRead (bitOf (w 2) 0) (bitOf (w 2) 1) (bitOf (w 2) 2) (w 4) (w 6)
        (max 64 (min 1024 (w 8)))) ∧
    (w 0 = 3 →
      (bitOf (w 4) 0 = false → Entry.decode bs = .lines (w 2) none (w 8 % 256)) ∧
      ∀ g : Fin 16, bitOf (w 4) 0 = true → g.val = w 4 / 256 % 16 →
        Entry.decode bs =
          .lines (w 2) (some { line := g, high := bitOf (w 4) 1, tail := w 6 % 256 })
            (w 8 % 256)) ∧
    (w 0 = 4 →
      Entry.decode bs =
        .setProcessing (bitOf (w 2) 0) (bitOf (w 4) 0) (w 6) (w 8 % 256)) ∧
    (∀ n : Fin 4, w 0 = 5 → n.val = w 4 % 4 →
      Entry.decode bs = .linkMotor (max 1 (min 8 (w 2))) n (w 6)) ∧
    (w 0 = 6 → Entry.decode bs = .unlink) ∧
    (∀ g : Fin 16, w 0 = 7 → g.val = w 2 % 16 →
      Entry.decode bs = .waitLine g (bitOf (w 4) 0) (if w 6 = 0 then 1 else w 6)) ∧
    (w 0 = 8 → Entry.decode bs = .close) ∧ (w 0 = 9 → Entry.decode bs = .mark (w 2)) ∧
    (w 0 = 10 → Entry.decode bs = .jump (w 4 + 65536 * w 6)) ∧
    (w 0 = 11 → Entry.decode bs = .finish) ∧
    (w 0 = 0 ∨ 11 < w 0 → Entry.decode bs = .unknown)

/-- OPEN_WRITE and SLOT_HANDED (02 R35, 01 R7; 05 R104): the lowest EMPTY slot is opened with the next
generation, PAGE OPENED is called for; with no EMPTY slot the writer waits in the order of its request. That
a burst of bad lines may be reported again on Code-in's new page is log 21 (DEDUCED). -/
def Obligations.OpenWriteTakesTheLowestEmptySlot : Prop :=
  (∀ (s : State) (i : Fin 16), s.emptySlot = some i ↔
    (s.slot i).state = .empty ∧ ∀ j, j < i → (s.slot j).state ≠ .empty) ∧
  (∀ s : State, s.emptySlot = none ↔ ∀ i, (s.slot i).state ≠ .empty) ∧
  (∀ (s : State) (ch : Channel) (consume pp pc : Bool) (limit : Nat),
    AtEntry s ch (.openWrite consume pp pc limit) →
    (isWriter ch = false →
      exec (.openWrite ch) s = .next (State.settle (s.faultEntry ch .badEntry))) ∧
    (isWriter ch = true → (s.chan ch).openPage.isSome = true →
      exec (.openWrite ch) s = .next (State.settle (s.faultEntry ch .pageOpen))) ∧
    (isWriter ch = true → (s.chan ch).openPage = none → s.emptySlot = none →
      exec (.openWrite ch) s =
        .next (State.settle
          { s.setChan ch { s.chan ch with state := .waiting .slot } with
            page := { s.page with slotWait := s.page.slotWait ++ [ch] } })) ∧
    (∀ i, isWriter ch = true → (s.chan ch).openPage = none → s.emptySlot = some i →
      s.page.slotWait = [] →
      ∃ e, exec (.openWrite ch) s = .next (State.settle e) ∧
        e.slot i = { Page.reset with
          state := .filling
          gen := if (s.slot i).gen = 255 then 1 else (s.slot i).gen + 1
          writer := some ch
          consume
          permitPrint := pp
          permitCodeOut := pc
          limit } ∧
        (∀ j, j ≠ i → e.slot j = s.slot j) ∧
        e.page = { s.page with slots := e.page.slots } ∧
        e.chan ch = { s.chan ch with
          openPage := some { slot := i, gen := (e.slot i).gen }
          badRun := 0
          held := none
          phase := .ending
          notices := [{ body := .pageOpened, page := some { slot := i, gen := (e.slot i).gen } }] } ∧
        (∀ d, d ≠ ch → e.chan d = s.chan d) ∧
        e.coder =
          (if ch = .codeIn then
            { s.coder with
              copyDots := whiteDots, copyCounts := Counts.zero, burstReported := false }
          else s.coder) ∧
        e = { s with page := e.page, chans := e.chans, coder := e.coder })) ∧
  ∀ (s : State) (ch : Channel) (rest : List Channel) (i : Fin 16) (consume pp pc : Bool)
      (limit : Nat),
    s.page.slotWait = ch :: rest → s.emptySlot = some i →
    AtWait s ch .slot (.openWrite consume pp pc limit) →
    ∃ e, exec .slotHanded s = .next (State.settle e) ∧
      e.slot i = { Page.reset with
        state := .filling
        gen := if (s.slot i).gen = 255 then 1 else (s.slot i).gen + 1
        writer := some ch
        consume
        permitPrint := pp
        permitCodeOut := pc
        limit } ∧
      (∀ j, j ≠ i → e.slot j = s.slot j) ∧
      e.page = { s.page with slots := e.page.slots, slotWait := rest } ∧
      e.chan ch = { s.chan ch with
        state := .running
        openPage := some { slot := i, gen := (e.slot i).gen }
        badRun := 0
        held := none
        phase := .ending
        notices := (s.chan ch).notices ++
          [{ body := .pageOpened, page := some { slot := i, gen := (e.slot i).gen } }] } ∧
      (∀ d, d ≠ ch → e.chan d = s.chan d) ∧
      e.coder =
        (if ch = .codeIn then
          { s.coder with
            copyDots := whiteDots, copyCounts := Counts.zero, burstReported := false }
        else s.coder) ∧
      e = { s with page := e.page, chans := e.chans, coder := e.coder }

/-- OPEN_READ, PEER_PAGE_RESOLVED and WAIT_COMPLETE_END (02 R36, R37, R38): checks 1 to 3, the page a peer
writes or WAIT_PAGE for it, and the checks again when a wait ends; then checks 4 to 8 on the page: the fault of the
first that fails, the reader in the page (01 R15), or WAIT_COMPLETE. A reader that was paused in WAIT_COMPLETE and is
resumed enters the wait again while its page is being written (02 R55); that a page completed in the meantime gets
checks 4 to 8 at the resume is the model's inference (log 63). -/
def Obligations.OpenReadFindsAndChecksItsPage : Prop :=
  ((∀ (s : State) (ch : Channel) (follow release peer : Bool) (slot gen scale : Nat),
    AtEntry s ch (.openRead follow release peer slot gen scale) →
    (isWriter ch = true →
      exec (.openRead ch) s = .next (State.settle (s.faultEntry ch .badEntry))) ∧
    (isWriter ch = false → (s.chan ch).openPage.isSome = true →
      exec (.openRead ch) s = .next (State.settle (s.faultEntry ch .pageOpen))) ∧
    (isWriter ch = false → (s.chan ch).openPage = none → (s.chan ch).resolved = none →
      (peer = false → 15 < slot →
        exec (.openRead ch) s = .next (State.settle (s.faultEntry ch .badTarget))) ∧
      (∀ i : Fin 16, peer = false → slot = i.val →
        exec (.openRead ch) s =
          .next (State.settle (s.openResolved ch { slot := i, gen } follow release scale))) ∧
      (peer = true → slot ≠ 0 → slot ≠ 3 →
        exec (.openRead ch) s = .next (State.settle (s.faultEntry ch .badTarget))) ∧
      (∀ w, peer = true → (slot = 0 ∧ w = .scan ∨ slot = 3 ∧ w = .codeIn) →
        (s.pageOf w = none →
          exec (.openRead ch) s =
            .next (State.settle (s.setChan ch { s.chan ch with state := .waiting .page }))) ∧
        (∀ i, s.pageOf w = some i →
          exec (.openRead ch) s =
            .next (State.settle
              (s.openResolved ch { slot := i, gen := (s.slot i).gen } follow release scale))))) ∧
    (∀ ref, isWriter ch = false → (s.chan ch).openPage = none → (s.chan ch).resolved = some ref →
      ((s.slot ref.slot).state = .filling → (s.slot ref.slot).gen = ref.gen →
        exec (.openRead ch) s =
          .next (State.settle (s.setChan ch { s.chan ch with state := .waiting .complete }))) ∧
      ((s.slot ref.slot).state ≠ .filling ∨ (s.slot ref.slot).gen ≠ ref.gen →
        exec (.openRead ch) s =
          .next (State.settle (s.openResolved ch ref follow release scale))))) ∧
  (∀ (s : State) (ch : Channel) (follow release peer : Bool) (slot gen scale : Nat) (w : Channel)
      (i : Fin 16),
    AtWait s ch .page (.openRead follow release peer slot gen scale) →
    (slot = 0 ∧ w = .scan ∨ slot = 3 ∧ w = .codeIn) → s.pageOf w = some i →
    exec (.peerPageResolved ch) s =
      .next (State.settle
        ((s.setChan ch { s.chan ch with state := .running }).openResolved ch
          { slot := i, gen := (s.slot i).gen } follow release scale))) ∧
  (∀ (s : State) (ch : Channel) (follow release peer : Bool) (slot gen scale : Nat) (ref : PageRef),
    AtWait s ch .complete (.openRead follow release peer slot gen scale) →
    (s.chan ch).resolved = some ref →
    ((s.slot ref.slot).state ≠ .filling ∨ (s.slot ref.slot).gen ≠ ref.gen) →
    exec (.waitCompleteEnd ch) s =
      .next (State.settle
        ((s.setChan ch { s.chan ch with state := .running }).openResolved ch ref follow release
          scale))) ∧
  ∀ (s : State) (w : Channel) (i : Fin 16), s.pageOf w = some i →
    (s.slot i).state = .filling ∧ (s.slot i).writer = some w) ∧
  (∀ (s : State) (ch : Channel) (ref : PageRef) (follow release : Bool) (scale : Nat),
    isWriter ch = false → (s.chan ch).atLines = false →
    let p := s.slot ref.slot
    (p.state = .empty → s.openResolved ch ref follow release scale = s.faultEntry ch .pageState) ∧
    (p.state ≠ .empty → p.gen ≠ ref.gen →
      s.openResolved ch ref follow release scale =
        { s with page := { s.page with staleRef := true } }.faultEntry ch .stalePage) ∧
    (p.state ≠ .empty → p.gen = ref.gen → p.permits ch = false →
      s.openResolved ch ref follow release scale = s.faultEntry ch .notPermitted) ∧
    (p.state ≠ .empty → p.gen = ref.gen → p.permits ch = true →
      (p.consume = true ∧ p.readers ≠ 0 ∨ 2 ≤ p.readers) →
      s.openResolved ch ref follow release scale = s.faultEntry ch .readersFull) ∧
    (p.state ≠ .empty → p.gen = ref.gen → p.permits ch = true →
      (p.consume = false ∨ p.readers = 0) → p.readers < 2 →
      (p.state = .filling → follow = false →
        s.openResolved ch ref follow release scale =
          s.setChan ch { s.chan ch with state := .waiting .complete, resolved := some ref }) ∧
      (p.state = .complete ∨ follow = true →
        let e := s.openResolved ch ref follow release scale
        e.slot ref.slot = p.setReader ch true ∧ (∀ j, j ≠ ref.slot → e.slot j = s.slot j) ∧
          e.page = { s.page with slots := e.page.slots } ∧
          (e.chan ch).openPage = some ref ∧
          (e.chan ch).position = (if p.consume then p.freed + 1 else 1) ∧
          (e.chan ch).releaseOnClose = release ∧ (e.chan ch).state = .running ∧
          (ch = .print → (e.chan ch).scale = scale ∧ (e.chan ch).scaleAcc = 0) ∧
          (e.chan ch).current = (s.chan ch).next ∧
          (∀ d, d ≠ ch → e.chan d = s.chan d) ∧
          e = { s with page := e.page, chans := e.chans })))

/-- LINES (02 R39, R40; 06 R131): its checks in order, its count, Code-in's held line as its first, the trailing
edge at its beginning. That a LINES entry that becomes current under a pause or abort request still begins is log
20, that it gives no NOT_LINKED for a link that the ABORT has ended is log 67 (both DEDUCED). That the held line
of Code-in is not counted against the tail count of an edge that already stands is the model's choice (log 58).
-/
def Obligations.LinesTakesItsCount : Prop :=
  ∀ (s : State) (ch : Channel) (count : Nat) (edge : Option EdgeOption) (burst : Nat),
    AtEntry s ch (.lines count edge burst) →
    (count = 0 → exec (.lines ch) s = .next (State.settle (s.faultEntry ch .badEntry))) ∧
    (count ≠ 0 → (s.chan ch).openPage = none →
      exec (.lines ch) s = .next (State.settle (s.faultEntry ch .noPage))) ∧
    (∀ m, count ≠ 0 → (s.chan ch).openPage.isSome = true → motorFor ch = some m →
      (s.motor m).link = none → (s.chan ch).linkCut = false →
      exec (.lines ch) s = .next (State.settle (s.faultEntry ch .notLinked))) ∧
    (count ≠ 0 → (s.chan ch).openPage.isSome = true →
      (∀ m, motorFor ch = some m → (s.motor m).link.isSome = true ∨ (s.chan ch).linkCut = true) →
      ∃ e, exec (.lines ch) s = .next (State.settle e) ∧
        (e.chan ch).phase = .begun ∧
        (isWriter ch = false ∨ (∀ o, edge = some o → (s.gate o.line).high ≠ o.high) →
          e.chan ch = { s.chan ch with
            phase := .begun
            remaining :=
              if ch = .codeIn ∧ (s.chan ch).held.isSome = true then count - 1 else count }) ∧
        (∀ o, isWriter ch = true → edge = some o → (s.gate o.line).high = o.high →
          e.chan ch = { s.chan ch with
            phase := .begun
            edge := some 0
            remaining := if ch = .scan then max o.tail s.committedLines else o.tail }) ∧
        (∀ d, d ≠ ch → e.chan d = s.chan d) ∧
        e.coder = (if ch = .codeIn then { s.coder with burstLimit := burst } else s.coder) ∧
        e = { s with chans := e.chans, coder := e.coder })

/-- SET_PROCESSING and WAIT_TABLE_END (02 R42). -/
def Obligations.SetProcessingReplacesTheSelection : Prop :=
  (∀ (s : State) (ch : Channel) (shadingB toneB : Bool) (mode threshold : Nat),
    AtEntry s ch (.setProcessing shadingB toneB mode threshold) →
    (ch ≠ .scan ∨ 1 < mode →
      exec (.setProcessing ch) s = .next (State.settle (s.faultEntry ch .badEntry))) ∧
    (ch = .scan → mode ≤ 1 → s.bankLoading shadingB toneB = true →
      exec (.setProcessing ch) s =
        .next (State.settle (s.setChan ch { s.chan ch with state := .waiting .table }))) ∧
    (ch = .scan → mode ≤ 1 → s.bankLoading shadingB toneB = false →
      exec (.setProcessing ch) s =
        .next (State.settle
          (s.setChan ch
            (Chan.shift
              { s.chan ch with
                state := .running
                sel := { shadingB, toneB, diffuse := decide (mode = 1), threshold } }
              s.page.geo))))) ∧
  (∀ (s : State) (shadingB toneB : Bool) (mode threshold : Nat),
    AtWait s .scan .table (.setProcessing shadingB toneB mode threshold) →
    s.bankLoading shadingB toneB = false →
    exec .waitTableEnd s =
      .next (State.settle
        (s.setChan .scan
          (Chan.shift
            { s.chan .scan with
              state := .running
              sel := { shadingB, toneB, diffuse := decide (mode = 1), threshold } }
            s.page.geo)))) ∧
  ∀ (s : State) (a b : Bool), s.bankLoading a b = true ↔
    ∃ l : Load, s.recUnit.work = some (.load l) ∧ (l.table = .shading a ∨ l.table = .tone b)

/-- LINK_MOTOR and UNLINK (02 R43, R44; 06 R122, R123): the channel's checks and waits, the link with its top
index and k_line, and its end, which a moving motor runs out; with the end of Scan's link the reservation ends
(01 R13, R19). The lamp output SLAMP is active exactly while the scan motor is linked and the power state is RUN
or DRAIN (03 R60). -/
def Obligations.LinkAndUnlinkAMotor : Prop :=
  (∀ (s : State) (ch : Channel) (m : MotorId), s.linkReady ch m = true ↔
    (s.motor m).link = none ∨
      ((s.motor m).moving = false ∧
        (ch = .print → s.print.queue = [] ∧ s.chans.print.reading = false))) ∧
  (∀ (t : List Nat) (spl tLine : Nat), (∀ k, k < t.length → spl * t.getD k 0 < tLine) →
    lineCap t spl tLine = 0) ∧
  (∀ (s : State) (ch : Channel) (spl : Nat) (n : Fin 4) (top : Nat),
    AtEntry s ch (.linkMotor spl n top) →
    (motorFor ch = none →
      exec (.linkMotor ch) s = .next (State.settle (s.faultEntry ch .badEntry))) ∧
    ∀ m, motorFor ch = some m →
      ((s.motor m).moving = true → (s.motor m).link = none →
        exec (.linkMotor ch) s =
          .next (State.settle (s.setChan ch { s.chan ch with state := .waiting .motor }))) ∧
      (((s.motor m).moving = false ∨ (s.motor m).link.isSome = true) → s.linkReady ch m = true →
        (ch = .scan → spl * (s.ramp n).getD 0 0 < s.scan.tLine →
          exec (.linkMotor ch) s = .next (State.settle (s.faultEntry ch .linkTooFast))) ∧
        ((ch = .print ∨ s.scan.tLine ≤ spl * (s.ramp n).getD 0 0) →
          exec (.linkMotor ch) s =
            .next (State.settle
              ((s.setMotor m
                { s.motor m with
                  link := some
                    { spl, ramp := n, top := min top ((s.ramp n).length - 1)
                      kLine := lineCap (s.ramp n) spl s.scan.tLine }
                  group := 0
                  budget := none }).setChan ch ((s.chan ch).shift s.page.geo)))))) ∧
  (∀ (s : State) (ch : Channel), AtEntry s ch .unlink →
    (motorFor ch = none →
      exec (.unlink ch) s = .next (State.settle (s.faultEntry ch .badEntry))) ∧
    ∀ m, motorFor ch = some m →
      ((s.motor m).link = none →
        exec (.unlink ch) s =
          .next (State.settle (s.setChan ch ((s.chan ch).shift s.page.geo)))) ∧
      ((s.motor m).link.isSome = true →
        (ch = .print → s.print.queue = [] ∧ s.chans.print.reading = false) →
        ∃ e, exec (.unlink ch) s = .next (State.settle e) ∧ (e.motor m).link = none ∧
          ((s.motor m).moving = false →
            e.motor m = { s.motor m with link := none, budget := none }) ∧
          (∀ j, (s.motor m).moving = true → (s.motor m).committed = some j →
            e.motor m = { s.motor m with
              link := none
              heldStep := false
              budget := some ((s.motor m).budget.elim (j + 1) fun b => min (j + 1) b) }) ∧
          (∀ d, d ≠ m → e.motor d = s.motor d) ∧
          e.chan ch = (s.chan ch).shift s.page.geo ∧ (∀ d, d ≠ ch → e.chan d = s.chan d) ∧
          (m = .m0 → ReservationEnded s e) ∧ (m = .m1 → e.page = s.page ∧ e.sensor = s.sensor) ∧
          e.motors = { s.motors with m0 := e.motors.m0, m1 := e.motors.m1, m2 := e.motors.m2 } ∧
          e = { s with
            motors := e.motors, chans := e.chans, page := e.page, sensor := e.sensor })) ∧
  (∀ (t : List Nat) (spl tLine : Nat), tLine ≤ spl * t.getD 0 0 → t ≠ [] →
    lineCap t spl tLine < t.length ∧ tLine ≤ spl * t.getD (lineCap t spl tLine) 0 ∧
      ∀ k, k < t.length → tLine ≤ spl * t.getD k 0 → k ≤ lineCap t spl tLine) ∧
  ∀ s : State, s.slamp = true ↔
    (s.motor .m0).link.isSome = true ∧ (s.power.state = .run ∨ s.power.state = .drain)

/-- WAIT_LINE, WAIT_GATE_END and WAIT_LINE_TIMEOUT (02 R45). WAIT_MOTOR_END, WAIT_LINES_END and WAIT_SPACE_END
(02 R56, R43; 01 R15, R11): when what is waited for has come about the channel is RUNNING again, and asks
again within the same step. -/
def Obligations.WaitsEndWhenTheirConditionHolds : Prop :=
  ((∀ (s : State) (ch : Channel) (g : Fin 16) (high : Bool) (timeout : Nat),
    AtEntry s ch (.waitLine g high timeout) →
    ((s.gate g).high = high →
      exec (.waitLine ch) s =
        .next (State.settle (s.setChan ch ((s.chan ch).shift s.page.geo)))) ∧
    ((s.gate g).high ≠ high →
      exec (.waitLine ch) s =
        .next (State.settle
          (s.setChan ch
            { s.chan ch with
              state := .waiting .gate
              waitTimer :=
                if (s.chan ch).waitTimer = 0 then timeout else (s.chan ch).waitTimer })))) ∧
  ∀ (s : State) (ch : Channel) (g : Fin 16) (high : Bool) (timeout : Nat),
    AtWait s ch .gate (.waitLine g high timeout) →
    ((s.gate g).high = high →
      exec (.waitGateEnd ch) s =
        .next (State.settle
          (s.setChan ch (Chan.shift { s.chan ch with state := .running } s.page.geo)))) ∧
    (0 < (s.chan ch).waitTimer →
      exec (.waitLineTimeout ch) s = .next (State.settle (s.faultEntry ch .waitExpired)))) ∧
  (∀ (s : State) (ch : Channel), s.boundaryDue ch = false →
    (∀ m, (s.chan ch).state = .waiting .motor → motorFor ch = some m →
      ((s.chan ch).atLines = true → (s.motor m).halted = none) →
      ((s.chan ch).atLines = false → (s.motor m).moving = false) →
      exec (.waitMotorEnd ch) s =
        .next (State.settle (s.setChan ch { s.chan ch with state := .running }))) ∧
    (∀ ref, (s.chan ch).state = .waiting .lines → (s.chan ch).openPage = some ref →
      (((s.chan ch).position ≤ (s.slot ref.slot).stored ∧
          (s.slot ref.slot).freed < (s.chan ch).position) ∨
        (s.slot ref.slot).state ≠ .filling) →
      exec (.waitLinesEnd ch) s =
        .next (State.settle (s.setChan ch { s.chan ch with state := .running }))) ∧
    (ch = .codeIn → (s.chan ch).state = .waiting .space → s.page.r < s.page.free.length →
      exec .waitSpaceEnd s =
        .next (State.settle (s.setChan ch { s.chan ch with state := .running }))))

/-- What page memory does when a page is completed (01 R16, R17, R18): unstored lines dropped from the last band
or bands, a band left with none returned to the tail of the free list, truncated for a cut, a consume page's
band behind its reader freed, released at once when release is pending and nobody reads it. CLOSE_WRITER and
CLOSE_READER (02 R46, R47; 01 R15, R17; 05 R101). That a PAGE END placed in the send buffer while CRSTN is low
is not offered until it rises is the model's choice (log 56). -/
def Obligations.CloseEndsAPageOrAReading : Prop :=
  (∀ s : State,
    (s.writerQuiet .scan = true ↔ s.scan.bufA.state = .free ∧ s.scan.bufB.state = .free) ∧
    (s.writerQuiet .codeIn = true ↔ s.coder.recv ≠ .receiving ∧ s.coder.recv ≠ .storing)) ∧
  (∀ (s : State) (i : Fin 16) (cut : Bool),
    ((s.closePage i cut).slot i).state = .complete ∧
    ((s.closePage i cut).slot i).writer = none ∧
    ((s.closePage i cut).slot i).assigned = (s.slot i).stored ∧
    ((s.closePage i cut).slot i).stored = (s.slot i).stored ∧
    ((s.closePage i cut).slot i).gen = (s.slot i).gen ∧
    ((s.closePage i cut).slot i).truncated = ((s.slot i).truncated || cut) ∧
    ((s.closePage i cut).slot i).concealed = (s.slot i).concealed ∧
    ((s.closePage i cut).slot i).readers = (s.slot i).readers ∧
    (∀ j, j ≠ i → (s.closePage i cut).slot j = s.slot j) ∧
    ((s.slot i).release = false ∨ (s.slot i).readers ≠ 0 →
      s.completePage i cut = s.closePage i cut) ∧
    ((s.slot i).release = true → (s.slot i).readers = 0 →
      (s.completePage i cut).slot i = { Page.reset with gen := (s.slot i).gen } ∧
        (s.completePage i cut).page.free =
          (s.closePage i cut).page.free ++ ((s.closePage i cut).slot i).chain)) ∧
  (∀ (s : State) (i : Fin 16) (cut : Bool),
    let p := s.slot i
    let d := p.assigned - p.stored
    ∃ t : State, s.closePage i cut = t.freeBehind i ∧
      (p.consume = false → t.freeBehind i = t) ∧
      t.slot i = { p with
        state := .complete
        writer := none
        assigned := p.stored
        truncated := p.truncated || cut
        chain := (t.slot i).chain } ∧
      (∀ j, j ≠ i → t.slot j = s.slot j) ∧
      (∀ b, b ∉ p.chain → t.bandUsed b = s.bandUsed b) ∧
      (p.chain = [] →
        (t.slot i).chain = [] ∧ t.page.free = s.page.free ∧
          t.page.returned = s.page.returned ∧ t.sensor = s.sensor) ∧
      (∀ pre b, p.chain = pre ++ [b] → b ∉ pre →
        (d < s.bandUsed b →
          (t.slot i).chain = p.chain ∧ t.page.free = s.page.free ∧
            t.page.returned = s.page.returned ∧ t.sensor = s.sensor ∧
            t.bandUsed b = s.bandUsed b - d ∧
            ∀ c, c ∈ pre → t.bandUsed c = s.bandUsed c) ∧
        (s.bandUsed b ≤ d →
          (t.slot i).chain = pre ∧ t.page.free = s.page.free ++ [b] ∧
            t.page.returned = s.page.returned + 1 ∧ t.bandUsed b = 0 ∧
            ∀ rest c, pre = rest ++ [c] → c ∉ rest →
              t.bandUsed c = s.bandUsed c - (d - s.bandUsed b))) ∧
      t.page.r = s.page.r ∧ t.page.taken = s.page.taken ∧ t.page.geo = s.page.geo ∧
      t.page.slotWait = s.page.slotWait ∧
      t = { s with page := t.page, sensor := t.sensor }) ∧
  (∀ (s : State) (ch : Channel), AtEntry s ch .close →
    (isWriter ch = true →
      ((s.chan ch).openPage = none →
        exec (.closeWriter ch) s = .next (State.settle (s.faultEntry ch .noPage))) ∧
      (∀ ref, (s.chan ch).openPage = some ref → s.writerQuiet ch = true →
        ∃ e, exec (.closeWriter ch) s = .next (State.settle e) ∧
          e.page = (s.completePage ref.slot false).page ∧
          e.sensor = (s.completePage ref.slot false).sensor ∧
          e.chan ch = { s.chan ch with
            openPage := none
            held := none
            phase := .ending
            notices :=
              [{ body := .pageClosed (s.slot ref.slot).stored (s.slot ref.slot).truncated
                    (s.slot ref.slot).concealed
                 page := some ref }] } ∧
          (∀ d, d ≠ ch → e.chan d = s.chan d) ∧
          e = { s with page := e.page, sensor := e.sensor, chans := e.chans })) ∧
    (isWriter ch = false →
      ((s.chan ch).openPage = none →
        exec (.closeReader ch) s = .next (State.settle (s.faultEntry ch .noPage))) ∧
      (∀ ref, (s.chan ch).openPage = some ref →
        (ch = .codeOut ∧ (s.slot ref.slot).state = .complete ∧
            (s.slot ref.slot).stored < (s.chan ch).position → s.coder.sendBuf = none →
          exec (.closeReader ch) s =
            .next (State.settle
              { s.setChan ch { s.chan ch with phase := .begun } with
                coder := { s.coder with
                  sendBuf := some .pageEnd
                  bytesSent := 0
                  send := if s.coder.resetLow = true then .idle else .offering } })) ∧
        (ch = .print ∨ (s.slot ref.slot).state ≠ .complete ∨
            (s.chan ch).position ≤ (s.slot ref.slot).stored →
          ∃ e, exec (.closeReader ch) s = .next (State.settle e) ∧
            e.page = (s.leave ref.slot ch (s.chan ch).releaseOnClose).page ∧
            e.sensor = (s.leave ref.slot ch (s.chan ch).releaseOnClose).sensor ∧
            e.chan ch =
              Chan.shift { s.chan ch with openPage := none, releaseOnClose := false }
                s.page.geo ∧
            (∀ d, d ≠ ch → e.chan d = s.chan d) ∧
            e = { s with page := e.page, sensor := e.sensor, chans := e.chans }))) ∧
    (∀ (i : Fin 16) (release : Bool),
      let p := (s.slot i).setReader ch false
      ((s.slot i).state ≠ .complete ∨ (p.release || release) = false ∨ p.readers ≠ 0 →
        s.leave i ch release = s.setSlot i { p with release := p.release || release }) ∧
      ((s.slot i).state = .complete → (p.release || release) = true → p.readers = 0 →
        (s.leave i ch release).slot i = { Page.reset with gen := (s.slot i).gen } ∧
          (s.leave i ch release).page.free = s.page.free ++ (s.slot i).chain)))

/-- MARK, END and UNKNOWN_ENTRY (02 R48, R49, R50; 02 R34): the notices of a mark and of a chain's end, and
the fault of an entry that its channel may not execute. A next entry whose address lay outside the general area
faults with BAD_ADDRESS when it becomes current (02 R30); that UNKNOWN_ENTRY is the row for it is log 18
(DEDUCED). An entry that faults does so under a pause request too (02 R50, `AtEntry`). -/
def Obligations.MarkEndAndUnknownEntries : Prop :=
  (∀ (s : State) (ch : Channel) (v : Nat), AtEntry s ch (.mark v) →
    exec (.mark ch) s =
      .next (State.settle
        (s.setChan ch
          { s.chan ch with
            phase := .ending
            notices :=
              [{ body := .mark v
                  ((s.chan ch).openPage.elim 0 fun ref =>
                    if isWriter ch then (s.slot ref.slot).assigned else (s.chan ch).position - 1)
                 page := (s.chan ch).openPage }] }))) ∧
  (∀ (s : State) (ch : Channel), AtEntry s ch .finish →
    (ch = .scan → s.scan.bufA.state = .free ∧ s.scan.bufB.state = .free) →
    (ch = .codeIn → s.coder.recv ≠ .receiving ∧ s.coder.recv ≠ .storing) →
    (ch = .print → s.print.queue = [] ∧ s.chans.print.reading = false) →
    (ch = .codeOut → s.coder.sendBuf = none ∧ s.chans.codeOut.reading = false) →
    exec (.endEntry ch) s =
      .next (State.settle
        (s.setChan ch
          { s.chan ch with
            phase := .ending
            notices := [{ body := .chainEnd false (s.chan ch).entryAddr, page := none }] }))) ∧
  (∀ (s : State) (ch : Channel) (e : Entry), AtEntry s ch e →
    e = .unknown ∨ (isWriter ch = false ∧ ∃ a b c n, e = .openWrite a b c n) ∨
      (isWriter ch = true ∧ ∃ a b c i g n, e = .openRead a b c i g n) ∨
      (ch ≠ .scan ∧ ∃ a b m t, e = .setProcessing a b m t) ∨
      (motorFor ch = none ∧ (e = .unlink ∨ ∃ p n t, e = .linkMotor p n t)) →
    exec (.unknownEntry ch) s = .next (State.settle (s.faultEntry ch .badEntry))) ∧
  ∀ (s : State) (ch : Channel), AtEntry s ch .notFetched →
    exec (.unknownEntry ch) s = .next (State.settle (s.faultEntry ch .badAddress))

/-- PAUSE_BOUNDARY_REACHED (02 R53): PAUSED with its notice, its wait given up, and where the boundary of each
channel lies. ABORT_BOUNDARY_REACHED and a fault (02 R51, R54): the abort steps, the same for both
(`AbortStepsDone`), and the final notice, which says which it was. An entry at its turn that gives a fault gives
it before any boundary is reached (02 R50); that the boundary rows then leave the state as it is, not being due,
is log 1. A channel that is WAITING is at its boundary whatever frame of it is being sent, which is completed
afterwards (02 R53, 05 R101), and whatever Scan's motor does, but for lines in flight. In WAIT_REPORT the notice
is posted first; one in writing is posted before the notice that the boundary calls for (02 R33, R51, R53).
Deduced or chosen, and marked so: an ABORT finds Scan at its boundary whatever its motor does (log 32), a channel
in WAIT_REPORT is WAITING in this sense until its boundary though its last notice has been posted (log 70), a
step that was held for the burn when the link of Print ends stays committed with the hold cleared until a further
MOTOR_STEP (log 64), Print is shown RUNNING while its final notice is kept back for a burn (log 31), an ABORT of
Print lets a line read end before its steps (log 49), and a frame that waits for CRSTN is discarded as one on
offer is (log 56). -/
def Obligations.BoundariesPauseOrAbortTheChannel : Prop :=
  ((∀ (s : State) (ch : Channel) (cause : PauseCause), (s.chan ch).pauseReq = some (.pause cause) →
    (s.chan ch).state ≠ .idle → (s.chan ch).state ≠ .paused →
    ((s.chan ch).notices = [] ∨ (s.chan ch).state ≠ .waiting .report) →
    (∀ n ∈ (s.chan ch).notices, n.final = false) →
    s.faultStands ch = false → s.atBoundary ch false = true →
    exec (.pauseBoundaryReached ch) s =
      .next (State.settle
        { s.setChan ch
            { s.chan ch with
              state := .paused
              pauseReq := none
              notices := (s.chan ch).notices ++ [{ body := .paused cause, page := none }] } with
          page := { s.page with slotWait := s.page.slotWait.filter fun d => d ≠ ch } })) ∧
  ∀ (s : State) (abort : Bool),
    (s.atBoundary .scan abort = true ↔
      (s.scan.bufA.state = .free ∧ s.scan.bufB.state = .free) ∧
        (abort = true ∨ (s.motor .m0).moving = false ∨ (s.motor .m0).link = none ∨
          (s.chan .scan).atLines = false ∨ ∃ w, (s.chan .scan).state = .waiting w)) ∧
    (s.atBoundary .print abort = true ↔
      (s.chan .print).reading = false ∨
        (abort = false ∧ ∃ w, (s.chan .print).state = .waiting w)) ∧
    (s.atBoundary .codeOut abort = true ↔
      (s.chan .codeOut).reading = false ∧
        (s.coder.send ≠ .sending ∨ ∃ w, (s.chan .codeOut).state = .waiting w)) ∧
    (s.atBoundary .codeIn abort = true ↔
      s.coder.recv ≠ .receiving ∧ s.coder.recv ≠ .storing)) ∧
  (∀ (s : State) (ch : Channel),
    (s.faultStands ch = true ↔
      ∃ e a, (s.chan ch).current = some { addr := a, entry := e } ∧
        ((s.chan ch).state = .running ∨ (s.chan ch).state = .waiting .device ∨
          (s.chan ch).state = .waiting .report) ∧
        (s.chan ch).phase = .fresh ∧ (s.chan ch).notices = [] ∧ (s.entryFault ch e).isSome = true) ∧
    (s.faultStands ch = true →
      exec (.pauseBoundaryReached ch) s = .next s ∧
        exec (.abortBoundaryReached ch) s = .next s)) ∧
  (∀ (s : State) (ch : Channel), (s.chan ch).pauseReq = some .abort →
    (((s.chan ch).state = .paused ∧ (ch = .print → (s.chan ch).reading = false)) ∨
      ((s.chan ch).state ≠ .idle ∧
        ((s.chan ch).notices = [] ∨ (s.chan ch).state ≠ .waiting .report) ∧
        (∀ n ∈ (s.chan ch).notices, n.final = false) ∧ s.faultStands ch = false ∧
        s.atBoundary ch true = true)) →
    ∃ e, exec (.abortBoundaryReached ch) s = .next (State.settle e) ∧
      AbortStepsDone s ch { body := .chainEnd true (s.chan ch).entryAddr, page := none } e ∧
      (e.chan ch).chainFault = (s.chan ch).chainFault) ∧
  ∀ (s : State) (ch : Channel) (code : FaultCode) (addr : Nat),
    AbortStepsDone s ch { body := .chainFault code addr, page := none } (s.faultChan ch code addr) ∧
      ((s.faultChan ch code addr).chan ch).chainFault = true ∧
      s.faultEntry ch code = s.faultChan ch code (s.chan ch).entryAddr

/-! ## Lines on the three paths (03, 04, 05) -/

/-- 03 R71: a dot's place in its byte and its section, and what the buffer holds at the end of a capture. -/
def Obligations.DotsArePackedAndCounted : Prop :=
  (∀ (dots : List Bool) (x : Nat), dots.length = 1728 → x < 1728 →
    (packDots dots).length = 216 ∧
    ((packDots dots).getD (x / 8) 0).getLsbD (7 - x % 8) = dots.getD x false) ∧
  (∀ (dots : List Bool) (i : Nat), dots.length = 1728 → i < 4 →
    (countsOf dots).get i =
      ((List.range 432).filter fun k => dots.getD (432 * i + k) false).length) ∧
  (∀ bytes : List Byte, bytes.length = 216 → packDots (unpackDots bytes) = bytes) ∧
  ∀ (s : State) (b : BufId) (samples : List Byte),
    ((s.finishCapture b samples).buf b).dots = packDots (s.convert (s.buf b).sel samples) ∧
      ((s.finishCapture b samples).buf b).counts = countsOf (s.convert (s.buf b).sel samples)

/-- CAPTURE_END and SCAN_WRITE_END (03 R59, R65, R66; 01 R12, R14): the buffer is READY and an ARMED one
begins its capture with a pulse of SSTART (the model counts its pulses, log 46); the slot write ends with the
line stored and the buffer FREE. -/
def Obligations.CapturesEndAndLinesAreStored : Prop :=
  (∀ (s : State) (b : BufId) (samples : List Byte), (s.buf b).state = .capturing →
    (s.buf b.other).state ≠ .capturing → samples.length = 1728 →
    ∃ e, exec (.captureEnd samples) s = .next (State.settle e) ∧
      e.buf b = { s.buf b with
        state := .ready
        dots := packDots (s.convert (s.buf b).sel samples)
        counts := countsOf (s.convert (s.buf b).sel samples)
        error := 0 } ∧
      ((s.buf b.other).state = .armed →
        e.buf b.other = { s.buf b.other with state := .capturing } ∧ e.scan.busy = true ∧
          e.scan.captureTicks = s.scan.tLine ∧ e.scan.starts = s.scan.starts + 1 ∧
          sstart s e = true) ∧
      ((s.buf b.other).state ≠ .armed →
        e.buf b.other = s.buf b.other ∧ e.scan.busy = false ∧
          e.scan.captureTicks = s.scan.captureTicks ∧ e.scan.starts = s.scan.starts) ∧
      e.scan = { s.scan with
        busy := e.scan.busy, bufA := e.scan.bufA, bufB := e.scan.bufB
        captureTicks := e.scan.captureTicks, starts := e.scan.starts } ∧
      e = { s with scan := e.scan }) ∧
  (∀ (s : State) (b : BufId) (a : Nat), MemoryOk s → s.port.busy = some (.scanWrite b a) →
    s.port.done = 0 → (s.buf b).dots.length = 216 →
    ∃ e, exec .scanWriteEnd s = .next (State.settle e) ∧
      Memory.readBytes e.mem a 256 =
        (s.buf b).dots ++ le16 (s.buf b).counts.c0 ++ le16 (s.buf b).counts.c1 ++
          le16 (s.buf b).counts.c2 ++ le16 (s.buf b).counts.c3 ++
          le16 (if (s.buf b).tail then 2 else 0) ++ le16 (s.buf b).line ++ List.replicate 28 0 ∧
      (∀ x, x < a ∨ a + 256 ≤ x → Memory.read e.mem x = Memory.read s.mem x) ∧
      e.slot (s.buf b).page.slot =
        { s.slot (s.buf b).page.slot with stored := (s.slot (s.buf b).page.slot).stored + 1 } ∧
      (∀ j, j ≠ (s.buf b).page.slot → e.slot j = s.slot j) ∧
      e.chan .scan = { s.chan .scan with moved := (s.chan .scan).moved + 1 } ∧
      (∀ d, d ≠ .scan → e.chan d = s.chan d) ∧
      e.buf b = { s.buf b with state := .free } ∧ e.buf b.other = s.buf b.other ∧
      e.port.busy = none ∧
      e = { s.releasePort with
        mem := e.mem
        page := { s.page with slots := e.page.slots }
        chans := e.chans
        scan := { s.scan with bufA := e.scan.bufA, bufB := e.scan.bufB } }) ∧
  ∀ (s : State) (b : BufId) (a : Nat), MemoryOk s → s.port.busy = some (.scanWrite b a) →
    ∃ e, exec .scanWriteEnd s = .next (State.settle e) ∧
      e.slot (s.buf b).page.slot =
        { s.slot (s.buf b).page.slot with stored := (s.slot (s.buf b).page.slot).stored + 1 } ∧
      e.buf b = { s.buf b with state := .free } ∧ e.port.busy = none

/-- A trigger of Scan's motor (03 R62, R63, R64, R59; 02 R39): without an open page nothing, without a LINES
entry or a buffer the page is truncated, at its limit nothing; else the line takes buffer A if FREE, else B,
and the sensor, with a pulse of SSTART, if FREE. The line that leaves none remaining ends the entry; one that
brings the page to its limit before that calls for PAGE LIMIT. The pulses of SSTART are counted by the model alone
(log 46). That a trigger for which there is no FREE band
truncates the page is the model's choice (log 55). -/
def Obligations.TriggersAssignLines : Prop :=
  (∀ s : State, s.chans.scan.openPage = none → s.offerTrigger = s) ∧
  ∀ (s : State) (p : PageRef), s.chans.scan.openPage = some p →
    (((s.chan .scan).state ≠ .running ∨ (s.chan .scan).inLines = false) →
      s.offerTrigger = s.setSlot p.slot { s.slot p.slot with truncated := true }) ∧
    ((s.chan .scan).state = .running → (s.chan .scan).inLines = true →
      s.scan.bufA.state ≠ .free → s.scan.bufB.state ≠ .free →
      s.offerTrigger = s.setSlot p.slot { s.slot p.slot with truncated := true }) ∧
    (∀ (b : BufId), (s.chan .scan).state = .running → (s.chan .scan).inLines = true →
      (s.scan.bufA.state = .free ∧ b = .bufA ∨
        s.scan.bufA.state ≠ .free ∧ s.scan.bufB.state = .free ∧ b = .bufB) →
      ((s.slot p.slot).assigned = (s.slot p.slot).limit → s.offerTrigger = s) ∧
      ((s.slot p.slot).assigned ≠ (s.slot p.slot).limit →
        ((s.slot p.slot).assigned % 64 = 0 → s.page.free = [] →
          s.offerTrigger = s.setSlot p.slot { s.slot p.slot with truncated := true }) ∧
        (((s.slot p.slot).assigned % 64 ≠ 0 ∨ s.page.free ≠ []) →
          ∃ u : State,
            (u.slot p.slot).assigned = (s.slot p.slot).assigned + 1 ∧
            (u.slot p.slot).limit = (s.slot p.slot).limit ∧
            u.buf b =
              { state := if s.scan.busy then .armed else .capturing
                line := (s.slot p.slot).assigned + 1
                page := p
                addr := (s.assignLine p.slot true).1.lineAddr p.slot ((s.slot p.slot).assigned + 1)
                sel := (s.chan .scan).sel
                tail := (s.chan .scan).nextIsTail
                dots := []
                counts := Counts.zero
                error := 0 } ∧
            u.buf b.other = s.buf b.other ∧ u.scan.busy = true ∧
            u.scan.starts = (if s.scan.busy then s.scan.starts else s.scan.starts + 1) ∧
            u.chan .scan = { s.chan .scan with
              remaining := (s.chan .scan).remaining - 1
              edge := (s.chan .scan).edge.map (· + 1) } ∧
            (∀ d, d ≠ .scan → u.chan d = s.chan d) ∧
            u.page = (s.assignLine p.slot true).1.page ∧
            u = { s with
              page := u.page, scan := u.scan, chans := u.chans, sensor := u.sensor } ∧
            ((s.chan .scan).remaining ≤ 1 → s.offerTrigger = u.endEntry .scan) ∧
            (2 ≤ (s.chan .scan).remaining →
              (s.slot p.slot).assigned + 1 = (s.slot p.slot).limit →
              s.offerTrigger =
                u.setChan .scan
                  { u.chan .scan with
                    phase := .ending
                    notices := (s.chan .scan).notices ++
                      [{ body := .pageLimit (s.slot p.slot).limit, page := some p }] }) ∧
            (2 ≤ (s.chan .scan).remaining →
              (s.slot p.slot).assigned + 1 ≠ (s.slot p.slot).limit → s.offerTrigger = u))))

/-- The lines page memory assigns (01 R9, R10, R11, R18): the limit, the next slot of the last band, or the
head band of the free list, from the reservation for Scan, with the lines used of the bands (01 R2); on a consume page
the band behind its reader is freed with it. A reader that has left has no position (log 44). -/
def Obligations.PageMemoryAssignsLines : Prop :=
  ∀ (s : State) (i : Fin 16) (scan : Bool),
    let p := s.slot i
    (p.assigned = p.limit → s.assignLine i scan = (s, .limit)) ∧
    (p.assigned ≠ p.limit → p.assigned % 64 = 0 →
      (if scan then s.page.free = [] else s.page.free.length ≤ s.page.r) →
      s.assignLine i scan = (s, .noBand)) ∧
    (∀ b rest, p.assigned ≠ p.limit → p.assigned % 64 = 0 → s.page.free = b :: rest →
      (scan = true ∨ s.page.r < s.page.free.length) → p.consume = false →
      ∃ t, s.assignLine i scan = (t, .line (p.assigned + 1) (t.lineAddr i (p.assigned + 1))) ∧
        t.slot i = { p with assigned := p.assigned + 1, chain := p.chain ++ [b] } ∧
        (b < s.page.used.length → t.bandUsed b = 1) ∧
        (∀ c, c ≠ b → t.bandUsed c = s.bandUsed c) ∧
        (∀ j, j ≠ i → t.slot j = s.slot j) ∧
        t.page.free = rest ∧ t.page.r = (if scan then s.page.r - 1 else s.page.r) ∧
        t.page.taken = s.page.taken + 1 ∧
        t = { s with page := t.page, sensor := t.sensor }) ∧
    (∀ b rest, p.assigned ≠ p.limit → p.assigned % 64 = 0 → s.page.free = b :: rest →
      (scan = true ∨ s.page.r < s.page.free.length) → p.consume = true → p.state = .filling →
      ∃ t, s.assignLine i scan = (t, .line (p.assigned + 1) (t.lineAddr i (p.assigned + 1))) ∧
        (∀ j, j ≠ i → t.slot j = s.slot j) ∧
        t.page.r = (if scan then s.page.r - 1 else s.page.r) ∧
        t.page.taken = s.page.taken + 1 ∧
        t = { s with page := t.page, sensor := t.sensor } ∧
        (∀ n c cs, s.readerPosition p = some n → p.freed + 64 < n → p.chain = c :: cs →
          t.slot i = { p with
            assigned := p.assigned + 1, chain := cs ++ [b], freed := p.freed + 64 } ∧
          t.page.free = rest ++ [c] ∧ t.page.returned = s.page.returned + 1 ∧
          t.bandUsed c = 0 ∧ (b ≠ c → b < s.page.used.length → t.bandUsed b = 1) ∧
          ∀ d, d ≠ b → d ≠ c → t.bandUsed d = s.bandUsed d) ∧
        ((p.chain = [] ∨ ∀ n, s.readerPosition p = some n → n ≤ p.freed + 64) →
          t.slot i = { p with assigned := p.assigned + 1, chain := p.chain ++ [b] } ∧
          t.page.free = rest ∧ t.page.returned = s.page.returned ∧
          (b < s.page.used.length → t.bandUsed b = 1) ∧
          ∀ d, d ≠ b → t.bandUsed d = s.bandUsed d)) ∧
    (p.assigned ≠ p.limit → p.assigned % 64 ≠ 0 →
      ∃ t, s.assignLine i scan = (t, .line (p.assigned + 1) (t.lineAddr i (p.assigned + 1))) ∧
        t.slot i = { p with assigned := p.assigned + 1 } ∧
        (∀ j, j ≠ i → t.slot j = s.slot j) ∧ t.page.free = s.page.free ∧ t.page.r = s.page.r ∧
        (∀ l, p.chain.getLast? = some l →
          (l < s.page.used.length → t.bandUsed l = s.bandUsed l + 1) ∧
          ∀ c, c ≠ l → t.bandUsed c = s.bandUsed c) ∧
        t = { s with page := t.page })

/-- A copy as it enters the print queue (04 R81, R82, R83, R84): the dots, the counts held to 432, the phases
(O15), the burn time and the cap. LINE_READ_END (02 R41, 04 R79, 05 R100): the reader's position, count and lines
moved; Print's copies at the tail of the queue and its accumulator; Code-out's frame on offer, or waiting while
CRSTN is low (log 56); then the end of the LINES entry, when its count has been read (O42; that a Print channel
which is in WAIT_MOTOR then is RUNNING in its next entry is log 68). On a consume page the end of the read of a
band's 64th line frees that band, the page's first, when it is not the last or the page is COMPLETE (01 R18). -/
def Obligations.LineReadsAdvanceTheReader : Prop :=
  (∀ (s : State) (line index : Nat) (slot : List Byte),
    let c := s.newCopy line index slot
    c.line = line ∧ c.index = index ∧ c.dots = slot.take 216 ∧
    c.counts = ⟨min (wordAt slot 216) 432, min (wordAt slot 218) 432, min (wordAt slot 220) 432,
      min (wordAt slot 222) 432⟩ ∧
    c.phases = phasesOf s.print.dmax c.counts ∧
    c.width = s.print.strobe.getD s.print.headClass 0 ∧ c.burn = 108 + c.phases * c.width ∧
    c.ended = false ∧
    ∀ l : Link, (s.motor .m1).link = some l →
      let t := s.ramp l.ramp
      (∀ k, c.cap = some k → k < t.length ∧ c.burn ≤ l.spl * t.getD k 0 ∧
        ∀ j, k < j → j < t.length → l.spl * t.getD j 0 < c.burn) ∧
      (c.cap = none ↔ ∀ j, j < t.length → l.spl * t.getD j 0 < c.burn)) ∧
  ∀ (s : State) (ch : Channel) (a : Nat), s.port.busy = some (.lineRead ch a) →
    (s.chan ch).reading = true →
    ∃ t, exec .lineReadEnd s = .next t ∧
      (t.chan ch).position = (s.chan ch).position + 1 ∧
      (t.chan ch).moved = (s.chan ch).moved + 1 ∧
      (ch = .print → (t.chan ch).scaleAcc =
        ((s.chan ch).scaleAcc + (s.chan ch).scale) % 256) ∧
      (∀ d, d ≠ ch → (t.chan d).position = (s.chan d).position ∧
        (t.chan d).moved = (s.chan d).moved) ∧
      t.eeprom = s.eeprom ∧ t.boot = s.boot ∧ t.power = s.releasePort.power ∧
      t.print.strobe = s.print.strobe ∧
      (∃ e : State, t = State.settle (e.endIfRead ch) ∧
        (∀ d, d ≠ ch → e.chan d = s.chan d) ∧
        e.chan ch = { s.chan ch with
          reading := false
          position := (s.chan ch).position + 1
          remaining := (s.chan ch).remaining - 1
          moved := (s.chan ch).moved + 1
          scaleAcc := (e.chan ch).scaleAcc } ∧
        (ch ≠ .print → e.print = s.print) ∧ (ch ≠ .codeOut → e.coder = s.coder) ∧
        e.mem = s.mem ∧
        e = { s.releasePort with
          chans := e.chans, page := e.page, sensor := e.sensor, print := e.print
          coder := e.coder } ∧
        ((s.chan ch).openPage = none → e.page = s.page ∧ e.sensor = s.releasePort.sensor) ∧
        (∀ ref, (s.chan ch).openPage = some ref →
          let p := s.slot ref.slot
          (p.consume = false ∨ p.chain = [] ∨ (p.chain.length = 1 ∧ p.state ≠ .complete) →
            e.page = s.page ∧ e.sensor = s.releasePort.sensor) ∧
          ((ch = .print ∧ p.readPrint = true) ∨
              (ch = .codeOut ∧ p.readCodeOut = true ∧ p.readPrint = false) →
            ((s.chan ch).position < p.freed + 64 →
              e.page = s.page ∧ e.sensor = s.releasePort.sensor) ∧
            (∀ b rest, p.consume = true → p.chain = b :: rest →
              p.freed + 64 ≤ (s.chan ch).position → (rest ≠ [] ∨ p.state = .complete) →
              e.slot ref.slot = { p with chain := rest, freed := p.freed + 64 } ∧
                (∀ j, j ≠ ref.slot → e.slot j = s.slot j) ∧
                e.page.free = s.page.free ++ [b] ∧ e.bandUsed b = 0 ∧
                (∀ c, c ≠ b → e.bandUsed c = s.bandUsed c) ∧
                e.page.returned = s.page.returned + 1 ∧
                e.page = { s.page with
                  slots := e.page.slots
                  free := e.page.free
                  used := e.page.used
                  returned := e.page.returned
                  low := e.page.low }))) ∧
        (e.chan ch).remaining = (s.chan ch).remaining - 1 ∧ (e.chan ch).reading = false ∧
        ((e.chan ch).inLines = false ∨ (e.chan ch).remaining ≠ 0 → e.endIfRead ch = e) ∧
        ((e.chan ch).inLines = true → (e.chan ch).remaining = 0 →
          e.endIfRead ch =
            (e.setChan ch
              { e.chan ch with
                state :=
                  if (e.chan ch).state = .waiting .motor then .running
                  else (e.chan ch).state }).endEntry ch) ∧
        (ch = .print → (s.chan ch).pauseReq ≠ some .abort → s.print.queue = [] →
          0 < s.print.readRequest.getD 0 → e.print.head = .shifting) ∧
        (ch = .print → (s.chan ch).pauseReq ≠ some .abort →
          e.print.queue = s.print.queue ++
            ((List.range (s.print.readRequest.getD 0)).map fun k =>
              s.newCopy (s.chan ch).position k (s.endBurst (.lineRead ch a)).port.partialData) ∧
          e.print.readRequest = none) ∧
        (ch = .print → (s.chan ch).pauseReq = some .abort →
          e.print.queue = s.print.queue ∧ e.print.readRequest = none) ∧
        (ch = .codeOut →
          e.coder.sendBuf =
            some (.line
              (bitOf (wordAt (s.endBurst (.lineRead ch a)).port.partialData 224) 0)
              (bitOf (wordAt (s.endBurst (.lineRead ch a)).port.partialData 224) 1)
              ((s.endBurst (.lineRead ch a)).port.partialData.take 216)) ∧
            e.coder.send = (if s.coder.resetLow = true then .idle else .offering) ∧
            e.coder.bytesSent = 0)) ∧
      (s.port.done = 0 → s.port.partialData = [] →
        (s.endBurst (.lineRead ch a)).port.partialData = Memory.readBytes s.mem a 256)

/-- While the head copy is shifted PCLK runs and PDATi carries section i's dots in order, a 1 being black;
SHIFT_LATCH_END ends it with a pulse of PLATN (04 R86; the model counts its pulses, log 46), and
STROBE_PHASE_END (04 R87, R88) takes the phases one after another; after the last the burn has ended, and a
step held for it is issued. PSTBi is active in the phases that name section i when its count is not 0 (R87), each
section having one phase; the head power output PPWR is on while Print is not IDLE (R78). -/
def Obligations.BurnsRunThroughTheirPhases : Prop :=
  ((∀ s : State, s.print.head = .shifting →
    s.pclk = true ∧
    exec .shiftLatchEnd s =
      .next (State.settle
        { s with print :=
          { s.print with head := .strobing 1, latches := s.print.latches + 1 } })) ∧
  (∀ (s : State) (i k : Nat) (c : Copy) (rest : List Copy), s.print.head = .shifting →
    s.print.queue = c :: rest → c.dots.length = 216 → i < 4 → k < 432 →
    (s.pdat i)[k]? =
      some ((c.dots.getD ((432 * i + k) / 8) 0).getLsbD (7 - (432 * i + k) % 8))) ∧
  ∀ s : State, s.print.head ≠ .shifting → s.pclk = false ∧ ∀ i, s.pdat i = []) ∧
  (∀ (s : State) (k : Nat) (c : Copy) (rest : List Copy), s.print.head = .strobing k →
    s.print.queue = c :: rest →
    (k < c.phases →
      exec .strobePhaseEnd s =
        .next (State.settle { s with print := { s.print with head := .strobing (k + 1) } })) ∧
    (c.phases ≤ k → s.print.clearing = none →
      let e := { s with print :=
        { s.print with queue := { c with ended := true } :: rest, head := .ended } }
      (s.motors.m1.heldStep = false → exec .strobePhaseEnd s = .next (State.settle e)) ∧
      (s.motors.m1.heldStep = true →
        exec .strobePhaseEnd s = .next (State.settle (e.issueStep .m1)))) ∧
    (∀ n, c.phases ≤ k → s.print.clearing = some n →
      exec .strobePhaseEnd s =
        .next (State.settle
          ({ s with print :=
              { s.print with queue := [], head := .idle, clearing := none } }.setChan .print
            { s.chan .print with notices := (s.chan .print).notices ++ [n] })))) ∧
  ((∀ (s : State) (i k : Nat) (c : Copy) (rest : List Copy), s.print.head = .strobing k →
    s.print.queue = c :: rest → (c.phases = 1 ∨ c.phases = 2 ∨ c.phases = 4) → 1 ≤ k →
    k ≤ c.phases → i < 4 →
    (s.strobeOut i = true ↔
      0 < c.counts.get i ∧
        (c.phases = 1 ∨ (c.phases = 2 ∧ (i < 2 ↔ k = 1)) ∨ (c.phases = 4 ∧ k = i + 1)))) ∧
  (∀ (s : State) (i : Nat), (∀ k, s.print.head ≠ .strobing k) → s.strobeOut i = false) ∧
  ∀ s : State, s.ppwr = true ↔ (s.chan .print).state ≠ .idle)

/-- FRAME_SEND_START and FRAME_TAKEN (05 R97 to R101): who may begin, the bytes of a frame and the one CD0 to CD7
carry, and what the last byte of a frame gives. While a frame is sent CRXR is inactive. The model's choices:
FRAME_SEND_START stands for active CTXR, the channel being in WAIT_DEVICE until then (log 13), and its operand
says what the coder offers, a frame offered outside LINES among it (log 14); a PAGE END, one transfer, is SENDING
with CTXV active and no byte left to drive between the two rows (log 71). -/
def Obligations.FramesTowardTheCoder : Prop :=
  ((∀ (conceal tail : Bool) (dots : List Byte),
    (Frame.line conceal tail dots).bytes =
      BitVec.ofNat 8
        (16 + (if conceal then 1 else 0) + (if tail then 2 else 0)) :: dots) ∧
  Frame.pageEnd.bytes = [0x30] ∧
  (∀ (s : State) (f : Frame), s.coder.send = .sending → s.coder.sendBuf = some f →
    s.cdOut = f.bytes[s.coder.bytesSent]?) ∧
  (∀ s : State, s.coder.send ≠ .sending → s.cdOut = none) ∧
  ∀ s : State, s.coder.send = .sending → s.coder.recv ≠ .receiving → s.coder.recv ≠ .discard →
    s.crxr = false) ∧
  (∀ (s : State) (crxv : CoderOffer), s.coder.send = .offering → s.coder.resetLow = false →
    (s.chan .codeOut).state ≠ .idle → (s.chan .codeOut).state ≠ .paused →
    (s.chan .codeOut).pauseReq = none → s.coder.recv ≠ .receiving → s.coder.recv ≠ .discard →
    (crxv = .nothing ∨ (crxv = .inLines ∧ s.mayReceive false = false) ∨
      (crxv = .outside ∧ s.mayReceive true = false) ∨ s.coder.lastReceive = true) →
    exec (.frameSendStart crxv) s =
      .next (State.settle
        ({ s with coder :=
            { s.coder with send := .sending, bytesSent := 1, lastReceive := false } }.setChan
          .codeOut
          { s.chan .codeOut with
            state :=
              if (s.chan .codeOut).state = ChState.waiting .device then .running
              else (s.chan .codeOut).state }))) ∧
  ∀ (s : State) (f : Frame), s.coder.send = .sending → s.coder.sendBuf = some f →
    let u := { s with coder :=
      { s.coder with
        sendBuf := none
        send := .idle
        bytesSent := f.length
        sent := s.coder.sent + 1 } }
    ((∀ c t d, f = .line c t d → exec .frameTaken s = .next (State.settle u)) ∧
      (f = .pageEnd → (s.chan .codeOut).openPage = none ∨ (s.chan .codeOut).phase ≠ .begun →
        exec .frameTaken s = .next (State.settle u)) ∧
      (∀ ref a, f = .pageEnd → (s.chan .codeOut).openPage = some ref →
        (s.chan .codeOut).phase = .begun →
        (s.chan .codeOut).current = some { addr := a, entry := .close } →
        ∃ e, exec .frameTaken s = .next (State.settle e) ∧ e.coder = u.coder ∧
          e.page = (s.leave ref.slot .codeOut (s.chan .codeOut).releaseOnClose).page ∧
          e.chan .codeOut =
            Chan.shift { s.chan .codeOut with openPage := none, releaseOnClose := false }
              s.page.geo ∧
          ∀ d, d ≠ .codeOut → e.chan d = s.chan d))

/-- RECEIVE_FRAME_HEADER and the ends of received frames (05 R99, R103 to R106, R108): a frame outside a LINES
entry is unsolicited; good, bad, malformed, PAGE END, unsolicited and cut-short frames. That the row's operands
say whether the frame was offered outside LINES and whether CTXR is active is the model's choice (log 14); that a
frame is taken in a drain too is log 54; that one offered outside LINES is taken as unsolicited in every state of
the channel, PAUSED and WAIT_REPORT too, by R106 where the last row of R108 has it wait, is log 69. -/
def Obligations.ReceivedFramesAreJudgedByKindAndLength : Prop :=
  (∀ (s : State) (h : Byte) (out ctxr : Bool), s.coder.resetLow = false →
    (s.power.state = .run ∨ s.power.state = .drain) →
    (s.coder.recv = .ready ∨
      s.coder.recv = .idle ∧ (out = true ∨ (s.chan .codeIn).atLines = false)) →
    s.coder.send ≠ .sending → (ctxr = false ∨ s.maySend = false ∨ s.coder.lastReceive = false) →
    exec (.receiveFrameHeader h out ctxr) s =
      .next (State.settle
        { s with coder :=
          { s.coder with
            recv :=
              if out = true ∨ (s.chan .codeIn).atLines = false then .discard else .receiving
            header := h
            rxDots := []
            rxCounts := Counts.zero
            bytesReceived := 1
            cutShort := false
            lastReceive := true } })) ∧
  (∀ (s : State), s.coder.recv = .receiving →
    (∀ dots : List Byte, s.coder.header.toNat / 16 = 1 → dots.length = 216 →
      exec (.lineReceived dots) s =
        .next (State.settle
          { s with coder :=
            { s.coder with
              recv := .storing
              bytesReceived := 217
              received := s.coder.received + 1
              rxDots := dots
              rxCounts := countsOf (unpackDots dots)
              conceal := false } })) ∧
    (s.coder.header.toNat / 16 = 2 →
      exec .badLineReceived s =
        .next (State.settle
          { s with coder :=
            { s.coder with
              recv := .storing
              bytesReceived := 1
              received := s.coder.received + 1
              conceal := true } })) ∧
    (∀ n : Nat, 1 ≤ n →
      ¬(s.coder.header.toNat / 16 = 1 ∧ n = 217) → ¬(s.coder.header.toNat / 16 = 2 ∧ n = 1) →
      ¬(s.coder.header.toNat / 16 = 3 ∧ n = 1) →
      exec (.malformedFrame n) s =
        .next (State.settle
          ({ s with coder :=
            { s.coder with
              recv := .storing
              bytesReceived := min 65535 n
              received := s.coder.received + 1
              conceal := true
              frameError := true } }.raise 23 .frame (.word (min 65535 n))))) ∧
    (s.coder.header.toNat / 16 = 3 →
      let u := { s with coder :=
        { s.coder with
          recv := .idle, bytesReceived := 1, received := s.coder.received + 1 } }
      ((s.chan .codeIn).inLines = true →
        exec .pageEndReceived s = .next (State.settle (u.endEntry .codeIn))) ∧
      ((s.chan .codeIn).inLines = false →
        exec .pageEndReceived s = .next (State.settle u)))) ∧
  ∀ (s : State) (n : Nat), s.coder.recv = .discard → 1 ≤ n →
    (s.coder.cutShort = false →
      exec (.unsolicitedFrame n) s =
        .next (State.settle
          ({ s with coder :=
            { s.coder with
              recv := .idle
              bytesReceived := min 65535 n
              received := s.coder.received + 1
              unsolicited := true } }.raise 23 .unsolicited (.word (min 65535 n))))) ∧
    (s.coder.cutShort = true →
      exec (.frameCutShortEnd n) s =
        .next (State.settle
          { s with coder :=
            { s.coder with
              recv := .idle
              bytesReceived := min 65535 n
              received := s.coder.received + 1
              cutShort := false } }))

/-- CODE_IN_SLOT_WRITE_END and CONCEALMENT_STORED (05 R102, R103, R104, R107; 01 R12): the slot's 256 bytes,
the line stored, the run of bad lines, the line copy, event 20 once a run reaches the limit, and PAGE LIMIT at
the end of the frame of the line whose assignment brought the page to its limit with lines remaining (`limitDue`,
O37), whatever request stands and whatever a trailing edge has made of the lines remaining. -/
def Obligations.CodeInLinesAreStoredOrConcealed : Prop :=
  ∀ (s : State) (a n : Nat) (ref : PageRef), MemoryOk s → s.port.busy = some (.codeInWrite a) →
    (s.chan .codeIn).openPage = some ref → (s.chan .codeIn).held = some n →
    (s.coder.conceal = false →
      ∃ e, exec .codeInSlotWriteEnd s = .next (State.settle e) ∧
        (s.port.done = 0 → s.coder.rxDots.length = 216 →
          Memory.readBytes e.mem a 256 =
            slotBytes s.coder.rxDots s.coder.rxCounts false false n ∧
          ∀ x, x < a ∨ a + 256 ≤ x → Memory.read e.mem x = Memory.read s.mem x) ∧
        e.slot ref.slot = { s.slot ref.slot with stored := (s.slot ref.slot).stored + 1 } ∧
        (∀ j, j ≠ ref.slot → e.slot j = s.slot j) ∧
        (let c := { s.chan .codeIn with
            moved := (s.chan .codeIn).moved + 1, held := none, badRun := 0 }
         (c.inLines = true ∧ c.limitDue = true →
            e.chan .codeIn = { c with
              phase := .ending
              notices := c.notices ++
                [{ body := .pageLimit (s.slot ref.slot).limit, page := some ref }] }) ∧
         (c.inLines = false ∨ c.limitDue = false →
            e.chan .codeIn = c)) ∧
        (∀ d, d ≠ .codeIn → e.chan d = s.chan d) ∧
        e.coder = { s.coder with
          recv := .idle
          copyDots := s.coder.rxDots
          copyCounts := s.coder.rxCounts
          burstReported := false } ∧
        e = { s.releasePort with
          mem := e.mem
          page := { s.page with slots := e.page.slots }
          chans := e.chans
          coder := e.coder }) ∧
    (s.coder.conceal = true →
      ∃ e, exec .concealmentStored s = .next (State.settle e) ∧
        (s.port.done = 0 → s.coder.copyDots.length = 216 →
          Memory.readBytes e.mem a 256 =
            slotBytes s.coder.copyDots s.coder.copyCounts true false n ∧
          ∀ x, x < a ∨ a + 256 ≤ x → Memory.read e.mem x = Memory.read s.mem x) ∧
        e.slot ref.slot = { s.slot ref.slot with
          stored := (s.slot ref.slot).stored + 1
          concealed := min 65535 ((s.slot ref.slot).concealed + 1) } ∧
        (∀ j, j ≠ ref.slot → e.slot j = s.slot j) ∧
        (let c := { s.chan .codeIn with
            moved := (s.chan .codeIn).moved + 1
            held := none
            badRun := min 65535 ((s.chan .codeIn).badRun + 1) }
         (c.inLines = true ∧ c.limitDue = true →
            e.chan .codeIn = { c with
              phase := .ending
              notices := c.notices ++
                [{ body := .pageLimit (s.slot ref.slot).limit, page := some ref }] }) ∧
         (c.inLines = false ∨ c.limitDue = false →
            e.chan .codeIn = c)) ∧
        (∀ d, d ≠ .codeIn → e.chan d = s.chan d) ∧
        e.coder = { s.coder with
          recv := .idle
          badLines := true
          conceal := false
          burstReported := s.coder.burstReported ||
            (decide (0 < s.coder.burstLimit) &&
              decide (s.coder.burstLimit ≤ min 65535 ((s.chan .codeIn).badRun + 1))) } ∧
        e.sensor =
          (if 0 < s.coder.burstLimit ∧
              s.coder.burstLimit ≤ min 65535 ((s.chan .codeIn).badRun + 1) ∧
              s.coder.burstReported = false then
              (s.releasePort.raise 20 .burst (.word n)).sensor
            else s.releasePort.sensor) ∧
        e = { s.releasePort with
          mem := e.mem
          page := { s.page with slots := e.page.slots }
          chans := e.chans
          coder := e.coder
          sensor := e.sensor })
end

