-- ==== Sys2Proof/Laws/Asleep.lean ====
section
/-! SUPPORT. The part before READY: the one shape its states have, and that nothing follows of itself in them
(09 R166, R174). -/

namespace Sys2Proof.Machine

/-- The shape of a state before READY: what `AsleepBeforeReady` leaves open. -/
def asleep (boot : BootUnit) (cycle : Option HostCycle) (data : Word) (eeprom : List Word) (free : Nat)
    (mem : List Host.Cell) (pending : List Instr) : State :=
  { State.powerOn boot.cause eeprom free pending with
    mem, boot, host := { HostPort.reset with cycle, data } }

/-- A command that is not due answers the state as it is. -/
theorem stepIf_idle {due : Bool} {s x : State} (h : due = false) : stepIf due s x = .next s := by
  subst h
  rfl

/-- A state asleep before READY has that shape. -/
theorem eq_asleep {s : State} (h : AsleepBeforeReady s) (hs : s.boot.stage ≠ .ready) :
    s = asleep s.boot s.host.cycle s.host.data s.eeprom s.free s.mem s.pending := by
  obtain ⟨-, -, h3, h4, h5, h6, h7, h8, h9, h10, h11, h12, h13⟩ := h hs
  have a := h6 .scan
  have b := h6 .print
  have c := h6 .codeOut
  have d := h6 .codeIn
  rcases s with ⟨mem, port, page, recUnit, ⟨c1, c2, c3, c4⟩, scan, print, coder, motors, sensor, power,
    boot, host, eeprom, free, pending⟩
  simp only [State.chan] at a b c d
  simp only at h3 h4 h5 h7 h8 h9 h10 h11 h12 h13
  subst a b c d h3 h4 h5 h7 h8 h9 h10 h11 h12
  simp only [asleep, State.powerOn]
  congr 1

section
variable (boot : BootUnit) (cycle : Option HostCycle) (data : Word) (eeprom : List Word) (free : Nat)
  (mem : List Host.Cell) (pending : List Instr)

/-- A state of that shape is asleep before READY. -/
theorem asleep_ok (hr : boot.ready = .none) (hs : boot.store = none) :
    AsleepBeforeReady (asleep boot cycle data eeprom free mem pending) := by
  intro _
  refine ⟨hr, hs, rfl, rfl, rfl, ?_, rfl, rfl, rfl, rfl, rfl, rfl, rfl⟩
  intro ch
  cases ch <;> rfl

theorem settleLines_asleep :
    (asleep boot cycle data eeprom free mem pending).settleLines =
      asleep boot cycle data eeprom free mem pending := rfl

theorem settleMotors_asleep :
    (asleep boot cycle data eeprom free mem pending).settleMotors =
      asleep boot cycle data eeprom free mem pending := rfl

theorem settleReports_asleep (hb : boot.stage ≠ .ready) (hr : boot.ready = .none) :
    (asleep boot cycle data eeprom free mem pending).settleReports =
      asleep boot cycle data eeprom free mem pending := by
  have h1 : (asleep boot cycle data eeprom free mem pending).fetchNext =
      asleep boot cycle data eeprom free mem pending := by
    simp [State.fetchNext, asleep, State.powerOn, RecordUnit.reset, State.mayRead, State.atReady, hr]
  have h2 : (asleep boot cycle data eeprom free mem pending).grantSlot =
      asleep boot cycle data eeprom free mem pending := by
    have h : (asleep boot cycle data eeprom free mem pending).eventAsks = false := by
      simp [State.eventAsks, asleep, hb]
    have h' : (asleep boot cycle data eeprom free mem pending).noticeChannel = none := rfl
    simp only [State.grantSlot, h, h']
    simp [asleep, State.powerOn, RecordUnit.reset]
  simp only [State.settleReports, h1, h2]
  rfl

theorem judgeCycle_asleep :
    (asleep boot cycle data eeprom free mem pending).judgeCycle =
      asleep boot cycle data eeprom free mem pending := by
  cases cycle <;> simp [State.judgeCycle, asleep, State.powerOn, DramPort.reset]

theorem arbitrate_asleep :
    (asleep boot cycle data eeprom free mem pending).arbitrate =
      asleep boot cycle data eeprom free mem pending := rfl

/-- Before READY nothing follows of itself at the end of a step. -/
theorem settle_asleep (hb : boot.stage ≠ .ready) (hr : boot.ready = .none) :
    (asleep boot cycle data eeprom free mem pending).settle =
      asleep boot cycle data eeprom free mem pending := by
  rw [State.settle, settleLines_asleep, settleMotors_asleep,
    settleReports_asleep _ _ _ _ _ _ _ hb hr, judgeCycle_asleep, arbitrate_asleep]

end

end Sys2Proof.Machine
end

