-- ==== Sys2Proof/Laws/State.lean ====
section
/-! SUPPORT. What the record updates of the state change and what they leave: one lemma for each field and
update, so that no proof has to unfold one. -/

namespace Sys2Proof.Machine

variable (s : State)

/-! ## `setChan` -/

@[simp] theorem setChan_mem (ch : Channel) (c : Chan) : (s.setChan ch c).mem = s.mem := rfl
@[simp] theorem setChan_port (ch : Channel) (c : Chan) : (s.setChan ch c).port = s.port := rfl
@[simp] theorem setChan_page (ch : Channel) (c : Chan) : (s.setChan ch c).page = s.page := rfl
@[simp] theorem setChan_recUnit (ch : Channel) (c : Chan) : (s.setChan ch c).recUnit = s.recUnit :=
  rfl
@[simp] theorem setChan_scan (ch : Channel) (c : Chan) : (s.setChan ch c).scan = s.scan := rfl
@[simp] theorem setChan_print (ch : Channel) (c : Chan) : (s.setChan ch c).print = s.print := rfl
@[simp] theorem setChan_coder (ch : Channel) (c : Chan) : (s.setChan ch c).coder = s.coder := rfl
@[simp] theorem setChan_motors (ch : Channel) (c : Chan) : (s.setChan ch c).motors = s.motors := rfl
@[simp] theorem setChan_sensor (ch : Channel) (c : Chan) : (s.setChan ch c).sensor = s.sensor := rfl
@[simp] theorem setChan_power (ch : Channel) (c : Chan) : (s.setChan ch c).power = s.power := rfl
@[simp] theorem setChan_boot (ch : Channel) (c : Chan) : (s.setChan ch c).boot = s.boot := rfl
@[simp] theorem setChan_host (ch : Channel) (c : Chan) : (s.setChan ch c).host = s.host := rfl
@[simp] theorem setChan_eeprom (ch : Channel) (c : Chan) : (s.setChan ch c).eeprom = s.eeprom := rfl
@[simp] theorem setChan_free (ch : Channel) (c : Chan) : (s.setChan ch c).free = s.free := rfl
@[simp] theorem setChan_pending (ch : Channel) (c : Chan) : (s.setChan ch c).pending = s.pending :=
  rfl
@[simp] theorem setChan_motor (ch : Channel) (c : Chan) (d : MotorId) :
    (s.setChan ch c).motor d = s.motor d := by cases d <;> rfl
@[simp] theorem setChan_slot (ch : Channel) (c : Chan) (j : Fin 16) :
    (s.setChan ch c).slot j = s.slot j := rfl
@[simp] theorem setChan_gate (ch : Channel) (c : Chan) (j : Fin 16) :
    (s.setChan ch c).gate j = s.gate j := rfl
@[simp] theorem setChan_source (ch : Channel) (c : Chan) (j : Fin 24) :
    (s.setChan ch c).source j = s.source j := rfl
@[simp] theorem setChan_ramp (ch : Channel) (c : Chan) (j : Fin 4) :
    (s.setChan ch c).ramp j = s.ramp j := rfl
@[simp] theorem setChan_buf (ch : Channel) (c : Chan) (d : BufId) :
    (s.setChan ch c).buf d = s.buf d := by cases d <;> rfl

/-! ## `setMotor` -/

@[simp] theorem setMotor_mem (m : MotorId) (x : Motor) : (s.setMotor m x).mem = s.mem := rfl
@[simp] theorem setMotor_port (m : MotorId) (x : Motor) : (s.setMotor m x).port = s.port := rfl
@[simp] theorem setMotor_page (m : MotorId) (x : Motor) : (s.setMotor m x).page = s.page := rfl
@[simp] theorem setMotor_recUnit (m : MotorId) (x : Motor) : (s.setMotor m x).recUnit = s.recUnit :=
  rfl
@[simp] theorem setMotor_chans (m : MotorId) (x : Motor) : (s.setMotor m x).chans = s.chans := rfl
@[simp] theorem setMotor_scan (m : MotorId) (x : Motor) : (s.setMotor m x).scan = s.scan := rfl
@[simp] theorem setMotor_print (m : MotorId) (x : Motor) : (s.setMotor m x).print = s.print := rfl
@[simp] theorem setMotor_coder (m : MotorId) (x : Motor) : (s.setMotor m x).coder = s.coder := rfl
@[simp] theorem setMotor_sensor (m : MotorId) (x : Motor) : (s.setMotor m x).sensor = s.sensor :=
  rfl
@[simp] theorem setMotor_power (m : MotorId) (x : Motor) : (s.setMotor m x).power = s.power := rfl
@[simp] theorem setMotor_boot (m : MotorId) (x : Motor) : (s.setMotor m x).boot = s.boot := rfl
@[simp] theorem setMotor_host (m : MotorId) (x : Motor) : (s.setMotor m x).host = s.host := rfl
@[simp] theorem setMotor_eeprom (m : MotorId) (x : Motor) : (s.setMotor m x).eeprom = s.eeprom :=
  rfl
@[simp] theorem setMotor_free (m : MotorId) (x : Motor) : (s.setMotor m x).free = s.free := rfl
@[simp] theorem setMotor_pending (m : MotorId) (x : Motor) : (s.setMotor m x).pending = s.pending :=
  rfl
@[simp] theorem setMotor_chan (m : MotorId) (x : Motor) (d : Channel) :
    (s.setMotor m x).chan d = s.chan d := by cases d <;> rfl
@[simp] theorem setMotor_slot (m : MotorId) (x : Motor) (j : Fin 16) :
    (s.setMotor m x).slot j = s.slot j := rfl
@[simp] theorem setMotor_gate (m : MotorId) (x : Motor) (j : Fin 16) :
    (s.setMotor m x).gate j = s.gate j := rfl
@[simp] theorem setMotor_source (m : MotorId) (x : Motor) (j : Fin 24) :
    (s.setMotor m x).source j = s.source j := rfl
@[simp] theorem setMotor_ramp (m : MotorId) (x : Motor) (j : Fin 4) :
    (s.setMotor m x).ramp j = s.ramp j := by cases m <;> rfl
@[simp] theorem setMotor_buf (m : MotorId) (x : Motor) (d : BufId) :
    (s.setMotor m x).buf d = s.buf d := by cases d <;> rfl

/-! ## `setSlot` -/

@[simp] theorem setSlot_mem (i : Fin 16) (p : Page) : (s.setSlot i p).mem = s.mem := rfl
@[simp] theorem setSlot_port (i : Fin 16) (p : Page) : (s.setSlot i p).port = s.port := rfl
@[simp] theorem setSlot_recUnit (i : Fin 16) (p : Page) : (s.setSlot i p).recUnit = s.recUnit := rfl
@[simp] theorem setSlot_chans (i : Fin 16) (p : Page) : (s.setSlot i p).chans = s.chans := rfl
@[simp] theorem setSlot_scan (i : Fin 16) (p : Page) : (s.setSlot i p).scan = s.scan := rfl
@[simp] theorem setSlot_print (i : Fin 16) (p : Page) : (s.setSlot i p).print = s.print := rfl
@[simp] theorem setSlot_coder (i : Fin 16) (p : Page) : (s.setSlot i p).coder = s.coder := rfl
@[simp] theorem setSlot_motors (i : Fin 16) (p : Page) : (s.setSlot i p).motors = s.motors := rfl
@[simp] theorem setSlot_sensor (i : Fin 16) (p : Page) : (s.setSlot i p).sensor = s.sensor := rfl
@[simp] theorem setSlot_power (i : Fin 16) (p : Page) : (s.setSlot i p).power = s.power := rfl
@[simp] theorem setSlot_boot (i : Fin 16) (p : Page) : (s.setSlot i p).boot = s.boot := rfl
@[simp] theorem setSlot_host (i : Fin 16) (p : Page) : (s.setSlot i p).host = s.host := rfl
@[simp] theorem setSlot_eeprom (i : Fin 16) (p : Page) : (s.setSlot i p).eeprom = s.eeprom := rfl
@[simp] theorem setSlot_free (i : Fin 16) (p : Page) : (s.setSlot i p).free = s.free := rfl
@[simp] theorem setSlot_pending (i : Fin 16) (p : Page) : (s.setSlot i p).pending = s.pending := rfl
@[simp] theorem setSlot_page_geo (i : Fin 16) (p : Page) : (s.setSlot i p).page.geo = s.page.geo :=
  rfl
@[simp] theorem setSlot_page_lowMark (i : Fin 16) (p : Page) :
    (s.setSlot i p).page.lowMark = s.page.lowMark := rfl
@[simp] theorem setSlot_page_used (i : Fin 16) (p : Page) :
    (s.setSlot i p).page.used = s.page.used := rfl
@[simp] theorem setSlot_page_free (i : Fin 16) (p : Page) :
    (s.setSlot i p).page.free = s.page.free := rfl
@[simp] theorem setSlot_page_r (i : Fin 16) (p : Page) : (s.setSlot i p).page.r = s.page.r := rfl
@[simp] theorem setSlot_page_low (i : Fin 16) (p : Page) : (s.setSlot i p).page.low = s.page.low :=
  rfl
@[simp] theorem setSlot_page_staleRef (i : Fin 16) (p : Page) :
    (s.setSlot i p).page.staleRef = s.page.staleRef := rfl
@[simp] theorem setSlot_page_taken (i : Fin 16) (p : Page) :
    (s.setSlot i p).page.taken = s.page.taken := rfl
@[simp] theorem setSlot_page_returned (i : Fin 16) (p : Page) :
    (s.setSlot i p).page.returned = s.page.returned := rfl
@[simp] theorem setSlot_page_slotWait (i : Fin 16) (p : Page) :
    (s.setSlot i p).page.slotWait = s.page.slotWait := rfl
@[simp] theorem setSlot_chan (i : Fin 16) (p : Page) (d : Channel) :
    (s.setSlot i p).chan d = s.chan d := by cases d <;> rfl
@[simp] theorem setSlot_motor (i : Fin 16) (p : Page) (d : MotorId) :
    (s.setSlot i p).motor d = s.motor d := by cases d <;> rfl
@[simp] theorem setSlot_gate (i : Fin 16) (p : Page) (j : Fin 16) :
    (s.setSlot i p).gate j = s.gate j := rfl
@[simp] theorem setSlot_source (i : Fin 16) (p : Page) (j : Fin 24) :
    (s.setSlot i p).source j = s.source j := rfl
@[simp] theorem setSlot_ramp (i : Fin 16) (p : Page) (j : Fin 4) :
    (s.setSlot i p).ramp j = s.ramp j := rfl
@[simp] theorem setSlot_buf (i : Fin 16) (p : Page) (d : BufId) : (s.setSlot i p).buf d = s.buf d :=
  by cases d <;> rfl

/-! ## `setGate` -/

@[simp] theorem setGate_mem (g : Fin 16) (x : Gateway) : (s.setGate g x).mem = s.mem := rfl
@[simp] theorem setGate_port (g : Fin 16) (x : Gateway) : (s.setGate g x).port = s.port := rfl
@[simp] theorem setGate_page (g : Fin 16) (x : Gateway) : (s.setGate g x).page = s.page := rfl
@[simp] theorem setGate_recUnit (g : Fin 16) (x : Gateway) : (s.setGate g x).recUnit = s.recUnit :=
  rfl
@[simp] theorem setGate_chans (g : Fin 16) (x : Gateway) : (s.setGate g x).chans = s.chans := rfl
@[simp] theorem setGate_scan (g : Fin 16) (x : Gateway) : (s.setGate g x).scan = s.scan := rfl
@[simp] theorem setGate_print (g : Fin 16) (x : Gateway) : (s.setGate g x).print = s.print := rfl
@[simp] theorem setGate_coder (g : Fin 16) (x : Gateway) : (s.setGate g x).coder = s.coder := rfl
@[simp] theorem setGate_motors (g : Fin 16) (x : Gateway) : (s.setGate g x).motors = s.motors := rfl
@[simp] theorem setGate_power (g : Fin 16) (x : Gateway) : (s.setGate g x).power = s.power := rfl
@[simp] theorem setGate_boot (g : Fin 16) (x : Gateway) : (s.setGate g x).boot = s.boot := rfl
@[simp] theorem setGate_host (g : Fin 16) (x : Gateway) : (s.setGate g x).host = s.host := rfl
@[simp] theorem setGate_eeprom (g : Fin 16) (x : Gateway) : (s.setGate g x).eeprom = s.eeprom := rfl
@[simp] theorem setGate_free (g : Fin 16) (x : Gateway) : (s.setGate g x).free = s.free := rfl
@[simp] theorem setGate_pending (g : Fin 16) (x : Gateway) : (s.setGate g x).pending = s.pending :=
  rfl
@[simp] theorem setGate_sensor_sources (g : Fin 16) (x : Gateway) :
    (s.setGate g x).sensor.sources = s.sensor.sources := rfl
@[simp] theorem setGate_sensor_threshold (g : Fin 16) (x : Gateway) :
    (s.setGate g x).sensor.threshold = s.sensor.threshold := rfl
@[simp] theorem setGate_sensor_merged (g : Fin 16) (x : Gateway) :
    (s.setGate g x).sensor.merged = s.sensor.merged := rfl
@[simp] theorem setGate_sensor_raises (g : Fin 16) (x : Gateway) :
    (s.setGate g x).sensor.raises = s.sensor.raises := rfl
@[simp] theorem setGate_sensor_posted (g : Fin 16) (x : Gateway) :
    (s.setGate g x).sensor.posted = s.sensor.posted := rfl
@[simp] theorem setGate_sensor_sampling (g : Fin 16) (x : Gateway) :
    (s.setGate g x).sensor.sampling = s.sensor.sampling := rfl
@[simp] theorem setGate_sensor_groups (g : Fin 16) (x : Gateway) :
    (s.setGate g x).sensor.groups = s.sensor.groups := rfl
@[simp] theorem setGate_chan (g : Fin 16) (x : Gateway) (d : Channel) :
    (s.setGate g x).chan d = s.chan d := by cases d <;> rfl
@[simp] theorem setGate_motor (g : Fin 16) (x : Gateway) (d : MotorId) :
    (s.setGate g x).motor d = s.motor d := by cases d <;> rfl
@[simp] theorem setGate_slot (g : Fin 16) (x : Gateway) (j : Fin 16) :
    (s.setGate g x).slot j = s.slot j := rfl
@[simp] theorem setGate_source (g : Fin 16) (x : Gateway) (j : Fin 24) :
    (s.setGate g x).source j = s.source j := rfl
@[simp] theorem setGate_ramp (g : Fin 16) (x : Gateway) (j : Fin 4) :
    (s.setGate g x).ramp j = s.ramp j := rfl
@[simp] theorem setGate_buf (g : Fin 16) (x : Gateway) (d : BufId) :
    (s.setGate g x).buf d = s.buf d := by cases d <;> rfl

/-! ## `setSource` -/

@[simp] theorem setSource_mem (i : Fin 24) (x : Source) : (s.setSource i x).mem = s.mem := rfl
@[simp] theorem setSource_port (i : Fin 24) (x : Source) : (s.setSource i x).port = s.port := rfl
@[simp] theorem setSource_page (i : Fin 24) (x : Source) : (s.setSource i x).page = s.page := rfl
@[simp] theorem setSource_recUnit (i : Fin 24) (x : Source) :
    (s.setSource i x).recUnit = s.recUnit := rfl
@[simp] theorem setSource_chans (i : Fin 24) (x : Source) : (s.setSource i x).chans = s.chans := rfl
@[simp] theorem setSource_scan (i : Fin 24) (x : Source) : (s.setSource i x).scan = s.scan := rfl
@[simp] theorem setSource_print (i : Fin 24) (x : Source) : (s.setSource i x).print = s.print := rfl
@[simp] theorem setSource_coder (i : Fin 24) (x : Source) : (s.setSource i x).coder = s.coder := rfl
@[simp] theorem setSource_motors (i : Fin 24) (x : Source) : (s.setSource i x).motors = s.motors :=
  rfl
@[simp] theorem setSource_power (i : Fin 24) (x : Source) : (s.setSource i x).power = s.power := rfl
@[simp] theorem setSource_boot (i : Fin 24) (x : Source) : (s.setSource i x).boot = s.boot := rfl
@[simp] theorem setSource_host (i : Fin 24) (x : Source) : (s.setSource i x).host = s.host := rfl
@[simp] theorem setSource_eeprom (i : Fin 24) (x : Source) : (s.setSource i x).eeprom = s.eeprom :=
  rfl
@[simp] theorem setSource_free (i : Fin 24) (x : Source) : (s.setSource i x).free = s.free := rfl
@[simp] theorem setSource_pending (i : Fin 24) (x : Source) :
    (s.setSource i x).pending = s.pending := rfl
@[simp] theorem setSource_sensor_gates (i : Fin 24) (x : Source) :
    (s.setSource i x).sensor.gates = s.sensor.gates := rfl
@[simp] theorem setSource_sensor_threshold (i : Fin 24) (x : Source) :
    (s.setSource i x).sensor.threshold = s.sensor.threshold := rfl
@[simp] theorem setSource_sensor_merged (i : Fin 24) (x : Source) :
    (s.setSource i x).sensor.merged = s.sensor.merged := rfl
@[simp] theorem setSource_sensor_raises (i : Fin 24) (x : Source) :
    (s.setSource i x).sensor.raises = s.sensor.raises := rfl
@[simp] theorem setSource_sensor_posted (i : Fin 24) (x : Source) :
    (s.setSource i x).sensor.posted = s.sensor.posted := rfl
@[simp] theorem setSource_sensor_sampling (i : Fin 24) (x : Source) :
    (s.setSource i x).sensor.sampling = s.sensor.sampling := rfl
@[simp] theorem setSource_sensor_groups (i : Fin 24) (x : Source) :
    (s.setSource i x).sensor.groups = s.sensor.groups := rfl
@[simp] theorem setSource_chan (i : Fin 24) (x : Source) (d : Channel) :
    (s.setSource i x).chan d = s.chan d := by cases d <;> rfl
@[simp] theorem setSource_motor (i : Fin 24) (x : Source) (d : MotorId) :
    (s.setSource i x).motor d = s.motor d := by cases d <;> rfl
@[simp] theorem setSource_slot (i : Fin 24) (x : Source) (j : Fin 16) :
    (s.setSource i x).slot j = s.slot j := rfl
@[simp] theorem setSource_gate (i : Fin 24) (x : Source) (j : Fin 16) :
    (s.setSource i x).gate j = s.gate j := rfl
@[simp] theorem setSource_ramp (i : Fin 24) (x : Source) (j : Fin 4) :
    (s.setSource i x).ramp j = s.ramp j := rfl
@[simp] theorem setSource_buf (i : Fin 24) (x : Source) (d : BufId) :
    (s.setSource i x).buf d = s.buf d := by cases d <;> rfl

/-! ## `setRamp` -/

@[simp] theorem setRamp_mem (n : Fin 4) (t : List Nat) : (s.setRamp n t).mem = s.mem := rfl
@[simp] theorem setRamp_port (n : Fin 4) (t : List Nat) : (s.setRamp n t).port = s.port := rfl
@[simp] theorem setRamp_page (n : Fin 4) (t : List Nat) : (s.setRamp n t).page = s.page := rfl
@[simp] theorem setRamp_recUnit (n : Fin 4) (t : List Nat) : (s.setRamp n t).recUnit = s.recUnit :=
  rfl
@[simp] theorem setRamp_chans (n : Fin 4) (t : List Nat) : (s.setRamp n t).chans = s.chans := rfl
@[simp] theorem setRamp_scan (n : Fin 4) (t : List Nat) : (s.setRamp n t).scan = s.scan := rfl
@[simp] theorem setRamp_print (n : Fin 4) (t : List Nat) : (s.setRamp n t).print = s.print := rfl
@[simp] theorem setRamp_coder (n : Fin 4) (t : List Nat) : (s.setRamp n t).coder = s.coder := rfl
@[simp] theorem setRamp_sensor (n : Fin 4) (t : List Nat) : (s.setRamp n t).sensor = s.sensor := rfl
@[simp] theorem setRamp_power (n : Fin 4) (t : List Nat) : (s.setRamp n t).power = s.power := rfl
@[simp] theorem setRamp_boot (n : Fin 4) (t : List Nat) : (s.setRamp n t).boot = s.boot := rfl
@[simp] theorem setRamp_host (n : Fin 4) (t : List Nat) : (s.setRamp n t).host = s.host := rfl
@[simp] theorem setRamp_eeprom (n : Fin 4) (t : List Nat) : (s.setRamp n t).eeprom = s.eeprom := rfl
@[simp] theorem setRamp_free (n : Fin 4) (t : List Nat) : (s.setRamp n t).free = s.free := rfl
@[simp] theorem setRamp_pending (n : Fin 4) (t : List Nat) : (s.setRamp n t).pending = s.pending :=
  rfl
@[simp] theorem setRamp_motors_m0 (n : Fin 4) (t : List Nat) :
    (s.setRamp n t).motors.m0 = s.motors.m0 := rfl
@[simp] theorem setRamp_motors_m1 (n : Fin 4) (t : List Nat) :
    (s.setRamp n t).motors.m1 = s.motors.m1 := rfl
@[simp] theorem setRamp_motors_m2 (n : Fin 4) (t : List Nat) :
    (s.setRamp n t).motors.m2 = s.motors.m2 := rfl
@[simp] theorem setRamp_motors_haltedByAction (n : Fin 4) (t : List Nat) :
    (s.setRamp n t).motors.haltedByAction = s.motors.haltedByAction := rfl
@[simp] theorem setRamp_motors_steps (n : Fin 4) (t : List Nat) :
    (s.setRamp n t).motors.steps = s.motors.steps := rfl
@[simp] theorem setRamp_motors_halts (n : Fin 4) (t : List Nat) :
    (s.setRamp n t).motors.halts = s.motors.halts := rfl
@[simp] theorem setRamp_chan (n : Fin 4) (t : List Nat) (d : Channel) :
    (s.setRamp n t).chan d = s.chan d := by cases d <;> rfl
@[simp] theorem setRamp_motor (n : Fin 4) (t : List Nat) (d : MotorId) :
    (s.setRamp n t).motor d = s.motor d := by cases d <;> rfl
@[simp] theorem setRamp_slot (n : Fin 4) (t : List Nat) (j : Fin 16) :
    (s.setRamp n t).slot j = s.slot j := rfl
@[simp] theorem setRamp_gate (n : Fin 4) (t : List Nat) (j : Fin 16) :
    (s.setRamp n t).gate j = s.gate j := rfl
@[simp] theorem setRamp_source (n : Fin 4) (t : List Nat) (j : Fin 24) :
    (s.setRamp n t).source j = s.source j := rfl
@[simp] theorem setRamp_buf (n : Fin 4) (t : List Nat) (d : BufId) :
    (s.setRamp n t).buf d = s.buf d := by cases d <;> rfl

/-! ## `setBuf` -/

@[simp] theorem setBuf_mem (b : BufId) (x : LineBuf) : (s.setBuf b x).mem = s.mem :=
  by cases b <;> rfl
@[simp] theorem setBuf_port (b : BufId) (x : LineBuf) : (s.setBuf b x).port = s.port :=
  by cases b <;> rfl
@[simp] theorem setBuf_page (b : BufId) (x : LineBuf) : (s.setBuf b x).page = s.page :=
  by cases b <;> rfl
@[simp] theorem setBuf_recUnit (b : BufId) (x : LineBuf) : (s.setBuf b x).recUnit = s.recUnit :=
  by cases b <;> rfl
@[simp] theorem setBuf_chans (b : BufId) (x : LineBuf) : (s.setBuf b x).chans = s.chans :=
  by cases b <;> rfl
@[simp] theorem setBuf_print (b : BufId) (x : LineBuf) : (s.setBuf b x).print = s.print :=
  by cases b <;> rfl
@[simp] theorem setBuf_coder (b : BufId) (x : LineBuf) : (s.setBuf b x).coder = s.coder :=
  by cases b <;> rfl
@[simp] theorem setBuf_motors (b : BufId) (x : LineBuf) : (s.setBuf b x).motors = s.motors :=
  by cases b <;> rfl
@[simp] theorem setBuf_sensor (b : BufId) (x : LineBuf) : (s.setBuf b x).sensor = s.sensor :=
  by cases b <;> rfl
@[simp] theorem setBuf_power (b : BufId) (x : LineBuf) : (s.setBuf b x).power = s.power :=
  by cases b <;> rfl
@[simp] theorem setBuf_boot (b : BufId) (x : LineBuf) : (s.setBuf b x).boot = s.boot :=
  by cases b <;> rfl
@[simp] theorem setBuf_host (b : BufId) (x : LineBuf) : (s.setBuf b x).host = s.host :=
  by cases b <;> rfl
@[simp] theorem setBuf_eeprom (b : BufId) (x : LineBuf) : (s.setBuf b x).eeprom = s.eeprom :=
  by cases b <;> rfl
@[simp] theorem setBuf_free (b : BufId) (x : LineBuf) : (s.setBuf b x).free = s.free :=
  by cases b <;> rfl
@[simp] theorem setBuf_pending (b : BufId) (x : LineBuf) : (s.setBuf b x).pending = s.pending :=
  by cases b <;> rfl
@[simp] theorem setBuf_scan_busy (b : BufId) (x : LineBuf) :
    (s.setBuf b x).scan.busy = s.scan.busy := by cases b <;> rfl
@[simp] theorem setBuf_scan_tLine (b : BufId) (x : LineBuf) :
    (s.setBuf b x).scan.tLine = s.scan.tLine := by cases b <;> rfl
@[simp] theorem setBuf_scan_captureTicks (b : BufId) (x : LineBuf) :
    (s.setBuf b x).scan.captureTicks = s.scan.captureTicks := by cases b <;> rfl
@[simp] theorem setBuf_scan_shadingA (b : BufId) (x : LineBuf) :
    (s.setBuf b x).scan.shadingA = s.scan.shadingA := by cases b <;> rfl
@[simp] theorem setBuf_scan_shadingB (b : BufId) (x : LineBuf) :
    (s.setBuf b x).scan.shadingB = s.scan.shadingB := by cases b <;> rfl
@[simp] theorem setBuf_scan_toneA (b : BufId) (x : LineBuf) :
    (s.setBuf b x).scan.toneA = s.scan.toneA := by cases b <;> rfl
@[simp] theorem setBuf_scan_toneB (b : BufId) (x : LineBuf) :
    (s.setBuf b x).scan.toneB = s.scan.toneB := by cases b <;> rfl
@[simp] theorem setBuf_chan (b : BufId) (x : LineBuf) (d : Channel) :
    (s.setBuf b x).chan d = s.chan d := by cases b <;> cases d <;> rfl
@[simp] theorem setBuf_motor (b : BufId) (x : LineBuf) (d : MotorId) :
    (s.setBuf b x).motor d = s.motor d := by cases b <;> cases d <;> rfl
@[simp] theorem setBuf_slot (b : BufId) (x : LineBuf) (j : Fin 16) :
    (s.setBuf b x).slot j = s.slot j := by cases b <;> rfl
@[simp] theorem setBuf_gate (b : BufId) (x : LineBuf) (j : Fin 16) :
    (s.setBuf b x).gate j = s.gate j := by cases b <;> rfl
@[simp] theorem setBuf_source (b : BufId) (x : LineBuf) (j : Fin 24) :
    (s.setBuf b x).source j = s.source j := by cases b <;> rfl
@[simp] theorem setBuf_ramp (b : BufId) (x : LineBuf) (j : Fin 4) :
    (s.setBuf b x).ramp j = s.ramp j := by cases b <;> rfl

/-! ## Reading back -/

@[simp] theorem chan_setChan_self (ch : Channel) (c : Chan) : (s.setChan ch c).chan ch = c := by
  cases ch <;> rfl

theorem chan_setChan_of_ne {ch d : Channel} (c : Chan) (h : d ≠ ch) :
    (s.setChan ch c).chan d = s.chan d := by
  cases ch <;> cases d <;> first | rfl | exact absurd rfl h

@[simp] theorem motor_setMotor_self (m : MotorId) (x : Motor) : (s.setMotor m x).motor m = x := by
  cases m <;> rfl

theorem motor_setMotor_of_ne {m d : MotorId} (x : Motor) (h : d ≠ m) :
    (s.setMotor m x).motor d = s.motor d := by
  cases m <;> cases d <;> first | rfl | exact absurd rfl h

@[simp] theorem slot_setSlot_self (i : Fin 16) (p : Page) : (s.setSlot i p).slot i = p := by
  simp [State.setSlot, State.slot]

theorem slot_setSlot_of_ne {i j : Fin 16} (p : Page) (h : j ≠ i) :
    (s.setSlot i p).slot j = s.slot j := by
  have h' : i.val ≠ j.val := fun e => h (Fin.ext e.symm)
  simp [State.setSlot, State.slot, h']

@[simp] theorem gate_setGate_self (g : Fin 16) (x : Gateway) : (s.setGate g x).gate g = x := by
  simp [State.setGate, State.gate]

theorem gate_setGate_of_ne {g j : Fin 16} (x : Gateway) (h : j ≠ g) :
    (s.setGate g x).gate j = s.gate j := by
  have h' : g.val ≠ j.val := fun e => h (Fin.ext e.symm)
  simp [State.setGate, State.gate, h']

@[simp] theorem source_setSource_self (i : Fin 24) (x : Source) :
    (s.setSource i x).source i = x := by
  simp [State.setSource, State.source]

theorem source_setSource_of_ne {i j : Fin 24} (x : Source) (h : j ≠ i) :
    (s.setSource i x).source j = s.source j := by
  have h' : i.val ≠ j.val := fun e => h (Fin.ext e.symm)
  simp [State.setSource, State.source, h']

@[simp] theorem ramp_setRamp_self (n : Fin 4) (t : List Nat) : (s.setRamp n t).ramp n = t := by
  simp [State.setRamp, State.ramp]

theorem ramp_setRamp_of_ne {n j : Fin 4} (t : List Nat) (h : j ≠ n) :
    (s.setRamp n t).ramp j = s.ramp j := by
  have h' : n.val ≠ j.val := fun e => h (Fin.ext e.symm)
  simp [State.setRamp, State.ramp, h']

@[simp] theorem buf_setBuf_self (b : BufId) (x : LineBuf) : (s.setBuf b x).buf b = x := by
  cases b <;> rfl

theorem buf_setBuf_of_ne {b d : BufId} (x : LineBuf) (h : d ≠ b) :
    (s.setBuf b x).buf d = s.buf d := by
  cases b <;> cases d <;> first | rfl | exact absurd rfl h

/-! ## Names of the contexts -/

@[simp] theorem chan_scan : s.chan .scan = s.chans.scan := rfl
@[simp] theorem chan_print : s.chan .print = s.chans.print := rfl
@[simp] theorem chan_codeOut : s.chan .codeOut = s.chans.codeOut := rfl
@[simp] theorem chan_codeIn : s.chan .codeIn = s.chans.codeIn := rfl
@[simp] theorem motor_m0 : s.motor .m0 = s.motors.m0 := rfl
@[simp] theorem motor_m1 : s.motor .m1 = s.motors.m1 := rfl
@[simp] theorem motor_m2 : s.motor .m2 = s.motors.m2 := rfl
@[simp] theorem buf_bufA : s.buf .bufA = s.scan.bufA := rfl
@[simp] theorem buf_bufB : s.buf .bufB = s.scan.bufB := rfl

/-! ## Replacing one of four channels, one of three motors -/

@[simp] theorem setChan_chans (ch : Channel) (c : Chan) : (s.setChan ch c).chans = s.chans.set ch c :=
  rfl
@[simp] theorem chansSet_scan (u : Chans) (c : Chan) : u.set .scan c = { u with scan := c } := rfl
@[simp] theorem chansSet_print (u : Chans) (c : Chan) : u.set .print c = { u with print := c } :=
  rfl
@[simp] theorem chansSet_codeOut (u : Chans) (c : Chan) :
    u.set .codeOut c = { u with codeOut := c } := rfl
@[simp] theorem chansSet_codeIn (u : Chans) (c : Chan) :
    u.set .codeIn c = { u with codeIn := c } := rfl
@[simp] theorem setMotor_motors (m : MotorId) (x : Motor) :
    (s.setMotor m x).motors = s.motors.set m x := rfl
@[simp] theorem motorSet_m0 (u : MotorUnit) (x : Motor) : u.set .m0 x = { u with m0 := x } := rfl
@[simp] theorem motorSet_m1 (u : MotorUnit) (x : Motor) : u.set .m1 x = { u with m1 := x } := rfl
@[simp] theorem motorSet_m2 (u : MotorUnit) (x : Motor) : u.set .m2 x = { u with m2 := x } := rfl
@[simp] theorem motorSet_ramps (u : MotorUnit) (m : MotorId) (x : Motor) :
    (u.set m x).ramps = u.ramps := by cases m <;> rfl
@[simp] theorem motorSet_haltedByAction (u : MotorUnit) (m : MotorId) (x : Motor) :
    (u.set m x).haltedByAction = u.haltedByAction := by cases m <;> rfl
@[simp] theorem motorSet_steps (u : MotorUnit) (m : MotorId) (x : Motor) :
    (u.set m x).steps = u.steps := by cases m <;> rfl
@[simp] theorem motorSet_halts (u : MotorUnit) (m : MotorId) (x : Motor) :
    (u.set m x).halts = u.halts := by cases m <;> rfl

end Sys2Proof.Machine
end

