-- ==== Sys2Proof/Laws/Memory.lean ====
section
/-! SUPPORT. The memory: every write keeps the canonical form, and a byte reads as it was last written. -/

namespace Sys2Proof.Machine

theorem Memory.wfFrom_mono {lo hi : Nat} {m : List Host.Cell} (h : lo ≤ hi)
    (w : Memory.wfFrom hi m = true) : Memory.wfFrom lo m = true := by
  cases m with
  | nil => rfl
  | cons c rest =>
    obtain ⟨k, v⟩ := c
    simp only [Memory.wfFrom, Bool.and_eq_true, decide_eq_true_eq] at w ⊢
    exact ⟨⟨Nat.le_trans h w.1.1, w.1.2⟩, w.2⟩

theorem Memory.wfFrom_write {lo a : Nat} (b : Byte) {m : List Host.Cell} (h : lo ≤ a)
    (w : Memory.wfFrom lo m = true) : Memory.wfFrom lo (Memory.write m a b) = true := by
  induction m generalizing lo with
  | nil => by_cases hb : b = blankByte <;> simp [Memory.write, Memory.wfFrom, hb, h]
  | cons c rest ih =>
    obtain ⟨k, v⟩ := c
    simp only [Memory.wfFrom, Bool.and_eq_true, decide_eq_true_eq] at w
    obtain ⟨⟨w1, w2⟩, w3⟩ := w
    unfold Memory.write
    split
    · split
      · simp [Memory.wfFrom, w1, w2, w3]
      · rename_i hlt hb
        simp [Memory.wfFrom, h, hb, w2, w3, Nat.succ_le_of_lt hlt]
    · split
      · split
        · exact Memory.wfFrom_mono (by omega) w3
        · rename_i _ heq hb
          subst heq
          simp [Memory.wfFrom, h, hb, w3]
      · simp [Memory.wfFrom, w1, w2, ih (by omega) w3]

/-- A write keeps the canonical form. -/
theorem Memory.wf_write {m : List Host.Cell} (a : Nat) (b : Byte) (w : Memory.wf m = true) :
    Memory.wf (Memory.write m a b) = true :=
  Memory.wfFrom_write b (Nat.zero_le a) w

/-- A run of writes keeps the canonical form. -/
theorem Memory.wf_writeBytes (bs : List Byte) {m : List Host.Cell} (a : Nat)
    (w : Memory.wf m = true) : Memory.wf (Memory.writeBytes m a bs) = true := by
  induction bs generalizing m a with
  | nil => exact w
  | cons b rest ih => exact ih (a + 1) (Memory.wf_write a b w)

theorem Memory.read_below {lo a : Nat} {m : List Host.Cell} (h : a < lo)
    (w : Memory.wfFrom lo m = true) : Memory.read m a = blankByte := by
  induction m generalizing lo with
  | nil => rfl
  | cons c rest ih =>
    obtain ⟨k, v⟩ := c
    simp only [Memory.wfFrom, Bool.and_eq_true, decide_eq_true_eq] at w
    have hne : k ≠ a := by omega
    simp only [Memory.read, hne, if_false]
    exact ih (by omega) w.2

theorem Memory.read_write_from {lo a : Nat} (b : Byte) (c : Nat) {m : List Host.Cell}
    (w : Memory.wfFrom lo m = true) :
    Memory.read (Memory.write m a b) c = if c = a then b else Memory.read m c := by
  induction m generalizing lo with
  | nil =>
    by_cases hb : b = blankByte <;> by_cases hc : c = a
    · simp [Memory.write, Memory.read, hb, hc]
    · simp [Memory.write, Memory.read, hb, hc]
    · simp [Memory.write, Memory.read, hb, hc]
    · have : a ≠ c := fun e => hc e.symm
      simp [Memory.write, Memory.read, hb, hc, this]
  | cons p rest ih =>
    obtain ⟨k, v⟩ := p
    simp only [Memory.wfFrom, Bool.and_eq_true, decide_eq_true_eq] at w
    obtain ⟨⟨w1, w2⟩, w3⟩ := w
    unfold Memory.write
    split
    · rename_i hlt
      split
      · rename_i hb
        by_cases hc : c = a
        · subst hc
          have : k ≠ c := by omega
          simp only [Memory.read, this, if_false, if_true, hb]
          exact Memory.read_below (by omega) w3
        · simp [hc]
      · by_cases hc : c = a
        · subst hc; simp [Memory.read]
        · have : a ≠ c := fun e => hc e.symm
          simp [Memory.read, hc, this]
    · split
      · rename_i _ heq
        subst heq
        split
        · rename_i hb
          by_cases hc : c = a
          · subst hc
            simp only [if_true, hb]
            exact Memory.read_below (Nat.lt_succ_self c) w3
          · have : a ≠ c := fun e => hc e.symm
            simp [Memory.read, hc, this]
        · by_cases hc : c = a
          · subst hc; simp [Memory.read]
          · have : a ≠ c := fun e => hc e.symm
            simp [Memory.read, hc, this]
      · rename_i hne
        by_cases hk : k = c
        · subst hk
          have : k ≠ a := fun e => hne e.symm
          simp [Memory.read, this]
        · simp only [Memory.read, hk, if_false]
          exact ih w3

/-- A byte reads as it was written, every other one as before. -/
theorem Memory.read_write {m : List Host.Cell} (a c : Nat) (b : Byte) (w : Memory.wf m = true) :
    Memory.read (Memory.write m a b) c = if c = a then b else Memory.read m c :=
  Memory.read_write_from b c w

/-- Outside the bytes written every byte reads as before. -/
theorem Memory.read_writeBytes_outside (bs : List Byte) {m : List Host.Cell} (a c : Nat)
    (w : Memory.wf m = true) (h : c < a ∨ a + bs.length ≤ c) :
    Memory.read (Memory.writeBytes m a bs) c = Memory.read m c := by
  induction bs generalizing m a with
  | nil => rfl
  | cons b rest ih =>
    simp only [List.length_cons] at h
    rw [Memory.writeBytes, ih (a + 1) (Memory.wf_write a b w) (by omega), Memory.read_write a c b w,
      if_neg (by omega)]

/-- Byte `i` of the bytes written reads back. -/
theorem Memory.read_writeBytes_inside (bs : List Byte) {m : List Host.Cell} (a i : Nat)
    (w : Memory.wf m = true) (h : i < bs.length) :
    Memory.read (Memory.writeBytes m a bs) (a + i) = bs.getD i 0 := by
  induction bs generalizing m a i with
  | nil => simp at h
  | cons b rest ih =>
    cases i with
    | zero =>
      rw [Memory.writeBytes,
        Memory.read_writeBytes_outside rest (a + 1) (a + 0) (Memory.wf_write a b w) (by omega),
        Memory.read_write a (a + 0) b w]
      simp
    | succ j =>
      have e : a + (j + 1) = a + 1 + j := by omega
      rw [Memory.writeBytes, e, ih (a + 1) j (Memory.wf_write a b w) (by simpa using h)]
      simp

/-- The bytes written read back together. -/
theorem Memory.readBytes_writeBytes (bs : List Byte) {m : List Host.Cell} (a : Nat)
    (w : Memory.wf m = true) : Memory.readBytes (Memory.writeBytes m a bs) a bs.length = bs := by
  induction bs generalizing m a with
  | nil => rfl
  | cons b rest ih =>
    have h0 := Memory.read_writeBytes_inside (b :: rest) (m := m) a 0 w (by simp)
    simp only [Nat.add_zero, List.getD_cons_zero] at h0
    simp only [List.length_cons, Memory.readBytes]
    rw [h0, Memory.writeBytes, ih (a + 1) (Memory.wf_write a b w)]

end Sys2Proof.Machine
end

