-- ==== Sys2Proof/Laws/Carries.lean ====
section
/-! SUPPORT. Every shared operation carries the three invariants of Safety.lean over: the canonical form of
the memory, the reservation bound and the room of the print queue. One lemma `<operation>_carries` for
each. -/

namespace Sys2Proof.Machine

/-- Each of the three invariants that holds in `s` holds in `t`. -/
structure Carries (s t : State) : Prop where
  mem : MemoryOk s → MemoryOk t
  res : ReservationOk s → ReservationOk t
  queue : QueueOk s → QueueOk t

theorem Carries.refl (s : State) : Carries s s := ⟨id, id, id⟩

theorem Carries.trans {a b c : State} (h : Carries a b) (k : Carries b c) : Carries a c :=
  ⟨fun x => k.mem (h.mem x), fun x => k.res (h.res x), fun x => k.queue (h.queue x)⟩

theorem Carries.after {a b c : State} (k : Carries b c) (h : Carries a b) : Carries a c := h.trans k

/-- An operation that leaves memory, free list, reservation and print path as they are. -/
theorem Carries.same {s t : State} (hm : t.mem = s.mem) (hf : t.page.free = s.page.free)
    (hr : t.page.r = s.page.r) (hq : t.print = s.print) : Carries s t :=
  ⟨fun h => by simpa [MemoryOk, hm] using h, fun h => by simpa [ReservationOk, hf, hr] using h,
    fun h => by simpa [QueueOk, hq] using h⟩

/-- An operation that leaves memory and print path, and keeps the reservation bound. -/
theorem Carries.pages {s t : State} (hm : t.mem = s.mem) (hq : t.print = s.print)
    (hr : ReservationOk s → ReservationOk t) : Carries s t :=
  ⟨fun h => by simpa [MemoryOk, hm] using h, hr, fun h => by simpa [QueueOk, hq] using h⟩

variable (s : State)

theorem setChan_carries (ch : Channel) (c : Chan) : Carries s (s.setChan ch c) :=
  .same rfl rfl rfl rfl

theorem setMotor_carries (m : MotorId) (x : Motor) : Carries s (s.setMotor m x) :=
  .same rfl rfl rfl rfl

theorem setSlot_carries (i : Fin 16) (p : Page) : Carries s (s.setSlot i p) := .same rfl rfl rfl rfl

theorem setGate_carries (g : Fin 16) (x : Gateway) : Carries s (s.setGate g x) :=
  .same rfl rfl rfl rfl

theorem setSource_carries (i : Fin 24) (x : Source) : Carries s (s.setSource i x) :=
  .same rfl rfl rfl rfl

theorem setBuf_carries (b : BufId) (x : LineBuf) : Carries s (s.setBuf b x) := by
  cases b <;> exact .same rfl rfl rfl rfl

/-! ## Events and page memory -/

theorem raise_carries (i : Fin 24) (k : EventKind) (d : EventData) : Carries s (s.raise i k d) := by
  unfold State.raise
  dsimp only
  split
  · exact .same rfl rfl rfl rfl
  · split <;> exact .same rfl rfl rfl rfl

theorem poolTest_carries : Carries s s.poolTest := by
  unfold State.poolTest
  split
  · split
    · exact .after (raise_carries _ _ _ _) (.same rfl rfl rfl rfl)
    · exact .refl s
  · split
    · exact .after (raise_carries _ _ _ _) (.same rfl rfl rfl rfl)
    · exact .refl s

theorem reserve_carries (v : Nat) : Carries s (s.reserve v) := by
  refine .after (poolTest_carries _) (.pages rfl rfl ?_)
  intro h
  simp only [ReservationOk, State.freeCount] at h ⊢
  split <;> omega

theorem returnBands_carries (bs : List Nat) : Carries s (s.returnBands bs) := by
  refine .pages rfl rfl ?_
  intro h
  simp only [ReservationOk, State.returnBands, List.length_append] at h ⊢
  omega

theorem releaseTest_carries (i : Fin 16) : Carries s (s.releaseTest i) := by
  unfold State.releaseTest
  dsimp only
  split
  · exact .trans (.trans (setSlot_carries _ _ _) (returnBands_carries _ _)) (poolTest_carries _)
  · exact .refl s

theorem freeBehind_carries (i : Fin 16) : Carries s (s.freeBehind i) := by
  unfold State.freeBehind
  dsimp only
  split
  · split
    · exact .trans (.trans (setSlot_carries _ _ _) (returnBands_carries _ _)) (poolTest_carries _)
    · exact .refl s
  · exact .refl s

theorem leave_carries (i : Fin 16) (ch : Channel) (r : Bool) : Carries s (s.leave i ch r) :=
  .trans (setSlot_carries _ _ _) (releaseTest_carries _ _)

theorem giveSlot_carries (i : Fin 16) (ch : Channel) (a b c : Bool) (n : Nat) :
    Carries s (s.giveSlot i ch a b c n) := setSlot_carries _ _ _

/-- A band taken from the unreserved pool needs a band there (01 R11). -/
theorem takeBand_carries (i : Fin 16) (scan : Bool) (h : scan = true ∨ s.unreserved ≠ 0) :
    Carries s (s.takeBand i scan) := by
  unfold State.takeBand
  dsimp only
  split
  · exact .refl s
  · rename_i b rest heq
    refine .after (freeBehind_carries _ _) (.after (poolTest_carries _) (.pages rfl rfl ?_))
    intro hr
    simp only [ReservationOk, heq, List.length_cons, State.unreserved, State.freeCount] at hr h ⊢
    cases scan
    · simp only [Bool.false_eq_true, false_or] at h
      show s.page.r ≤ rest.length
      omega
    · show s.page.r - 1 ≤ rest.length
      omega

theorem assignLine_carries (i : Fin 16) (scan : Bool) : Carries s (s.assignLine i scan).1 := by
  unfold State.assignLine
  dsimp only
  by_cases h1 : (s.slot i).assigned = (s.slot i).limit
  · rw [if_pos h1]; exact .refl s
  · by_cases h2 : (s.slot i).assigned % 64 = 0
    · rw [if_neg h1, if_pos h2]
      by_cases h3 : (if scan = true then s.freeCount else s.unreserved) = 0
      · rw [if_pos h3]; exact .refl s
      · rw [if_neg h3]
        apply takeBand_carries
        cases scan
        · exact .inr h3
        · exact .inl rfl
    · rw [if_neg h1, if_neg h2]; exact .same rfl rfl rfl rfl

theorem storeLine_carries (i : Fin 16) : Carries s (s.storeLine i) := setSlot_carries _ _ _

theorem closePage_carries (i : Fin 16) (cut : Bool) : Carries s (s.closePage i cut) := by
  unfold State.closePage
  dsimp only
  refine .trans ?_ (freeBehind_carries _ _)
  split
  · exact .same rfl rfl rfl rfl
  · exact .after (poolTest_carries _) (.after (returnBands_carries _ _) (.same rfl rfl rfl rfl))

theorem completePage_carries (i : Fin 16) (cut : Bool) : Carries s (s.completePage i cut) :=
  .trans (closePage_carries _ _ _) (releaseTest_carries _ _)

/-! ## The motors -/

theorem reserveFor_carries (j : Option Nat) : Carries s (s.reserveFor j) := by
  unfold State.reserveFor
  split
  · exact .refl s
  · exact reserve_carries _ _

theorem afterDecision_carries (m : MotorId) (j : Option Nat) : Carries s (s.afterDecision m j) := by
  cases m
  · exact reserveFor_carries _ _
  · exact .refl s
  · exact .refl s

theorem reachRest_carries (m : MotorId) : Carries s (s.reachRest m) := by
  have h : ∀ t : State, Carries s t → Carries s
      (match (s.motor m).restReason with
        | some (kind, r) => t.raise (motorSource m) kind (.motor (s.motor m).position r)
        | none => t) := by
    intro t ht
    split
    · exact .trans ht (raise_carries _ _ _ _)
    · exact ht
  unfold State.reachRest
  dsimp only
  apply h
  split <;> exact .same rfl rfl rfl rfl

theorem leaveRest_carries (m : MotorId) : Carries s (s.leaveRest m) := setMotor_carries _ _ _

theorem restDecision_carries (m : MotorId) : Carries s (s.restDecision m) := by
  unfold State.restDecision
  dsimp only
  split
  · exact .refl s
  · split
    · exact .trans (leaveRest_carries _ _) (afterDecision_carries _ _ _)
    · exact afterDecision_carries _ _ _

theorem haltMotor_carries (m : MotorId) (h : Halt) : Carries s (s.haltMotor m h) := by
  unfold State.haltMotor
  dsimp only
  split
  · exact setMotor_carries _ _ _
  · split
    · exact .after (raise_carries _ _ _ _) (.same rfl rfl rfl rfl)
    · exact setMotor_carries _ _ _

theorem actionHalt_carries (m : MotorId) (mode : HaltMode) (g : Fin 16) :
    Carries s (s.actionHalt m mode g) :=
  .trans (haltMotor_carries _ _ _) (.same rfl rfl rfl rfl)

theorem unlinkMotor_carries (m : MotorId) : Carries s (s.unlinkMotor m) := by
  unfold State.unlinkMotor
  dsimp only
  by_cases h1 : (s.motor m).link.isNone = true
  · rw [if_pos h1]; exact .refl s
  · rw [if_neg h1]
    cases m
    · exact .trans (setMotor_carries _ _ _) (reserve_carries _ _)
    · exact setMotor_carries _ _ _
    · exact setMotor_carries _ _ _

theorem shrinkFor_carries (ch : Channel) : Carries s (s.shrinkFor ch) := by
  unfold State.shrinkFor
  split
  · exact .refl s
  · split
    · exact setMotor_carries _ _ _
    · exact .refl s

theorem freeBudget_carries (ch : Channel) : Carries s (s.freeBudget ch) := by
  unfold State.freeBudget
  dsimp only
  split
  · exact .refl s
  · split
    · exact setMotor_carries _ _ _
    · exact .refl s

/-! ## The DRAM port -/

theorem drawn_carries : Carries s s.drawn := .same rfl rfl rfl rfl
theorem dropGrant_carries : Carries s s.dropGrant := .same rfl rfl rfl rfl

theorem afterGrant_carries : Carries s s.afterGrant := by
  unfold State.afterGrant
  split
  · exact .same rfl rfl rfl rfl
  · exact .refl s

theorem releasePort_carries : Carries s s.releasePort :=
  .trans (dropGrant_carries s) (afterGrant_carries _)

theorem freePort_carries : Carries s s.freePort := .after (afterGrant_carries _) (.same rfl rfl rfl rfl)

/-- A write of a run of bytes. -/
theorem write_carries (t : State) (a : Nat) (bs : List Byte)
    (hm : t.mem = Memory.writeBytes s.mem a bs) (hf : t.page.free = s.page.free)
    (hr : t.page.r = s.page.r) (hq : t.print = s.print) : Carries s t :=
  ⟨fun h => by simpa [MemoryOk, hm] using Memory.wf_writeBytes bs a h,
    fun h => by simpa [ReservationOk, hf, hr] using h, fun h => by simpa [QueueOk, hq] using h⟩

theorem passWords_carries (j : Job) (k : Nat) : Carries s (s.passWords j k) := by
  unfold State.passWords
  dsimp only
  split
  · exact write_carries s _ _ _ rfl rfl rfl rfl
  · exact .same rfl rfl rfl rfl

theorem endBurst_carries (j : Job) : Carries s (s.endBurst j) := passWords_carries _ _ _

theorem cutLineWork_carries (ch : Channel) : Carries s (s.cutLineWork ch) := by
  have h : ∀ t : State, Carries s t → Carries s
      (match t.port.suspended with
        | some j =>
          if j.lineWork = some ch then
            { t with port := { t.port with suspended := none, done := 0, partialData := [] } }
          else t
        | none => t) := by
    intro t ht
    split
    · split
      · exact .trans ht (.same rfl rfl rfl rfl)
      · exact ht
    · exact ht
  unfold State.cutLineWork
  dsimp only
  apply h
  split
  · split
    · exact .trans (passWords_carries _ _ _) (.same rfl rfl rfl rfl)
    · exact .refl s
  · exact .refl s

theorem grant_carries (j : Job) : Carries s (s.grant j) := by
  unfold State.grant
  dsimp only
  split
  · exact .after (setBuf_carries _ _ _) (.same rfl rfl rfl rfl)
  · exact .same rfl rfl rfl rfl
  · exact .same rfl rfl rfl rfl

theorem grantUrgent_carries : Carries s s.grantUrgent := by
  unfold State.grantUrgent
  split <;> exact .same rfl rfl rfl rfl

theorem grantRotation_carries (qs : List Requester) : Carries s (s.grantRotation qs) := by
  induction qs with
  | nil => exact .refl s
  | cons q rest ih =>
    unfold State.grantRotation
    split
    · exact .trans (grant_carries s _) (.same rfl rfl rfl rfl)
    · exact ih

theorem grantFree_carries : Carries s s.grantFree := by
  unfold State.grantFree
  split
  · exact grantUrgent_carries s
  · split
    · exact grant_carries s _
    · split
      · exact grantUrgent_carries s
      · exact grantRotation_carries s _

theorem arbitrate_carries : Carries s s.arbitrate := by
  unfold State.arbitrate
  dsimp only
  split
  · split
    · exact .after (grantUrgent_carries _)
        (.trans (passWords_carries s _ _) (.same rfl rfl rfl rfl))
    · exact .refl s
  · split
    · exact .trans (.trans (passWords_carries s _ _) (drawn_carries _)) (grantUrgent_carries _)
    · exact .same rfl rfl rfl rfl
  · exact grantFree_carries s
  · exact .same rfl rfl rfl rfl
  · exact .refl s

theorem judgeCycle_carries : Carries s s.judgeCycle := by
  unfold State.judgeCycle
  split
  · exact .refl s
  · split
    · exact .refl s
    · split
      · exact .same rfl rfl rfl rfl
      · split <;> exact .same rfl rfl rfl rfl

/-! ## The line channels -/

theorem notify_carries (ch : Channel) (n : Notice) : Carries s (s.notify ch n) :=
  setChan_carries _ _ _

theorem notifyEnding_carries (ch : Channel) (n : Notice) : Carries s (s.notifyEnding ch n) :=
  setChan_carries _ _ _

theorem edgeAtStart_carries (ch : Channel) (o : Option EdgeOption) :
    Carries s (s.edgeAtStart ch o) := by
  unfold State.edgeAtStart
  split
  · split
    · exact setChan_carries _ _ _
    · exact .refl s
  · exact .refl s

theorem clearPrint_carries : Carries s s.clearPrint := by
  refine .trans (cutLineWork_carries s .print) ⟨id, id, ?_⟩
  intro h
  simp only [QueueOk, Config.queueRoom] at h ⊢
  have h1 : ((s.cutLineWork .print).print.queue.take 1).length ≤ 1 := List.length_take_le 1 _
  have h2 := List.length_filter_le (fun c : Copy => !c.ended)
    ((s.cutLineWork .print).print.queue.take 1)
  simp only [State.clearPrint, Option.getD_none, Nat.add_zero]
  omega

theorem clearPath_carries (ch : Channel) : Carries s (s.clearPath ch) := by
  cases ch
  · exact .trans (cutLineWork_carries s .scan) (.same rfl rfl rfl rfl)
  · exact clearPrint_carries s
  · show Carries s s.clearCodeOut
    unfold State.clearCodeOut
    dsimp only
    split
    · exact .trans (cutLineWork_carries s .codeOut) (.same rfl rfl rfl rfl)
    · exact cutLineWork_carries s .codeOut
  · show Carries s s.clearCodeIn
    unfold State.clearCodeIn
    split
    · exact .refl s
    · exact .same rfl rfl rfl rfl
    · exact .same rfl rfl rfl rfl
    · exact .trans (cutLineWork_carries s .codeIn) (.same rfl rfl rfl rfl)
    · exact .refl s

theorem dropPage_carries (ch : Channel) : Carries s (s.dropPage ch) := by
  unfold State.dropPage
  split
  · exact .refl s
  · split
    · exact completePage_carries _ _ _
    · exact leave_carries _ _ _ _

theorem dropLink_carries (ch : Channel) : Carries s (s.dropLink ch) := by
  unfold State.dropLink
  split
  · exact unlinkMotor_carries _ _
  · exact .refl s

theorem postFinal_carries (ch : Channel) (n : Notice) : Carries s (s.postFinal ch n) := by
  unfold State.postFinal
  split
  · exact ⟨id, id, id⟩
  · exact notify_carries _ _ _

theorem abortSteps_carries (ch : Channel) : Carries s (s.abortSteps ch) :=
  .trans (.trans (.trans (dropPage_carries s ch) (dropLink_carries _ ch)) (clearPath_carries _ ch))
    (.trans (setChan_carries _ _ _) (.same rfl rfl rfl rfl))

theorem faultChan_carries (ch : Channel) (code : FaultCode) (a : Nat) :
    Carries s (s.faultChan ch code a) :=
  .trans (.trans (abortSteps_carries s ch) (setChan_carries _ _ _)) (postFinal_carries _ _ _)

theorem faultEntry_carries (ch : Channel) (code : FaultCode) : Carries s (s.faultEntry ch code) :=
  faultChan_carries _ _ _ _

theorem takeCount_carries (ch : Channel) (n : Nat) (e : Option EdgeOption) (b : Nat) :
    Carries s (s.takeCount ch n e b) := by
  unfold State.takeCount
  dsimp only
  refine .trans ?_ (edgeAtStart_carries _ _ _)
  split
  · exact .same rfl rfl rfl rfl
  · exact setChan_carries _ _ _

theorem beginLines_carries (ch : Channel) (n : Nat) (e : Option EdgeOption) (b : Nat) :
    Carries s (s.beginLines ch n e b) := by
  unfold State.beginLines
  split
  · exact faultEntry_carries _ _ _
  · split
    · exact faultEntry_carries _ _ _
    · split
      · exact faultEntry_carries _ _ _
      · exact takeCount_carries _ _ _ _ _

theorem endEntry_carries (ch : Channel) : Carries s (s.endEntry ch) := by
  unfold State.endEntry
  dsimp only
  split
  · split
    · split
      · exact .trans (setChan_carries _ _ _) (beginLines_carries _ _ _ _ _)
      · exact setChan_carries _ _ _
    · exact setChan_carries _ _ _
  · exact setChan_carries _ _ _

theorem endIfDone_carries (ch : Channel) : Carries s (s.endIfDone ch) := by
  unfold State.endIfDone
  dsimp only
  split
  · exact .trans (setChan_carries _ _ _) (endEntry_carries _ _)
  · exact .refl s

theorem endOver_carries (ch : Channel) : Carries s (s.endOver ch) :=
  (endIfDone_carries s ch).trans (endIfDone_carries _ ch)

theorem endAtLimit_carries (ch : Channel) : Carries s (s.endAtLimit ch) := by
  unfold State.endAtLimit
  split
  · exact notifyEnding_carries _ _ _
  · exact .refl s

theorem limitIfFull_carries : Carries s s.limitIfFull := by
  unfold State.limitIfFull
  split
  · exact endAtLimit_carries _ _
  · exact .refl s

theorem select_carries (ch : Channel) (x : Selection) : Carries s (s.select ch x) :=
  .trans (setChan_carries _ _ _) (endEntry_carries _ _)

theorem endTableWait_carries : Carries s s.endTableWait := by
  unfold State.endTableWait
  split
  · exact select_carries _ _ _
  · exact .refl s

theorem countLine_carries (ch : Channel) : Carries s (s.countLine ch) := setChan_carries _ _ _
theorem countMoved_carries (ch : Channel) : Carries s (s.countMoved ch) := setChan_carries _ _ _

theorem askPause_carries (ch : Channel) (cause : PauseCause) : Carries s (s.askPause ch cause) := by
  unfold State.askPause
  dsimp only
  split
  · exact .refl s
  · exact .trans (setChan_carries _ _ _) (shrinkFor_carries _ _)

/-! ## Triggers, copies and steps -/

theorem truncateScan_carries : Carries s s.truncateScan := by
  unfold State.truncateScan
  split
  · exact setSlot_carries _ _ _
  · exact .refl s

theorem armBuffer_carries (b : BufId) (p : PageRef) (n a : Nat) (t : Bool) :
    Carries s (s.armBuffer b p n a t) := by
  unfold State.armBuffer
  dsimp only
  split
  · exact setBuf_carries _ _ _
  · exact .trans (setBuf_carries _ _ _) (.same rfl rfl rfl rfl)

theorem offerTrigger_carries : Carries s s.offerTrigger := by
  unfold State.offerTrigger
  dsimp only
  split
  · exact .refl s
  · rename_i p _
    split
    · split
      · exact truncateScan_carries s
      · have h := assignLine_carries s p.slot true
        split
        · exact .refl s
        · exact truncateScan_carries s
        · rename_i heq
          rw [heq] at h
          have h2 : ∀ b n a t, Carries s ((State.armBuffer _ b p n a t).countLine .scan) :=
            fun _ _ _ _ => (h.trans (armBuffer_carries _ _ _ _ _ _)).trans (countLine_carries _ _)
          split
          · exact .after (endIfDone_carries _ _) (h2 _ _ _ _)
          · split
            · exact .after (endAtLimit_carries _ _) (h2 _ _ _ _)
            · exact h2 _ _ _ _
    · exact truncateScan_carries s

theorem headLeaves_carries : Carries s s.headLeaves := by
  refine ⟨id, id, ?_⟩
  intro h
  simp only [QueueOk, State.headLeaves, List.length_drop] at h ⊢
  omega

theorem groupDone_carries (m : MotorId) : Carries s (s.groupDone m) := by
  cases m
  · exact offerTrigger_carries s
  · exact headLeaves_carries s
  · exact .refl s

theorem countGroup_carries (m : MotorId) : Carries s (s.countGroup m) := by
  unfold State.countGroup
  dsimp only
  split
  · exact .refl s
  · split
    · exact .trans (setMotor_carries _ _ _) (groupDone_carries _ _)
    · exact setMotor_carries _ _ _

theorem commitOrRest_carries (m : MotorId) : Carries s (s.commitOrRest m) := by
  unfold State.commitOrRest
  dsimp only
  refine .trans ?_ (afterDecision_carries _ _ _)
  split
  · exact setMotor_carries _ _ _
  · exact reachRest_carries _ _

theorem fallBudgets_carries (m : MotorId) : Carries s (s.fallBudgets m) := setMotor_carries _ _ _

theorem issueStep_carries (m : MotorId) : Carries s (s.issueStep m) := by
  unfold State.issueStep
  dsimp only
  refine .trans (.trans ?_ (fallBudgets_carries _ _)) (commitOrRest_carries _ _)
  exact .after (countGroup_carries _ _) (.same rfl rfl rfl rfl)

theorem burnEnd_carries : Carries s s.burnEnd := by
  unfold State.burnEnd
  dsimp only
  have h1 : Carries s { s with print :=
      { s.print with
        queue := s.print.queue.modifyHead fun c => { c with ended := true }, head := .ended } } := by
    refine ⟨id, id, ?_⟩
    intro h
    simpa [QueueOk] using h
  split
  · refine .after (notify_carries _ _ _) ⟨id, id, ?_⟩
    intro h
    simp only [QueueOk] at h ⊢
    simp only [List.length_nil]
    omega
  · split
    · exact h1.trans (issueStep_carries _ _)
    · exact h1

/-! ## The line requests -/

theorem endShort_carries (ch : Channel) : Carries s (s.endShort ch) := notifyEnding_carries _ _ _

/-- A read is promised copies that the queue has room for. -/
theorem askRead_carries (ch : Channel) (n : Option Nat)
    (h : ∀ k, n = some k → s.print.queue.length + k ≤ Config.queueRoom) :
    Carries s (s.askRead ch n) := by
  unfold State.askRead
  dsimp only
  split
  · exact .refl s
  · split
    · refine ⟨id, id, ?_⟩
      intro hq
      simp only [QueueOk] at hq ⊢
      cases n with
      | none => simpa using hq
      | some k => simpa using h k rfl
    · exact setChan_carries _ _ _
    · exact endShort_carries _ _

theorem askPrint_carries : Carries s s.askPrint := by
  unfold State.askPrint
  dsimp only
  split
  · rename_i h
    apply askRead_carries
    intro k hk
    cases hk
    exact h.2
  · exact .refl s

theorem askCodeOut_carries : Carries s s.askCodeOut := by
  unfold State.askCodeOut
  split
  · exact askRead_carries _ _ _ (by simp)
  · exact .refl s

theorem askCodeIn_carries : Carries s s.askCodeIn := by
  unfold State.askCodeIn
  dsimp only
  split
  · split
    · exact .refl s
    · rename_i p _
      have h := assignLine_carries s p.slot false
      split
      · exact endAtLimit_carries _ _
      · exact setChan_carries _ _ _
      · rename_i heq
        rw [heq] at h
        exact (h.trans (countLine_carries _ _)).trans (setChan_carries _ _ _)
  · exact .refl s

theorem setReady_carries : Carries s s.setReady := by
  unfold State.setReady
  dsimp only
  split
  · exact .same rfl rfl rfl rfl
  · split
    · exact .same rfl rfl rfl rfl
    · exact .refl s

theorem waitMotor_carries (ch : Channel) (m : MotorId) : Carries s (s.waitMotor ch m) := by
  unfold State.waitMotor
  dsimp only
  split
  · exact setChan_carries _ _ _
  · exact .refl s

/-! ## The report slots -/

theorem fetchNext_carries : Carries s s.fetchNext := by
  unfold State.fetchNext
  split
  · exact .same rfl rfl rfl rfl
  · exact .refl s

theorem disarm_carries (i : Fin 24) (k : EventKind) : Carries s (s.disarm i k) := by
  unfold State.disarm
  split
  · split
    · exact setGate_carries _ _ _
    · exact .refl s
  · exact .refl s

theorem startWriting_carries (w : Producer) (bs : List Byte) : Carries s (s.startWriting w bs) :=
  .same rfl rfl rfl rfl

theorem grantEvent_carries : Carries s s.grantEvent := by
  unfold State.grantEvent
  split
  · exact .refl s
  · split
    · exact .refl s
    · exact .trans (.trans (setSource_carries _ _ _) (disarm_carries _ _ _))
        (startWriting_carries _ _ _)

theorem grantSlot_carries : Carries s s.grantSlot := by
  unfold State.grantSlot
  split
  · exact .refl s
  · split
    · exact startWriting_carries _ _ _
    · split
      · split
        · exact startWriting_carries _ _ _
        · exact .refl s
      · split
        · exact grantEvent_carries s
        · exact .refl s

theorem waitReport_carries (ch : Channel) : Carries s (s.waitReport ch) := by
  unfold State.waitReport
  dsimp only
  split
  · exact setChan_carries _ _ _
  · exact .refl s

theorem waitDevice_carries : Carries s s.waitDevice := by
  unfold State.waitDevice
  dsimp only
  split
  · exact setChan_carries _ _ _
  · split
    · exact setChan_carries _ _ _
    · exact .refl s

/-! ## `settle` -/

theorem settleLines_carries : Carries s s.settleLines :=
  (endOver_carries s .scan).trans <| (endOver_carries _ .codeIn).trans <|
    (waitMotor_carries _ _ _).trans <| (waitMotor_carries _ _ _).trans <|
      (askPrint_carries _).trans <| (askCodeOut_carries _).trans <|
        (askCodeIn_carries _).trans (setReady_carries _)

theorem settleMotors_carries : Carries s s.settleMotors :=
  (restDecision_carries s .m0).trans <| (restDecision_carries _ .m1).trans
    (restDecision_carries _ .m2)

theorem settleReports_carries : Carries s s.settleReports :=
  (fetchNext_carries s).trans <| (grantSlot_carries _).trans <| (waitReport_carries _ _).trans <|
    (waitReport_carries _ _).trans <| (waitReport_carries _ _).trans <|
      (waitReport_carries _ _).trans (waitDevice_carries _)

theorem settle_carries : Carries s s.settle :=
  (settleLines_carries s).trans <| (settleMotors_carries _).trans <|
    (settleReports_carries _).trans <| (judgeCycle_carries _).trans (arbitrate_carries _)

end Sys2Proof.Machine
end

