-- ==== Sys2Proof/Laws/Commands.lean ====
section
/-! SUPPORT. The operations that the meanings of the commands share, beside those of `settle`: each carries
the three invariants of Safety.lean over. One lemma `<operation>_carries` for each. -/

namespace Sys2Proof.Machine

variable (s : State)

theorem coder_carries (c : CoderLink) : Carries s { s with coder := c } := .same rfl rfl rfl rfl
theorem scan_carries (c : ScanPath) : Carries s { s with scan := c } := .same rfl rfl rfl rfl
theorem sensor_carries (u : SensorUnit) : Carries s { s with sensor := u } := .same rfl rfl rfl rfl

/-! ## Completions -/

theorem complete_carries (c : ResultCode) (r : List Nat) : Carries s (s.complete c r) :=
  .same rfl rfl rfl rfl

theorem refuse_carries (c : ResultCode) : Carries s (s.refuse c) := complete_carries _ _ _

theorem refuseRef_carries (a : RefAnswer) : Carries s (s.refuseRef a) := by
  cases a
  · exact .refl s
  · exact refuse_carries _ _
  · exact refuse_carries _ _
  · exact .after (refuse_carries _ _) (.same rfl rfl rfl rfl)

theorem startWork_carries (w : Work) : Carries s (s.startWork w) := .same rfl rfl rfl rfl

theorem leaveDoze_carries (k : Nat) : Carries s (s.leaveDoze k) := by
  unfold State.leaveDoze
  split
  · exact .after (raise_carries _ _ _ _) (.same rfl rfl rfl rfl)
  · exact .refl s

theorem endEntryIf_carries (p : Prop) [Decidable p] (ch : Channel) :
    Carries s (if p then s.endEntry ch else s) := by
  split
  · exact endEntry_carries _ _
  · exact .refl s

theorem endPosted_carries (ch : Channel) : Carries s (s.endPosted ch) :=
  endEntryIf_carries s _ ch

theorem noticePosted_carries (ch : Channel) (f : Bool) : Carries s (s.noticePosted ch f) := by
  unfold State.noticePosted
  dsimp only
  split
  · exact setChan_carries _ _ _
  · split
    · exact setChan_carries _ _ _
    · exact .after (endPosted_carries _ _) (setChan_carries _ _ _)

theorem posted_carries (w : Producer) : Carries s (s.posted w) := by
  cases w
  · exact .same rfl rfl rfl rfl
  · exact noticePosted_carries _ _ _
  · exact .same rfl rfl rfl rfl
  · exact .same rfl rfl rfl rfl

/-- A grant ends with a write of a run of bytes. -/
theorem releaseWrite_carries (t : State) (a : Nat) (bs : List Byte)
    (hm : t.mem = Memory.writeBytes s.mem a bs) (hf : t.page.free = s.releasePort.page.free)
    (hr : t.page.r = s.releasePort.page.r) (hq : t.print = s.releasePort.print) : Carries s t := by
  have h := releasePort_carries s
  refine ⟨fun k => ?_, fun k => ?_, fun k => ?_⟩
  · simpa [MemoryOk, hm] using Memory.wf_writeBytes bs a k
  · simpa [ReservationOk, hf, hr] using h.res k
  · simpa [QueueOk, hq] using h.queue k

theorem advanceProducer_carries (w : Writing) : Carries s (s.advanceProducer w) :=
  releaseWrite_carries s _ _ _ rfl rfl rfl rfl

theorem writeWord_carries (a v : Nat) : Carries s (s.writeWord a v) :=
  releaseWrite_carries s _ _ _ rfl rfl rfl rfl

/-! ## Channel and motor commands -/

theorem askAbort_carries (ch : Channel) : Carries s (s.askAbort ch) := by
  unfold State.askAbort
  dsimp only
  split
  · exact .refl s
  · split
    · exact .after (unlinkMotor_carries _ _) (setChan_carries _ _ _)
    · exact .after (shrinkFor_carries _ _) (setChan_carries _ _ _)
    · exact setChan_carries _ _ _
    · exact setChan_carries _ _ _

theorem continueChain_carries (ch : Channel) : Carries s (s.continueChain ch) :=
  .after (endPosted_carries _ _) (.after (freeBudget_carries _ _) (setChan_carries _ _ _))

theorem startMove_carries (m : MotorId) (d : Dir) (c : Nat) (n : Fin 4) (top : Nat) :
    Carries s (s.startMove m d c n top) :=
  .after (restDecision_carries _ _) (setMotor_carries _ _ _)

/-! ## Tables -/

theorem fillScan_carries (t : Table) (i : Nat) (ws : List Nat) : Carries s (s.fillScan t i ws) := by
  unfold State.fillScan
  cases t with
  | shading b => cases b <;> exact .same rfl rfl rfl rfl
  | tone b => cases b <;> exact .same rfl rfl rfl rfl
  | strobe => exact .refl s
  | ramp n => exact .refl s
  | phase m => exact .refl s

theorem loadOn_carries (l : Load) : Carries s (s.loadOn l) := by
  unfold State.loadOn
  split
  · exact .after (endTableWait_carries _) (complete_carries _ _ _)
  · exact startWork_carries _ _

theorem setRamp_carries (n : Fin 4) (t : List Nat) : Carries s (s.setRamp n t) :=
  .same rfl rfl rfl rfl

theorem recap_carries (n : Fin 4) : Carries s (s.recap n) := by
  unfold State.recap
  split
  · refine ⟨id, id, ?_⟩
    intro h
    simpa [QueueOk] using h
  · exact .refl s

theorem replaceRamp_carries (n : Fin 4) (t : List Nat) : Carries s (s.replaceRamp n t) :=
  .after (recap_carries _ _) (.same rfl rfl rfl rfl)

/-! ## Sensor lines -/

theorem actHalts_carries (g : Fin 16) (c : GateCfg) (ms : List MotorId) :
    Carries s (s.actHalts g c ms) := by
  induction ms generalizing s with
  | nil => exact .refl s
  | cons m rest ih =>
    refine .after (ih _) ?_
    split
    · exact actionHalt_carries _ _ _ _
    · exact .refl s

theorem actPauses_carries (g : Fin 16) (c : GateCfg) (cs : List Channel) :
    Carries s (s.actPauses g c cs) := by
  induction cs generalizing s with
  | nil => exact .refl s
  | cons ch rest ih =>
    refine .after (ih _) ?_
    split
    · exact askPause_carries _ _ _
    · exact .refl s

theorem startWake_carries (c : WakeCause) : Carries s (s.startWake c) := .same rfl rfl rfl rfl

theorem occur_carries (g : Fin 16) (k : EventKind) : Carries s (s.occur g k) := by
  have h : Carries s (((s.actHalts g (s.gate g).cfg allMotors).actPauses g (s.gate g).cfg
      allChannels).raise (lineSource g) k (.level (s.gate g).high)) :=
    .after (raise_carries _ _ _ _) (.after (actPauses_carries _ _ _ _) (actHalts_carries _ _ _ _))
  unfold State.occur
  dsimp only
  split
  · exact .after (startWake_carries _ _) h
  · exact h

theorem withdraw_carries (i : Fin 24) : Carries s (s.withdraw i) := by
  unfold State.withdraw
  split
  · exact setSource_carries _ _ _
  · exact .refl s

theorem levelChanged_carries (g : Fin 16) : Carries s (s.levelChanged g) := by
  unfold State.levelChanged
  dsimp only
  split
  · split
    · split
      · exact occur_carries _ _ _
      · exact .refl s
    · exact .after (setGate_carries _ _ _) (withdraw_carries _ _)
  · split
    · exact occur_carries _ _ _
    · exact .refl s

theorem edgeEvent_carries (ch : Channel) (g : Fin 16) (high : Bool) :
    Carries s (s.edgeEvent ch g high) := by
  unfold State.edgeEvent
  dsimp only
  split
  · split
    · exact setChan_carries _ _ _
    · exact .refl s
  · exact .refl s

theorem changeLevel_carries (g : Fin 16) : Carries s (s.changeLevel g) :=
  .after (levelChanged_carries _ _) <| .after (edgeEvent_carries _ _ _ _) <|
    .after (edgeEvent_carries _ _ _ _) (setGate_carries _ _ _)

theorem takeSample_carries (g : Fin 16) (level : Bool) : Carries s (s.takeSample g level) := by
  unfold State.takeSample
  dsimp only
  split
  · exact setGate_carries _ _ _
  · split
    · exact changeLevel_carries _ _
    · exact setGate_carries _ _ _

theorem takeSamples_carries (on : Fin 16 → Bool) (lines : BitVec 16) (gs : List (Fin 16)) :
    Carries s (s.takeSamples on lines gs) := by
  induction gs generalizing s with
  | nil => exact .refl s
  | cons g rest ih =>
    refine .after (ih _) ?_
    split
    · exact takeSample_carries _ _ _
    · exact .refl s

theorem firstLevels_carries (lines : BitVec 16) (gs : List (Fin 16)) :
    Carries s (s.firstLevels lines gs) := by
  induction gs generalizing s with
  | nil => exact .refl s
  | cons g rest ih => exact .after (ih _) (setGate_carries _ _ _)

theorem occurActive_carries (gs : List (Fin 16)) : Carries s (s.occurActive gs) := by
  induction gs generalizing s with
  | nil => exact .refl s
  | cons g rest ih =>
    refine .after (ih _) ?_
    split
    · exact occur_carries _ _ _
    · exact .refl s

theorem firstSample_carries (lines : BitVec 16) : Carries s (s.firstSample lines) :=
  .after (occurActive_carries _ _) (.after (firstLevels_carries _ _ _) (sensor_carries _ _))

theorem configGate_carries (g : Fin 16) (c : GateCfg) : Carries s (s.configGate g c) := by
  unfold State.configGate
  dsimp only
  split
  · exact .after (occur_carries _ _ _) (setGate_carries _ _ _)
  · exact setGate_carries _ _ _

theorem setPriority_carries (i : Fin 24) (p : Nat) : Carries s (s.setPriority i p) :=
  setSource_carries _ _ _

/-! ## Engine reset -/

theorem closeFilling_carries (is : List (Fin 16)) : Carries s (s.closeFilling is) := by
  induction is generalizing s with
  | nil => exact .refl s
  | cons i rest ih =>
    refine .after (ih _) ?_
    split
    · exact closePage_carries _ _ _
    · exact .refl s

theorem dropReaders_carries (is : List (Fin 16)) : Carries s (s.dropReaders is) := by
  induction is generalizing s with
  | nil => exact .refl s
  | cons i rest ih => exact .after (ih _) (setSlot_carries _ _ _)

theorem releaseAll_carries (is : List (Fin 16)) : Carries s (s.releaseAll is) := by
  induction is generalizing s with
  | nil => exact .refl s
  | cons i rest ih => exact .after (ih _) (releaseTest_carries _ _)

theorem resetPages_carries : Carries s s.resetPages := by
  have h : Carries s (((s.closeFilling ids16).dropReaders ids16).releaseAll ids16) :=
    .after (releaseAll_carries _ _) (.after (dropReaders_carries _ _) (closeFilling_carries _ _))
  unfold State.resetPages
  dsimp only
  generalize ((s.closeFilling ids16).dropReaders ids16).releaseAll ids16 = t at h
  exact h.trans ⟨id, fun _ => Nat.zero_le _, id⟩

theorem emptyPending_carries (is : List (Fin 24)) : Carries s (s.emptyPending is) := by
  induction is generalizing s with
  | nil => exact .refl s
  | cons i rest ih => exact .after (ih _) (setSource_carries _ _ _)

theorem rearm_carries (gs : List (Fin 16)) : Carries s (s.rearm gs) := by
  induction gs generalizing s with
  | nil => exact .refl s
  | cons g rest ih =>
    refine .after (ih _) ?_
    split
    · split
      · exact .after (occur_carries _ _ _) (setGate_carries _ _ _)
      · exact setGate_carries _ _ _
    · exact .refl s

theorem abandonDrain_carries (t : Quiet) (c : Nat) : Carries s (s.abandonDrain t c) :=
  .after (raise_carries _ _ _ _) (.same rfl rfl rfl rfl)

theorem resetPower_carries : Carries s s.resetPower := by
  unfold State.resetPower
  split
  · exact abandonDrain_carries _ _ _
  · exact .refl s

theorem resetChannels_carries : Carries s s.resetChannels := by
  refine ⟨id, id, fun _ => ?_⟩
  exact Nat.zero_le _

theorem resetMotors_carries : Carries s s.resetMotors := .same rfl rfl rfl rfl

theorem engineReset_carries : Carries s s.engineReset := by
  have h1 := (cutLineWork_carries s .scan).trans <| (cutLineWork_carries _ .print).trans <|
    (cutLineWork_carries _ .codeOut).trans (cutLineWork_carries _ .codeIn)
  unfold State.engineReset
  dsimp only
  generalize (((s.cutLineWork .scan).cutLineWork .print).cutLineWork .codeOut).cutLineWork .codeIn =
    t1 at h1
  have h2 := h1.trans ((resetPages_carries t1).trans ((resetChannels_carries _).trans
    (resetMotors_carries _)))
  generalize t1.resetPages.resetChannels.resetMotors = t2 at h2
  have h3 := h2.trans ((coder_carries t2 t2.coder.engineReset).trans (emptyPending_carries _ ids24))
  generalize State.emptyPending _ ids24 = t3 at h3
  exact h3.trans ((rearm_carries t3 ids16).trans (resetPower_carries _))

/-! ## Start-up and reload -/

theorem loadGates_carries (cs : List GateCfg) (gs : List (Fin 16)) :
    Carries s (s.loadGates cs gs) := by
  induction gs generalizing s with
  | nil => exact .refl s
  | cons g rest ih => exact .after (ih _) (setGate_carries _ _ _)

theorem loadPriorities_carries (ps : List Nat) (is : List (Fin 24)) :
    Carries s (s.loadPriorities ps is) := by
  induction is generalizing s with
  | nil => exact .refl s
  | cons i rest ih => exact .after (ih _) (setPriority_carries _ _ _)

theorem loadRamps_carries (c : Sections) (ns : List (Fin 4)) : Carries s (s.loadRamps c ns) := by
  induction ns generalizing s with
  | nil => exact .refl s
  | cons n rest ih => exact .after (ih _) (setRamp_carries _ _ _)

theorem tablesStage_carries (c : Sections) : Carries s (s.tablesStage c) :=
  .after (loadPriorities_carries _ _ _) <| .after (loadGates_carries _ _ _) <|
    .after (loadRamps_carries _ _ _) ⟨id, id, id⟩

theorem dramStage_carries (c : Sections) : Carries s (s.dramStage c) :=
  ⟨id, fun _ => Nat.zero_le _, id⟩

theorem readyStage_carries : Carries s s.readyStage := .same rfl rfl rfl rfl

theorem bringUp_carries (c : Sections) (lines : BitVec 16) : Carries s (s.bringUp c lines) :=
  (dramStage_carries s c).trans <| (tablesStage_carries _ c).trans <|
    (firstSample_carries _ lines).trans (readyStage_carries _)

theorem reloadRamps_carries (c : Sections) (ns : List (Fin 4)) : Carries s (s.reloadRamps c ns) := by
  induction ns generalizing s with
  | nil => exact .refl s
  | cons n rest ih =>
    refine .after (ih _) ?_
    split
    · exact replaceRamp_carries _ _ _
    · exact .refl s

theorem reloadPhases_carries (c : Sections) (ms : List MotorId) :
    Carries s (s.reloadPhases c ms) := by
  induction ms generalizing s with
  | nil => exact .refl s
  | cons m rest ih =>
    refine .after (ih _) ?_
    split
    · exact setMotor_carries _ _ _
    · exact .refl s

theorem reloadConstants_carries (k : Constants) : Carries s (s.reloadConstants k) :=
  .after (poolTest_carries _) ⟨id, id, id⟩

theorem reloadGates_carries (cs : List GateCfg) (gs : List (Fin 16)) :
    Carries s (s.reloadGates cs gs) := by
  induction gs generalizing s with
  | nil => exact .refl s
  | cons g rest ih => exact .after (ih _) (configGate_carries _ _ _)

theorem putInForce_carries (c : Sections) : Carries s (s.putInForce c) := by
  have h1 : ∀ t, Carries s t →
      Carries s ((t.reloadRamps c (List.finRange 4)).reloadPhases c allMotors) := fun t h =>
    .after (reloadPhases_carries _ _ _) (.after (reloadRamps_carries _ _ _) h)
  have h2 : ∀ t, Carries s t → Carries s
      (match c.strobe with
        | some v => { t with print := { t.print with strobe := v } }
        | none => t) := by
    intro t h; split
    · exact h.trans ⟨id, id, id⟩
    · exact h
  have h3 : ∀ t, Carries s t → Carries s
      (match c.constants with
        | some k => t.reloadConstants k
        | none => t) := by
    intro t h; split
    · exact h.trans (reloadConstants_carries _ _)
    · exact h
  have h4 : ∀ t, Carries s t → Carries s
      (match c.gateways with
        | some gs => t.reloadGates gs ids16
        | none => t) := by
    intro t h; split
    · exact h.trans (reloadGates_carries _ _ _)
    · exact h
  have h5 : ∀ t, Carries s t → Carries s
      (match c.priorities with
        | some ps => t.loadPriorities ps ids24
        | none => t) := by
    intro t h; split
    · exact h.trans (loadPriorities_carries _ _ _)
    · exact h
  exact h4 _ (h3 _ (h2 _ (h1 _ (h5 _ (.refl s)))))

theorem setStore_carries (o : Option StoreOp) : Carries s (s.setStore o) := .same rfl rfl rfl rfl

theorem storeFailed_carries (o : StoreOp) : Carries s (s.storeFailed o) :=
  .after (raise_carries _ _ _ _) (.same rfl rfl rfl rfl)

theorem storeOn_carries (o : StoreOp) (rest : List Word) : Carries s (s.storeOn o rest) := by
  unfold State.storeOn
  split
  · exact .after (raise_carries _ _ _ _) (setStore_carries _ _)
  · exact setStore_carries _ _

/-! ## Entries -/

theorem openSlot_carries (ch : Channel) (i : Fin 16) (a b c : Bool) (n : Nat) :
    Carries s (s.openSlot ch i a b c n) := by
  unfold State.openSlot
  dsimp only
  refine .after (notifyEnding_carries _ _ _) ?_
  split
  · exact .same rfl rfl rfl rfl
  · exact .same rfl rfl rfl rfl

theorem startWait_carries (ch : Channel) (w : Wait) : Carries s (s.startWait ch w) :=
  setChan_carries _ _ _

theorem openWriteEntry_carries (ch : Channel) (a b c : Bool) (n : Nat) :
    Carries s (s.openWriteEntry ch a b c n) := by
  unfold State.openWriteEntry
  split
  · exact faultEntry_carries _ _ _
  · split
    · exact faultEntry_carries _ _ _
    · split
      · exact openSlot_carries _ _ _ _ _ _ _
      · exact .same rfl rfl rfl rfl

theorem join_carries (ch : Channel) (r : PageRef) (rel : Bool) (n : Nat) :
    Carries s (s.join ch r rel n) :=
  .after (endEntry_carries _ _) (.after (setChan_carries _ _ _) (setSlot_carries _ _ _))

theorem openResolved_carries (ch : Channel) (r : PageRef) (f rel : Bool) (n : Nat) :
    Carries s (s.openResolved ch r f rel n) := by
  unfold State.openResolved
  split
  · refine .after (faultEntry_carries _ _ _) ?_
    split
    · exact .same rfl rfl rfl rfl
    · exact .refl s
  · split
    · exact join_carries _ _ _ _ _
    · exact setChan_carries _ _ _

theorem openPeer_carries (ch p : Channel) (f rel : Bool) (n : Nat) :
    Carries s (s.openPeer ch p f rel n) := by
  unfold State.openPeer
  split
  · exact openResolved_carries _ _ _ _ _ _
  · exact startWait_carries _ _ _

theorem reopen_carries (ch : Channel) (r : PageRef) (f rel : Bool) (n : Nat) :
    Carries s (s.reopen ch r f rel n) := by
  unfold State.reopen
  split
  · exact openResolved_carries _ _ _ _ _ _
  · exact startWait_carries _ _ _

theorem openReadEntry_carries (ch : Channel) (f rel p : Bool) (a b c : Nat) :
    Carries s (s.openReadEntry ch f rel p a b c) := by
  unfold State.openReadEntry
  split
  · exact faultEntry_carries _ _ _
  · split
    · exact faultEntry_carries _ _ _
    · split
      · exact reopen_carries _ _ _ _ _ _
      · split
        · split
          · exact openPeer_carries _ _ _ _ _ _
          · exact faultEntry_carries _ _ _
        · split
          · exact openResolved_carries _ _ _ _ _ _
          · exact faultEntry_carries _ _ _

theorem link_carries (ch : Channel) (m : MotorId) (spl : Nat) (n : Fin 4) (top : Nat) :
    Carries s (s.link ch m spl n top) :=
  .after (endEntry_carries _ _) (setMotor_carries _ _ _)

theorem leavePage_carries (ch : Channel) (r : PageRef) : Carries s (s.leavePage ch r) :=
  .after (endEntry_carries _ _) (.after (setChan_carries _ _ _) (leave_carries _ _ _ _))

theorem closeWriterEntry_carries (ch : Channel) : Carries s (s.closeWriterEntry ch) := by
  unfold State.closeWriterEntry
  split
  · exact faultEntry_carries _ _ _
  · exact .after (notifyEnding_carries _ _ _)
      (.after (setChan_carries _ _ _) (completePage_carries _ _ _))

theorem closeReaderEntry_carries (ch : Channel) : Carries s (s.closeReaderEntry ch) := by
  unfold State.closeReaderEntry
  split
  · exact faultEntry_carries _ _ _
  · split
    · exact .same rfl rfl rfl rfl
    · exact leavePage_carries _ _ _

theorem pauseNow_carries (ch : Channel) (c : PauseCause) : Carries s (s.pauseNow ch c) :=
  .same rfl rfl rfl rfl

theorem abortNow_carries (ch : Channel) : Carries s (s.abortNow ch) :=
  .after (postFinal_carries _ _ _) (abortSteps_carries _ _)

/-! ## Lines on the paths -/

theorem advanceReader_carries (ch : Channel) : Carries s (s.advanceReader ch) := by
  unfold State.advanceReader
  dsimp only
  split
  · exact .after (freeBehind_carries _ _) (setChan_carries _ _ _)
  · exact setChan_carries _ _ _

theorem endIfRead_carries (ch : Channel) : Carries s (s.endIfRead ch) := by
  unfold State.endIfRead
  dsimp only
  split
  · exact .after (endEntry_carries _ _) (setChan_carries _ _ _)
  · exact .refl s

/-- The copies of a read that ends are those it was promised (04 R79). -/
theorem handOver_carries (ch : Channel) (n : Nat) (slot : List Byte) :
    Carries s (s.handOver ch n slot) := by
  cases ch
  · exact .refl s
  · refine ⟨?_, ?_, ?_⟩
    · intro h
      simp only [State.handOver, State.handToPrint]
      split <;> exact h
    · intro h
      simp only [State.handOver, State.handToPrint]
      split <;> exact h
    · intro h
      simp only [State.handOver, State.handToPrint, QueueOk] at h ⊢
      split
      · simp only [setChan_print, Option.getD_none]; omega
      · simp only [setChan_print, State.enterQueue, Option.getD_none, List.length_append,
          List.length_map, List.length_range]
        omega
  · exact .same rfl rfl rfl rfl
  · exact .refl s

theorem storeHeld_carries : Carries s s.storeHeld := by
  unfold State.storeHeld
  dsimp only
  refine .after (coder_carries _ _) (.after (setChan_carries _ _ _)
    (.after (countMoved_carries _ _) ?_))
  cases s.chans.codeIn.openPage with
  | none => exact .refl s
  | some r => exact storeLine_carries _ _

theorem goodStored_carries : Carries s s.goodStored :=
  .after (coder_carries _ _) (.after (setChan_carries _ _ _) (storeHeld_carries s))

theorem countConcealed_carries : Carries s s.countConcealed := by
  unfold State.countConcealed
  split
  · exact setSlot_carries _ _ _
  · exact .refl s

theorem burstTest_carries (n : Nat) : Carries s (s.burstTest n) := by
  unfold State.burstTest
  split
  · exact .after (raise_carries _ _ _ _) (.same rfl rfl rfl rfl)
  · exact .refl s

theorem concealmentStored_carries : Carries s s.concealmentStored :=
  .after (burstTest_carries _ _) <| .after (coder_carries _ _) <|
    .after (setChan_carries _ _ _) <| .after (countConcealed_carries _) (storeHeld_carries s)

theorem closeSent_carries (f : Frame) : Carries s (s.closeSent f) := by
  unfold State.closeSent
  dsimp only
  split
  · split
    · exact leavePage_carries _ _ _
    · exact .refl s
  · exact .refl s

theorem finishCapture_carries (b : BufId) (v : List Byte) : Carries s (s.finishCapture b v) := by
  unfold State.finishCapture
  dsimp only
  split
  · exact .after (scan_carries _ _) (.after (setBuf_carries _ _ _) (setBuf_carries _ _ _))
  · exact .after (scan_carries _ _) (setBuf_carries _ _ _)

theorem storeScan_carries (b : BufId) : Carries s (s.storeScan b) :=
  .after (setBuf_carries _ _ _) (.after (countMoved_carries _ _) (storeLine_carries _ _))

end Sys2Proof.Machine
end

