-- ==== Sys2Proof/Laws/Due.lean ====
section
/-! SUPPORT. When a row is due, read off the words the obligations are written in: the command in hand, the
entry at its turn, the wait that can end. -/

namespace Sys2Proof.Machine

/-- A row whose condition holds answers its effect, settled. -/
theorem runIf_of {due : Bool} (h : due = true) (s e : State) :
    runIf due s e = .next (State.settle e) := by
  simp only [runIf, stepIf, h, if_true]

/-- Every row answers a next state: its effect settled, or the state settled of a row that is not due. -/
theorem runIf_next (due : Bool) (s e : State) : ∃ t, runIf due s e = .next t := by
  unfold runIf stepIf
  generalize State.settle e = u
  exact ⟨_, rfl⟩

/-- The command in hand is the one `cmdIs` looks at. -/
theorem cmdIs_of_inHand {s : State} {k : Nat} {bs : List Byte} (h : InHand s k bs)
    (f : List Byte → Bool) : s.cmdIs k f = f bs := by
  obtain ⟨h1, h2, h3, h4⟩ := h
  simp [State.cmdIs, State.cmd, h1, h2, h3, h4]

/-- The bytes of the command in hand. -/
theorem cmdBytes_of_inHand {s : State} {k : Nat} {bs : List Byte} (h : InHand s k bs) :
    s.cmdBytes = bs := by
  obtain ⟨_, _, h3, _⟩ := h
  simp [State.cmdBytes, h3]

/-- No work is under way beside a command in hand. -/
theorem work_of_inHand {s : State} {k : Nat} {bs : List Byte} (h : InHand s k bs) :
    s.recUnit.work = none := h.2.1

/-- An entry at its turn is due. -/
theorem entryDue_of_atEntry {s : State} {ch : Channel} {e : Entry} (h : AtEntry s ch e) :
    s.entryDue ch = some e := by
  obtain ⟨⟨a, h1⟩, h2, h3, h4, h5⟩ := h
  have ht : s.atTurn ch = some e := by
    simp only [State.atTurn, h1]
    exact if_pos ⟨h3, h2, h4⟩
  rcases h5 with h5 | h5 | h5 <;> simp [State.entryDue, ht, h5]

/-! ## An entry that gives a fault (R50): what `State.entryFault` says is what its meaning does -/

section Faults

variable {s : State} {ch : Channel} {code : FaultCode}

theorem openWriteEntry_of_fault {consume pp pc : Bool} {limit : Nat}
    (h : s.entryFault ch (.openWrite consume pp pc limit) = some code) :
    s.openWriteEntry ch consume pp pc limit = s.faultEntry ch code := by
  simp only [State.entryFault] at h
  simp only [State.openWriteEntry]
  split at h <;> rename_i h1
  · simp_all
  · split at h <;> simp_all

theorem beginLines_of_fault {n : Nat} {o : Option EdgeOption} {b : Nat}
    (h : s.entryFault ch (.lines n o b) = some code) :
    s.beginLines ch n o b = s.faultEntry ch code := by
  simp only [State.entryFault] at h
  simp only [State.beginLines]
  repeat' split at h
  all_goals simp_all

theorem setProcessingEntry_of_fault {b t : Bool} {mode th : Nat}
    (h : s.entryFault ch (.setProcessing b t mode th) = some code) :
    s.setProcessingEntry ch b t mode th = s.faultEntry ch code := by
  simp only [State.entryFault] at h
  simp only [State.setProcessingEntry]
  split at h <;> simp_all

theorem linkMotorEntry_of_fault {m : MotorId} {spl : Nat} {n : Fin 4} {top : Nat}
    (hm : motorFor ch = some m) (h : s.entryFault ch (.linkMotor spl n top) = some code) :
    s.linkReady ch m = true ∧ s.linkMotorEntry ch m spl n top = s.faultEntry ch code := by
  have h1 : s.tooFast ch m spl n = true ∧ FaultCode.linkTooFast = code := by
    simpa [State.entryFault, hm] using h
  obtain ⟨h1, rfl⟩ := h1
  simp only [State.tooFast, Bool.and_eq_true, Bool.not_eq_true', beq_iff_eq, decide_eq_true_eq] at h1
  obtain ⟨⟨⟨h1, h2⟩, h3⟩, h4⟩ := h1
  refine ⟨h1, ?_⟩
  simp only [State.linkMotorEntry, ← Bool.and_eq_true, h2, Bool.false_eq_true, if_false, h3, h4, true_and,
    if_true]

theorem closeWriterEntry_of_fault (h : s.entryFault ch .close = some code) :
    s.closeWriterEntry ch = s.faultEntry ch code := by
  simp only [State.entryFault] at h
  simp only [State.closeWriterEntry]
  split at h <;> simp_all

theorem closeReaderEntry_of_fault (h : s.entryFault ch .close = some code) :
    s.closeReaderEntry ch = s.faultEntry ch code := by
  simp only [State.entryFault] at h
  simp only [State.closeReaderEntry]
  split at h <;> simp_all

theorem jumpEntry_of_fault {a : Nat} (h : s.entryFault ch (.jump a) = some code) :
    s.jumpEntry ch a = s.faultEntry ch code := by
  simp only [State.entryFault] at h
  simp only [State.jumpEntry]
  split at h <;> simp_all

theorem openResolved_of_fault {ref : PageRef} {follow release : Bool} {scale : Nat}
    (h : s.readFault ch ref = some code) :
    s.openResolved ch ref follow release scale =
      (if code = .stalePage then s.markStale else s).faultEntry ch code := by
  simp only [State.openResolved, h]

/-- A stale reference sets STALE_REF as well (R36 check 5). -/
theorem openReadEntry_of_fault {follow release peer : Bool} {slot gen scale : Nat}
    (h : s.entryFault ch (.openRead follow release peer slot gen scale) = some code) :
    s.openReadEntry ch follow release peer slot gen scale =
      (if code = .stalePage then s.markStale else s).faultEntry ch code := by
  simp only [State.entryFault, State.targetFault, State.readTarget] at h
  simp only [State.openReadEntry]
  by_cases hw : isWriter ch = true
  · simp [hw] at h ⊢; subst h; rfl
  by_cases ho : (s.chan ch).openPage.isSome = true
  · simp [hw, ho] at h ⊢; subst h; rfl
  simp only [hw, ho, Bool.false_eq_true, if_false] at h ⊢
  cases hr : (s.chan ch).resolved with
  | some ref =>
    simp only [hr] at h
    by_cases hd : s.pageDone ref = true
    · rw [if_pos hd] at h
      simp only [State.reopen, if_pos hd]
      exact openResolved_of_fault h
    · rw [if_neg hd] at h
      cases h
  | none =>
    rw [hr] at h
    cases peer
    · cases hs : slotOf slot with
      | some i => simp [hs] at h ⊢; exact openResolved_of_fault h
      | none => simp [hs] at h ⊢; subst h; rfl
    · cases hp : peerOf slot with
      | some p =>
        cases hi : s.pageOf p with
        | some i => simp [hp, hi] at h; simp [State.openPeer, hi]; exact openResolved_of_fault h
        | none => simp [hp, hi] at h
      | none => simp [hp] at h ⊢; subst h; rfl

end Faults

/-- A channel that waits holds its entry as current. -/
theorem currentEntry_of_atWait {s : State} {ch : Channel} {w : Wait} {e : Entry}
    (h : AtWait s ch w e) : s.currentEntry ch = some e := by
  obtain ⟨⟨a, h1⟩, _, _⟩ := h
  simp [State.currentEntry, h1]

/-- A channel that waits and is not at a boundary can end its wait. -/
theorem waitsFor_of_atWait {s : State} {ch : Channel} {w : Wait} {e : Entry}
    (h : AtWait s ch w e) : s.waitsFor ch w = true := by
  obtain ⟨_, h2, h3⟩ := h
  simp [State.waitsFor, h2, h3]

/-- An entry at its turn that is no LINES entry does not make its channel one in LINES. -/
theorem atLines_of_atEntry {s : State} {ch : Channel} {e : Entry} (h : AtEntry s ch e) :
    (s.chan ch).atLines = e.isLines := by
  obtain ⟨⟨a, h1⟩, _⟩ := h
  simp [Chan.atLines, h1]

/-- The same of a channel that waits. -/
theorem atLines_of_atWait {s : State} {ch : Channel} {w : Wait} {e : Entry} (h : AtWait s ch w e) :
    (s.chan ch).atLines = e.isLines := by
  obtain ⟨⟨a, h1⟩, _⟩ := h
  simp [Chan.atLines, h1]

/-- The end of an entry that is no LINES entry only moves the window. -/
theorem endEntry_of_not_lines {s : State} {ch : Channel} (h : (s.chan ch).atLines = false) :
    s.endEntry ch = s.setChan ch ((s.chan ch).shift s.page.geo) := by
  simp only [State.endEntry, h]
  split
  · split <;> rfl
  · rfl

end Sys2Proof.Machine
end

