-- ==== Sys2Proof/Laws/Frames.lean ====
section
/-! SUPPORT. Which parts of the state each shared operation changes: for an operation `f` the lemma `f_only`
says that `f` of a state is the state with only the named parts replaced, and one lemma for each other part
says that `f` leaves it. -/

namespace Sys2Proof.Machine

variable (s : State)

/-! ## Raising an event -/

theorem raise_only (i : Fin 24) (k : EventKind) (e : EventData) :
    s.raise i k e =
      { s with sensor := (s.raise i k e).sensor } := by
  unfold State.raise
  dsimp only
  split
  · rfl
  · split <;> rfl

@[simp] theorem raise_mem (i : Fin 24) (k : EventKind) (e : EventData) : (s.raise i k e).mem = s.mem := by
  rw [raise_only]
@[simp] theorem raise_port (i : Fin 24) (k : EventKind) (e : EventData) : (s.raise i k e).port = s.port := by
  rw [raise_only]
@[simp] theorem raise_page (i : Fin 24) (k : EventKind) (e : EventData) : (s.raise i k e).page = s.page := by
  rw [raise_only]
@[simp] theorem raise_recUnit (i : Fin 24) (k : EventKind) (e : EventData) : (s.raise i k e).recUnit = s.recUnit := by
  rw [raise_only]
@[simp] theorem raise_chans (i : Fin 24) (k : EventKind) (e : EventData) : (s.raise i k e).chans = s.chans := by
  rw [raise_only]
@[simp] theorem raise_scan (i : Fin 24) (k : EventKind) (e : EventData) : (s.raise i k e).scan = s.scan := by
  rw [raise_only]
@[simp] theorem raise_print (i : Fin 24) (k : EventKind) (e : EventData) : (s.raise i k e).print = s.print := by
  rw [raise_only]
@[simp] theorem raise_coder (i : Fin 24) (k : EventKind) (e : EventData) : (s.raise i k e).coder = s.coder := by
  rw [raise_only]
@[simp] theorem raise_motors (i : Fin 24) (k : EventKind) (e : EventData) : (s.raise i k e).motors = s.motors := by
  rw [raise_only]
@[simp] theorem raise_power (i : Fin 24) (k : EventKind) (e : EventData) : (s.raise i k e).power = s.power := by
  rw [raise_only]
@[simp] theorem raise_boot (i : Fin 24) (k : EventKind) (e : EventData) : (s.raise i k e).boot = s.boot := by
  rw [raise_only]
@[simp] theorem raise_host (i : Fin 24) (k : EventKind) (e : EventData) : (s.raise i k e).host = s.host := by
  rw [raise_only]
@[simp] theorem raise_eeprom (i : Fin 24) (k : EventKind) (e : EventData) : (s.raise i k e).eeprom = s.eeprom := by
  rw [raise_only]
@[simp] theorem raise_free (i : Fin 24) (k : EventKind) (e : EventData) : (s.raise i k e).free = s.free := by
  rw [raise_only]
@[simp] theorem raise_pending (i : Fin 24) (k : EventKind) (e : EventData) : (s.raise i k e).pending = s.pending := by
  rw [raise_only]
@[simp] theorem raise_slot (i : Fin 24) (k : EventKind) (e : EventData) (d : Fin 16) : (s.raise i k e).slot d = s.slot d := by
  rw [raise_only]; rfl
@[simp] theorem raise_chan (i : Fin 24) (k : EventKind) (e : EventData) (d : Channel) : (s.raise i k e).chan d = s.chan d := by
  rw [raise_only]; rfl
@[simp] theorem raise_buf (i : Fin 24) (k : EventKind) (e : EventData) (d : BufId) : (s.raise i k e).buf d = s.buf d := by
  rw [raise_only]; rfl
@[simp] theorem raise_motor (i : Fin 24) (k : EventKind) (e : EventData) (d : MotorId) : (s.raise i k e).motor d = s.motor d := by
  rw [raise_only]; rfl
@[simp] theorem raise_ramp (i : Fin 24) (k : EventKind) (e : EventData) (d : Fin 4) : (s.raise i k e).ramp d = s.ramp d := by
  rw [raise_only]; rfl

/-! ## The band-pool test -/

theorem poolTest_only :
    s.poolTest =
      { s with page := s.poolTest.page, sensor := s.poolTest.sensor } := by
  unfold State.poolTest
  split
  · split
    · rw [raise_only]
    · rfl
  · split
    · rw [raise_only]
    · rfl

@[simp] theorem poolTest_mem : s.poolTest.mem = s.mem := by
  rw [poolTest_only]
@[simp] theorem poolTest_port : s.poolTest.port = s.port := by
  rw [poolTest_only]
@[simp] theorem poolTest_recUnit : s.poolTest.recUnit = s.recUnit := by
  rw [poolTest_only]
@[simp] theorem poolTest_chans : s.poolTest.chans = s.chans := by
  rw [poolTest_only]
@[simp] theorem poolTest_scan : s.poolTest.scan = s.scan := by
  rw [poolTest_only]
@[simp] theorem poolTest_print : s.poolTest.print = s.print := by
  rw [poolTest_only]
@[simp] theorem poolTest_coder : s.poolTest.coder = s.coder := by
  rw [poolTest_only]
@[simp] theorem poolTest_motors : s.poolTest.motors = s.motors := by
  rw [poolTest_only]
@[simp] theorem poolTest_power : s.poolTest.power = s.power := by
  rw [poolTest_only]
@[simp] theorem poolTest_boot : s.poolTest.boot = s.boot := by
  rw [poolTest_only]
@[simp] theorem poolTest_host : s.poolTest.host = s.host := by
  rw [poolTest_only]
@[simp] theorem poolTest_eeprom : s.poolTest.eeprom = s.eeprom := by
  rw [poolTest_only]
@[simp] theorem poolTest_free : s.poolTest.free = s.free := by
  rw [poolTest_only]
@[simp] theorem poolTest_pending : s.poolTest.pending = s.pending := by
  rw [poolTest_only]
@[simp] theorem poolTest_chan (d : Channel) : s.poolTest.chan d = s.chan d := by
  rw [poolTest_only]; rfl
@[simp] theorem poolTest_buf (d : BufId) : s.poolTest.buf d = s.buf d := by
  rw [poolTest_only]; rfl
@[simp] theorem poolTest_motor (d : MotorId) : s.poolTest.motor d = s.motor d := by
  rw [poolTest_only]; rfl
@[simp] theorem poolTest_ramp (d : Fin 4) : s.poolTest.ramp d = s.ramp d := by
  rw [poolTest_only]; rfl

/-! ## Setting the scan reservation -/

theorem reserve_only (v : Nat) :
    s.reserve v =
      { s with page := (s.reserve v).page, sensor := (s.reserve v).sensor } := by
  unfold State.reserve
  rw [poolTest_only]

@[simp] theorem reserve_mem (v : Nat) : (s.reserve v).mem = s.mem := by
  rw [reserve_only]
@[simp] theorem reserve_port (v : Nat) : (s.reserve v).port = s.port := by
  rw [reserve_only]
@[simp] theorem reserve_recUnit (v : Nat) : (s.reserve v).recUnit = s.recUnit := by
  rw [reserve_only]
@[simp] theorem reserve_chans (v : Nat) : (s.reserve v).chans = s.chans := by
  rw [reserve_only]
@[simp] theorem reserve_scan (v : Nat) : (s.reserve v).scan = s.scan := by
  rw [reserve_only]
@[simp] theorem reserve_print (v : Nat) : (s.reserve v).print = s.print := by
  rw [reserve_only]
@[simp] theorem reserve_coder (v : Nat) : (s.reserve v).coder = s.coder := by
  rw [reserve_only]
@[simp] theorem reserve_motors (v : Nat) : (s.reserve v).motors = s.motors := by
  rw [reserve_only]
@[simp] theorem reserve_power (v : Nat) : (s.reserve v).power = s.power := by
  rw [reserve_only]
@[simp] theorem reserve_boot (v : Nat) : (s.reserve v).boot = s.boot := by
  rw [reserve_only]
@[simp] theorem reserve_host (v : Nat) : (s.reserve v).host = s.host := by
  rw [reserve_only]
@[simp] theorem reserve_eeprom (v : Nat) : (s.reserve v).eeprom = s.eeprom := by
  rw [reserve_only]
@[simp] theorem reserve_free (v : Nat) : (s.reserve v).free = s.free := by
  rw [reserve_only]
@[simp] theorem reserve_pending (v : Nat) : (s.reserve v).pending = s.pending := by
  rw [reserve_only]
@[simp] theorem reserve_chan (v : Nat) (d : Channel) : (s.reserve v).chan d = s.chan d := by
  rw [reserve_only]; rfl
@[simp] theorem reserve_buf (v : Nat) (d : BufId) : (s.reserve v).buf d = s.buf d := by
  rw [reserve_only]; rfl
@[simp] theorem reserve_motor (v : Nat) (d : MotorId) : (s.reserve v).motor d = s.motor d := by
  rw [reserve_only]; rfl
@[simp] theorem reserve_ramp (v : Nat) (d : Fin 4) : (s.reserve v).ramp d = s.ramp d := by
  rw [reserve_only]; rfl

/-! ## Returning bands -/

theorem returnBands_only (bs : List Nat) :
    s.returnBands bs =
      { s with page := (s.returnBands bs).page } := by
  rfl

@[simp] theorem returnBands_mem (bs : List Nat) : (s.returnBands bs).mem = s.mem := by
  rw [returnBands_only]
@[simp] theorem returnBands_port (bs : List Nat) : (s.returnBands bs).port = s.port := by
  rw [returnBands_only]
@[simp] theorem returnBands_recUnit (bs : List Nat) : (s.returnBands bs).recUnit = s.recUnit := by
  rw [returnBands_only]
@[simp] theorem returnBands_chans (bs : List Nat) : (s.returnBands bs).chans = s.chans := by
  rw [returnBands_only]
@[simp] theorem returnBands_scan (bs : List Nat) : (s.returnBands bs).scan = s.scan := by
  rw [returnBands_only]
@[simp] theorem returnBands_print (bs : List Nat) : (s.returnBands bs).print = s.print := by
  rw [returnBands_only]
@[simp] theorem returnBands_coder (bs : List Nat) : (s.returnBands bs).coder = s.coder := by
  rw [returnBands_only]
@[simp] theorem returnBands_motors (bs : List Nat) : (s.returnBands bs).motors = s.motors := by
  rw [returnBands_only]
@[simp] theorem returnBands_sensor (bs : List Nat) : (s.returnBands bs).sensor = s.sensor := by
  rw [returnBands_only]
@[simp] theorem returnBands_power (bs : List Nat) : (s.returnBands bs).power = s.power := by
  rw [returnBands_only]
@[simp] theorem returnBands_boot (bs : List Nat) : (s.returnBands bs).boot = s.boot := by
  rw [returnBands_only]
@[simp] theorem returnBands_host (bs : List Nat) : (s.returnBands bs).host = s.host := by
  rw [returnBands_only]
@[simp] theorem returnBands_eeprom (bs : List Nat) : (s.returnBands bs).eeprom = s.eeprom := by
  rw [returnBands_only]
@[simp] theorem returnBands_free (bs : List Nat) : (s.returnBands bs).free = s.free := by
  rw [returnBands_only]
@[simp] theorem returnBands_pending (bs : List Nat) : (s.returnBands bs).pending = s.pending := by
  rw [returnBands_only]
@[simp] theorem returnBands_chan (bs : List Nat) (d : Channel) : (s.returnBands bs).chan d = s.chan d := by
  rw [returnBands_only]; rfl
@[simp] theorem returnBands_buf (bs : List Nat) (d : BufId) : (s.returnBands bs).buf d = s.buf d := by
  rw [returnBands_only]; rfl
@[simp] theorem returnBands_motor (bs : List Nat) (d : MotorId) : (s.returnBands bs).motor d = s.motor d := by
  rw [returnBands_only]; rfl
@[simp] theorem returnBands_ramp (bs : List Nat) (d : Fin 4) : (s.returnBands bs).ramp d = s.ramp d := by
  rw [returnBands_only]; rfl
@[simp] theorem returnBands_gate (bs : List Nat) (d : Fin 16) : (s.returnBands bs).gate d = s.gate d := by
  rw [returnBands_only]; rfl
@[simp] theorem returnBands_source (bs : List Nat) (d : Fin 24) : (s.returnBands bs).source d = s.source d := by
  rw [returnBands_only]; rfl

/-! ## Marking a stale reference -/

theorem markStale_only :
    s.markStale =
      { s with page := s.markStale.page } := by
  rfl

@[simp] theorem markStale_mem : s.markStale.mem = s.mem := by
  rw [markStale_only]
@[simp] theorem markStale_port : s.markStale.port = s.port := by
  rw [markStale_only]
@[simp] theorem markStale_recUnit : s.markStale.recUnit = s.recUnit := by
  rw [markStale_only]
@[simp] theorem markStale_chans : s.markStale.chans = s.chans := by
  rw [markStale_only]
@[simp] theorem markStale_scan : s.markStale.scan = s.scan := by
  rw [markStale_only]
@[simp] theorem markStale_print : s.markStale.print = s.print := by
  rw [markStale_only]
@[simp] theorem markStale_coder : s.markStale.coder = s.coder := by
  rw [markStale_only]
@[simp] theorem markStale_motors : s.markStale.motors = s.motors := by
  rw [markStale_only]
@[simp] theorem markStale_sensor : s.markStale.sensor = s.sensor := by
  rw [markStale_only]
@[simp] theorem markStale_power : s.markStale.power = s.power := by
  rw [markStale_only]
@[simp] theorem markStale_boot : s.markStale.boot = s.boot := by
  rw [markStale_only]
@[simp] theorem markStale_host : s.markStale.host = s.host := by
  rw [markStale_only]
@[simp] theorem markStale_eeprom : s.markStale.eeprom = s.eeprom := by
  rw [markStale_only]
@[simp] theorem markStale_free : s.markStale.free = s.free := by
  rw [markStale_only]
@[simp] theorem markStale_pending : s.markStale.pending = s.pending := by
  rw [markStale_only]
@[simp] theorem markStale_chan (d : Channel) : s.markStale.chan d = s.chan d := by
  rw [markStale_only]; rfl
@[simp] theorem markStale_buf (d : BufId) : s.markStale.buf d = s.buf d := by
  rw [markStale_only]; rfl
@[simp] theorem markStale_motor (d : MotorId) : s.markStale.motor d = s.motor d := by
  rw [markStale_only]; rfl
@[simp] theorem markStale_ramp (d : Fin 4) : s.markStale.ramp d = s.ramp d := by
  rw [markStale_only]; rfl
@[simp] theorem markStale_gate (d : Fin 16) : s.markStale.gate d = s.gate d := by
  rw [markStale_only]; rfl
@[simp] theorem markStale_source (d : Fin 24) : s.markStale.source d = s.source d := by
  rw [markStale_only]; rfl

/-! ## The release test -/

theorem releaseTest_only (i : Fin 16) :
    s.releaseTest i =
      { s with page := (s.releaseTest i).page, sensor := (s.releaseTest i).sensor } := by
  unfold State.releaseTest
  dsimp only
  split
  · rw [poolTest_only]; rfl
  · rfl

@[simp] theorem releaseTest_mem (i : Fin 16) : (s.releaseTest i).mem = s.mem := by
  rw [releaseTest_only]
@[simp] theorem releaseTest_port (i : Fin 16) : (s.releaseTest i).port = s.port := by
  rw [releaseTest_only]
@[simp] theorem releaseTest_recUnit (i : Fin 16) : (s.releaseTest i).recUnit = s.recUnit := by
  rw [releaseTest_only]
@[simp] theorem releaseTest_chans (i : Fin 16) : (s.releaseTest i).chans = s.chans := by
  rw [releaseTest_only]
@[simp] theorem releaseTest_scan (i : Fin 16) : (s.releaseTest i).scan = s.scan := by
  rw [releaseTest_only]
@[simp] theorem releaseTest_print (i : Fin 16) : (s.releaseTest i).print = s.print := by
  rw [releaseTest_only]
@[simp] theorem releaseTest_coder (i : Fin 16) : (s.releaseTest i).coder = s.coder := by
  rw [releaseTest_only]
@[simp] theorem releaseTest_motors (i : Fin 16) : (s.releaseTest i).motors = s.motors := by
  rw [releaseTest_only]
@[simp] theorem releaseTest_power (i : Fin 16) : (s.releaseTest i).power = s.power := by
  rw [releaseTest_only]
@[simp] theorem releaseTest_boot (i : Fin 16) : (s.releaseTest i).boot = s.boot := by
  rw [releaseTest_only]
@[simp] theorem releaseTest_host (i : Fin 16) : (s.releaseTest i).host = s.host := by
  rw [releaseTest_only]
@[simp] theorem releaseTest_eeprom (i : Fin 16) : (s.releaseTest i).eeprom = s.eeprom := by
  rw [releaseTest_only]
@[simp] theorem releaseTest_free (i : Fin 16) : (s.releaseTest i).free = s.free := by
  rw [releaseTest_only]
@[simp] theorem releaseTest_pending (i : Fin 16) : (s.releaseTest i).pending = s.pending := by
  rw [releaseTest_only]
@[simp] theorem releaseTest_chan (i : Fin 16) (d : Channel) : (s.releaseTest i).chan d = s.chan d := by
  rw [releaseTest_only]; rfl
@[simp] theorem releaseTest_buf (i : Fin 16) (d : BufId) : (s.releaseTest i).buf d = s.buf d := by
  rw [releaseTest_only]; rfl
@[simp] theorem releaseTest_motor (i : Fin 16) (d : MotorId) : (s.releaseTest i).motor d = s.motor d := by
  rw [releaseTest_only]; rfl
@[simp] theorem releaseTest_ramp (i : Fin 16) (d : Fin 4) : (s.releaseTest i).ramp d = s.ramp d := by
  rw [releaseTest_only]; rfl

/-! ## Freeing behind a reader -/

theorem freeBehind_only (i : Fin 16) :
    s.freeBehind i =
      { s with page := (s.freeBehind i).page, sensor := (s.freeBehind i).sensor } := by
  unfold State.freeBehind
  dsimp only
  split
  · split
    · rw [poolTest_only]; rfl
    · rfl
  · rfl

@[simp] theorem freeBehind_mem (i : Fin 16) : (s.freeBehind i).mem = s.mem := by
  rw [freeBehind_only]
@[simp] theorem freeBehind_port (i : Fin 16) : (s.freeBehind i).port = s.port := by
  rw [freeBehind_only]
@[simp] theorem freeBehind_recUnit (i : Fin 16) : (s.freeBehind i).recUnit = s.recUnit := by
  rw [freeBehind_only]
@[simp] theorem freeBehind_chans (i : Fin 16) : (s.freeBehind i).chans = s.chans := by
  rw [freeBehind_only]
@[simp] theorem freeBehind_scan (i : Fin 16) : (s.freeBehind i).scan = s.scan := by
  rw [freeBehind_only]
@[simp] theorem freeBehind_print (i : Fin 16) : (s.freeBehind i).print = s.print := by
  rw [freeBehind_only]
@[simp] theorem freeBehind_coder (i : Fin 16) : (s.freeBehind i).coder = s.coder := by
  rw [freeBehind_only]
@[simp] theorem freeBehind_motors (i : Fin 16) : (s.freeBehind i).motors = s.motors := by
  rw [freeBehind_only]
@[simp] theorem freeBehind_power (i : Fin 16) : (s.freeBehind i).power = s.power := by
  rw [freeBehind_only]
@[simp] theorem freeBehind_boot (i : Fin 16) : (s.freeBehind i).boot = s.boot := by
  rw [freeBehind_only]
@[simp] theorem freeBehind_host (i : Fin 16) : (s.freeBehind i).host = s.host := by
  rw [freeBehind_only]
@[simp] theorem freeBehind_eeprom (i : Fin 16) : (s.freeBehind i).eeprom = s.eeprom := by
  rw [freeBehind_only]
@[simp] theorem freeBehind_free (i : Fin 16) : (s.freeBehind i).free = s.free := by
  rw [freeBehind_only]
@[simp] theorem freeBehind_pending (i : Fin 16) : (s.freeBehind i).pending = s.pending := by
  rw [freeBehind_only]
@[simp] theorem freeBehind_chan (i : Fin 16) (d : Channel) : (s.freeBehind i).chan d = s.chan d := by
  rw [freeBehind_only]; rfl
@[simp] theorem freeBehind_buf (i : Fin 16) (d : BufId) : (s.freeBehind i).buf d = s.buf d := by
  rw [freeBehind_only]; rfl
@[simp] theorem freeBehind_motor (i : Fin 16) (d : MotorId) : (s.freeBehind i).motor d = s.motor d := by
  rw [freeBehind_only]; rfl
@[simp] theorem freeBehind_ramp (i : Fin 16) (d : Fin 4) : (s.freeBehind i).ramp d = s.ramp d := by
  rw [freeBehind_only]; rfl

/-! ## A reader's leaving -/

theorem leave_only (i : Fin 16) (ch : Channel) (r : Bool) :
    s.leave i ch r =
      { s with page := (s.leave i ch r).page, sensor := (s.leave i ch r).sensor } := by
  unfold State.leave
  dsimp only
  rw [releaseTest_only]; rfl

@[simp] theorem leave_mem (i : Fin 16) (ch : Channel) (r : Bool) : (s.leave i ch r).mem = s.mem := by
  rw [leave_only]
@[simp] theorem leave_port (i : Fin 16) (ch : Channel) (r : Bool) : (s.leave i ch r).port = s.port := by
  rw [leave_only]
@[simp] theorem leave_recUnit (i : Fin 16) (ch : Channel) (r : Bool) : (s.leave i ch r).recUnit = s.recUnit := by
  rw [leave_only]
@[simp] theorem leave_chans (i : Fin 16) (ch : Channel) (r : Bool) : (s.leave i ch r).chans = s.chans := by
  rw [leave_only]
@[simp] theorem leave_scan (i : Fin 16) (ch : Channel) (r : Bool) : (s.leave i ch r).scan = s.scan := by
  rw [leave_only]
@[simp] theorem leave_print (i : Fin 16) (ch : Channel) (r : Bool) : (s.leave i ch r).print = s.print := by
  rw [leave_only]
@[simp] theorem leave_coder (i : Fin 16) (ch : Channel) (r : Bool) : (s.leave i ch r).coder = s.coder := by
  rw [leave_only]
@[simp] theorem leave_motors (i : Fin 16) (ch : Channel) (r : Bool) : (s.leave i ch r).motors = s.motors := by
  rw [leave_only]
@[simp] theorem leave_power (i : Fin 16) (ch : Channel) (r : Bool) : (s.leave i ch r).power = s.power := by
  rw [leave_only]
@[simp] theorem leave_boot (i : Fin 16) (ch : Channel) (r : Bool) : (s.leave i ch r).boot = s.boot := by
  rw [leave_only]
@[simp] theorem leave_host (i : Fin 16) (ch : Channel) (r : Bool) : (s.leave i ch r).host = s.host := by
  rw [leave_only]
@[simp] theorem leave_eeprom (i : Fin 16) (ch : Channel) (r : Bool) : (s.leave i ch r).eeprom = s.eeprom := by
  rw [leave_only]
@[simp] theorem leave_free (i : Fin 16) (ch : Channel) (r : Bool) : (s.leave i ch r).free = s.free := by
  rw [leave_only]
@[simp] theorem leave_pending (i : Fin 16) (ch : Channel) (r : Bool) : (s.leave i ch r).pending = s.pending := by
  rw [leave_only]
@[simp] theorem leave_chan (i : Fin 16) (ch : Channel) (r : Bool) (d : Channel) : (s.leave i ch r).chan d = s.chan d := by
  rw [leave_only]; rfl
@[simp] theorem leave_buf (i : Fin 16) (ch : Channel) (r : Bool) (d : BufId) : (s.leave i ch r).buf d = s.buf d := by
  rw [leave_only]; rfl
@[simp] theorem leave_motor (i : Fin 16) (ch : Channel) (r : Bool) (d : MotorId) : (s.leave i ch r).motor d = s.motor d := by
  rw [leave_only]; rfl
@[simp] theorem leave_ramp (i : Fin 16) (ch : Channel) (r : Bool) (d : Fin 4) : (s.leave i ch r).ramp d = s.ramp d := by
  rw [leave_only]; rfl

/-! ## Giving a slot -/

theorem giveSlot_only (i : Fin 16) (ch : Channel) (a b c : Bool) (n : Nat) :
    s.giveSlot i ch a b c n =
      { s with page := (s.giveSlot i ch a b c n).page } := by
  rfl

@[simp] theorem giveSlot_mem (i : Fin 16) (ch : Channel) (a b c : Bool) (n : Nat) : (s.giveSlot i ch a b c n).mem = s.mem := by
  rw [giveSlot_only]
@[simp] theorem giveSlot_port (i : Fin 16) (ch : Channel) (a b c : Bool) (n : Nat) : (s.giveSlot i ch a b c n).port = s.port := by
  rw [giveSlot_only]
@[simp] theorem giveSlot_recUnit (i : Fin 16) (ch : Channel) (a b c : Bool) (n : Nat) : (s.giveSlot i ch a b c n).recUnit = s.recUnit := by
  rw [giveSlot_only]
@[simp] theorem giveSlot_chans (i : Fin 16) (ch : Channel) (a b c : Bool) (n : Nat) : (s.giveSlot i ch a b c n).chans = s.chans := by
  rw [giveSlot_only]
@[simp] theorem giveSlot_scan (i : Fin 16) (ch : Channel) (a b c : Bool) (n : Nat) : (s.giveSlot i ch a b c n).scan = s.scan := by
  rw [giveSlot_only]
@[simp] theorem giveSlot_print (i : Fin 16) (ch : Channel) (a b c : Bool) (n : Nat) : (s.giveSlot i ch a b c n).print = s.print := by
  rw [giveSlot_only]
@[simp] theorem giveSlot_coder (i : Fin 16) (ch : Channel) (a b c : Bool) (n : Nat) : (s.giveSlot i ch a b c n).coder = s.coder := by
  rw [giveSlot_only]
@[simp] theorem giveSlot_motors (i : Fin 16) (ch : Channel) (a b c : Bool) (n : Nat) : (s.giveSlot i ch a b c n).motors = s.motors := by
  rw [giveSlot_only]
@[simp] theorem giveSlot_sensor (i : Fin 16) (ch : Channel) (a b c : Bool) (n : Nat) : (s.giveSlot i ch a b c n).sensor = s.sensor := by
  rw [giveSlot_only]
@[simp] theorem giveSlot_power (i : Fin 16) (ch : Channel) (a b c : Bool) (n : Nat) : (s.giveSlot i ch a b c n).power = s.power := by
  rw [giveSlot_only]
@[simp] theorem giveSlot_boot (i : Fin 16) (ch : Channel) (a b c : Bool) (n : Nat) : (s.giveSlot i ch a b c n).boot = s.boot := by
  rw [giveSlot_only]
@[simp] theorem giveSlot_host (i : Fin 16) (ch : Channel) (a b c : Bool) (n : Nat) : (s.giveSlot i ch a b c n).host = s.host := by
  rw [giveSlot_only]
@[simp] theorem giveSlot_eeprom (i : Fin 16) (ch : Channel) (a b c : Bool) (n : Nat) : (s.giveSlot i ch a b c n).eeprom = s.eeprom := by
  rw [giveSlot_only]
@[simp] theorem giveSlot_free (i : Fin 16) (ch : Channel) (a b c : Bool) (n : Nat) : (s.giveSlot i ch a b c n).free = s.free := by
  rw [giveSlot_only]
@[simp] theorem giveSlot_pending (i : Fin 16) (ch : Channel) (a b c : Bool) (n : Nat) : (s.giveSlot i ch a b c n).pending = s.pending := by
  rw [giveSlot_only]
@[simp] theorem giveSlot_chan (i : Fin 16) (ch : Channel) (a b c : Bool) (n : Nat) (d : Channel) : (s.giveSlot i ch a b c n).chan d = s.chan d := by
  rw [giveSlot_only]; rfl
@[simp] theorem giveSlot_buf (i : Fin 16) (ch : Channel) (a b c : Bool) (n : Nat) (d : BufId) : (s.giveSlot i ch a b c n).buf d = s.buf d := by
  rw [giveSlot_only]; rfl
@[simp] theorem giveSlot_motor (i : Fin 16) (ch : Channel) (a b c : Bool) (n : Nat) (d : MotorId) : (s.giveSlot i ch a b c n).motor d = s.motor d := by
  rw [giveSlot_only]; rfl
@[simp] theorem giveSlot_ramp (i : Fin 16) (ch : Channel) (a b c : Bool) (n : Nat) (d : Fin 4) : (s.giveSlot i ch a b c n).ramp d = s.ramp d := by
  rw [giveSlot_only]; rfl
@[simp] theorem giveSlot_gate (i : Fin 16) (ch : Channel) (a b c : Bool) (n : Nat) (d : Fin 16) : (s.giveSlot i ch a b c n).gate d = s.gate d := by
  rw [giveSlot_only]; rfl
@[simp] theorem giveSlot_source (i : Fin 16) (ch : Channel) (a b c : Bool) (n : Nat) (d : Fin 24) : (s.giveSlot i ch a b c n).source d = s.source d := by
  rw [giveSlot_only]; rfl

/-! ## Taking a band -/

theorem takeBand_only (i : Fin 16) (scan : Bool) :
    s.takeBand i scan =
      { s with page := (s.takeBand i scan).page, sensor := (s.takeBand i scan).sensor } := by
  unfold State.takeBand
  dsimp only
  split
  · rfl
  · rw [poolTest_only, freeBehind_only]; rfl

@[simp] theorem takeBand_mem (i : Fin 16) (scan : Bool) : (s.takeBand i scan).mem = s.mem := by
  rw [takeBand_only]
@[simp] theorem takeBand_port (i : Fin 16) (scan : Bool) : (s.takeBand i scan).port = s.port := by
  rw [takeBand_only]
@[simp] theorem takeBand_recUnit (i : Fin 16) (scan : Bool) : (s.takeBand i scan).recUnit = s.recUnit := by
  rw [takeBand_only]
@[simp] theorem takeBand_chans (i : Fin 16) (scan : Bool) : (s.takeBand i scan).chans = s.chans := by
  rw [takeBand_only]
@[simp] theorem takeBand_scan (i : Fin 16) (scan : Bool) : (s.takeBand i scan).scan = s.scan := by
  rw [takeBand_only]
@[simp] theorem takeBand_print (i : Fin 16) (scan : Bool) : (s.takeBand i scan).print = s.print := by
  rw [takeBand_only]
@[simp] theorem takeBand_coder (i : Fin 16) (scan : Bool) : (s.takeBand i scan).coder = s.coder := by
  rw [takeBand_only]
@[simp] theorem takeBand_motors (i : Fin 16) (scan : Bool) : (s.takeBand i scan).motors = s.motors := by
  rw [takeBand_only]
@[simp] theorem takeBand_power (i : Fin 16) (scan : Bool) : (s.takeBand i scan).power = s.power := by
  rw [takeBand_only]
@[simp] theorem takeBand_boot (i : Fin 16) (scan : Bool) : (s.takeBand i scan).boot = s.boot := by
  rw [takeBand_only]
@[simp] theorem takeBand_host (i : Fin 16) (scan : Bool) : (s.takeBand i scan).host = s.host := by
  rw [takeBand_only]
@[simp] theorem takeBand_eeprom (i : Fin 16) (scan : Bool) : (s.takeBand i scan).eeprom = s.eeprom := by
  rw [takeBand_only]
@[simp] theorem takeBand_free (i : Fin 16) (scan : Bool) : (s.takeBand i scan).free = s.free := by
  rw [takeBand_only]
@[simp] theorem takeBand_pending (i : Fin 16) (scan : Bool) : (s.takeBand i scan).pending = s.pending := by
  rw [takeBand_only]
@[simp] theorem takeBand_chan (i : Fin 16) (scan : Bool) (d : Channel) : (s.takeBand i scan).chan d = s.chan d := by
  rw [takeBand_only]; rfl
@[simp] theorem takeBand_buf (i : Fin 16) (scan : Bool) (d : BufId) : (s.takeBand i scan).buf d = s.buf d := by
  rw [takeBand_only]; rfl
@[simp] theorem takeBand_motor (i : Fin 16) (scan : Bool) (d : MotorId) : (s.takeBand i scan).motor d = s.motor d := by
  rw [takeBand_only]; rfl
@[simp] theorem takeBand_ramp (i : Fin 16) (scan : Bool) (d : Fin 4) : (s.takeBand i scan).ramp d = s.ramp d := by
  rw [takeBand_only]; rfl

/-! ## Storing a line -/

theorem storeLine_only (i : Fin 16) :
    s.storeLine i =
      { s with page := (s.storeLine i).page } := by
  rfl

@[simp] theorem storeLine_mem (i : Fin 16) : (s.storeLine i).mem = s.mem := by
  rw [storeLine_only]
@[simp] theorem storeLine_port (i : Fin 16) : (s.storeLine i).port = s.port := by
  rw [storeLine_only]
@[simp] theorem storeLine_recUnit (i : Fin 16) : (s.storeLine i).recUnit = s.recUnit := by
  rw [storeLine_only]
@[simp] theorem storeLine_chans (i : Fin 16) : (s.storeLine i).chans = s.chans := by
  rw [storeLine_only]
@[simp] theorem storeLine_scan (i : Fin 16) : (s.storeLine i).scan = s.scan := by
  rw [storeLine_only]
@[simp] theorem storeLine_print (i : Fin 16) : (s.storeLine i).print = s.print := by
  rw [storeLine_only]
@[simp] theorem storeLine_coder (i : Fin 16) : (s.storeLine i).coder = s.coder := by
  rw [storeLine_only]
@[simp] theorem storeLine_motors (i : Fin 16) : (s.storeLine i).motors = s.motors := by
  rw [storeLine_only]
@[simp] theorem storeLine_sensor (i : Fin 16) : (s.storeLine i).sensor = s.sensor := by
  rw [storeLine_only]
@[simp] theorem storeLine_power (i : Fin 16) : (s.storeLine i).power = s.power := by
  rw [storeLine_only]
@[simp] theorem storeLine_boot (i : Fin 16) : (s.storeLine i).boot = s.boot := by
  rw [storeLine_only]
@[simp] theorem storeLine_host (i : Fin 16) : (s.storeLine i).host = s.host := by
  rw [storeLine_only]
@[simp] theorem storeLine_eeprom (i : Fin 16) : (s.storeLine i).eeprom = s.eeprom := by
  rw [storeLine_only]
@[simp] theorem storeLine_free (i : Fin 16) : (s.storeLine i).free = s.free := by
  rw [storeLine_only]
@[simp] theorem storeLine_pending (i : Fin 16) : (s.storeLine i).pending = s.pending := by
  rw [storeLine_only]
@[simp] theorem storeLine_chan (i : Fin 16) (d : Channel) : (s.storeLine i).chan d = s.chan d := by
  rw [storeLine_only]; rfl
@[simp] theorem storeLine_buf (i : Fin 16) (d : BufId) : (s.storeLine i).buf d = s.buf d := by
  rw [storeLine_only]; rfl
@[simp] theorem storeLine_motor (i : Fin 16) (d : MotorId) : (s.storeLine i).motor d = s.motor d := by
  rw [storeLine_only]; rfl
@[simp] theorem storeLine_ramp (i : Fin 16) (d : Fin 4) : (s.storeLine i).ramp d = s.ramp d := by
  rw [storeLine_only]; rfl
@[simp] theorem storeLine_gate (i : Fin 16) (d : Fin 16) : (s.storeLine i).gate d = s.gate d := by
  rw [storeLine_only]; rfl
@[simp] theorem storeLine_source (i : Fin 16) (d : Fin 24) : (s.storeLine i).source d = s.source d := by
  rw [storeLine_only]; rfl

/-! ## Closing a page -/

theorem closePage_only (i : Fin 16) (cut : Bool) :
    s.closePage i cut =
      { s with page := (s.closePage i cut).page, sensor := (s.closePage i cut).sensor } := by
  unfold State.closePage
  dsimp only
  rw [freeBehind_only]
  split
  · rfl
  · rw [poolTest_only]; rfl

@[simp] theorem closePage_mem (i : Fin 16) (cut : Bool) : (s.closePage i cut).mem = s.mem := by
  rw [closePage_only]
@[simp] theorem closePage_port (i : Fin 16) (cut : Bool) : (s.closePage i cut).port = s.port := by
  rw [closePage_only]
@[simp] theorem closePage_recUnit (i : Fin 16) (cut : Bool) : (s.closePage i cut).recUnit = s.recUnit := by
  rw [closePage_only]
@[simp] theorem closePage_chans (i : Fin 16) (cut : Bool) : (s.closePage i cut).chans = s.chans := by
  rw [closePage_only]
@[simp] theorem closePage_scan (i : Fin 16) (cut : Bool) : (s.closePage i cut).scan = s.scan := by
  rw [closePage_only]
@[simp] theorem closePage_print (i : Fin 16) (cut : Bool) : (s.closePage i cut).print = s.print := by
  rw [closePage_only]
@[simp] theorem closePage_coder (i : Fin 16) (cut : Bool) : (s.closePage i cut).coder = s.coder := by
  rw [closePage_only]
@[simp] theorem closePage_motors (i : Fin 16) (cut : Bool) : (s.closePage i cut).motors = s.motors := by
  rw [closePage_only]
@[simp] theorem closePage_power (i : Fin 16) (cut : Bool) : (s.closePage i cut).power = s.power := by
  rw [closePage_only]
@[simp] theorem closePage_boot (i : Fin 16) (cut : Bool) : (s.closePage i cut).boot = s.boot := by
  rw [closePage_only]
@[simp] theorem closePage_host (i : Fin 16) (cut : Bool) : (s.closePage i cut).host = s.host := by
  rw [closePage_only]
@[simp] theorem closePage_eeprom (i : Fin 16) (cut : Bool) : (s.closePage i cut).eeprom = s.eeprom := by
  rw [closePage_only]
@[simp] theorem closePage_free (i : Fin 16) (cut : Bool) : (s.closePage i cut).free = s.free := by
  rw [closePage_only]
@[simp] theorem closePage_pending (i : Fin 16) (cut : Bool) : (s.closePage i cut).pending = s.pending := by
  rw [closePage_only]
@[simp] theorem closePage_chan (i : Fin 16) (cut : Bool) (d : Channel) : (s.closePage i cut).chan d = s.chan d := by
  rw [closePage_only]; rfl
@[simp] theorem closePage_buf (i : Fin 16) (cut : Bool) (d : BufId) : (s.closePage i cut).buf d = s.buf d := by
  rw [closePage_only]; rfl
@[simp] theorem closePage_motor (i : Fin 16) (cut : Bool) (d : MotorId) : (s.closePage i cut).motor d = s.motor d := by
  rw [closePage_only]; rfl
@[simp] theorem closePage_ramp (i : Fin 16) (cut : Bool) (d : Fin 4) : (s.closePage i cut).ramp d = s.ramp d := by
  rw [closePage_only]; rfl

/-! ## Completing a page -/

theorem completePage_only (i : Fin 16) (cut : Bool) :
    s.completePage i cut =
      { s with page := (s.completePage i cut).page, sensor := (s.completePage i cut).sensor } := by
  unfold State.completePage
  rw [releaseTest_only, closePage_only]

@[simp] theorem completePage_mem (i : Fin 16) (cut : Bool) : (s.completePage i cut).mem = s.mem := by
  rw [completePage_only]
@[simp] theorem completePage_port (i : Fin 16) (cut : Bool) : (s.completePage i cut).port = s.port := by
  rw [completePage_only]
@[simp] theorem completePage_recUnit (i : Fin 16) (cut : Bool) : (s.completePage i cut).recUnit = s.recUnit := by
  rw [completePage_only]
@[simp] theorem completePage_chans (i : Fin 16) (cut : Bool) : (s.completePage i cut).chans = s.chans := by
  rw [completePage_only]
@[simp] theorem completePage_scan (i : Fin 16) (cut : Bool) : (s.completePage i cut).scan = s.scan := by
  rw [completePage_only]
@[simp] theorem completePage_print (i : Fin 16) (cut : Bool) : (s.completePage i cut).print = s.print := by
  rw [completePage_only]
@[simp] theorem completePage_coder (i : Fin 16) (cut : Bool) : (s.completePage i cut).coder = s.coder := by
  rw [completePage_only]
@[simp] theorem completePage_motors (i : Fin 16) (cut : Bool) : (s.completePage i cut).motors = s.motors := by
  rw [completePage_only]
@[simp] theorem completePage_power (i : Fin 16) (cut : Bool) : (s.completePage i cut).power = s.power := by
  rw [completePage_only]
@[simp] theorem completePage_boot (i : Fin 16) (cut : Bool) : (s.completePage i cut).boot = s.boot := by
  rw [completePage_only]
@[simp] theorem completePage_host (i : Fin 16) (cut : Bool) : (s.completePage i cut).host = s.host := by
  rw [completePage_only]
@[simp] theorem completePage_eeprom (i : Fin 16) (cut : Bool) : (s.completePage i cut).eeprom = s.eeprom := by
  rw [completePage_only]
@[simp] theorem completePage_free (i : Fin 16) (cut : Bool) : (s.completePage i cut).free = s.free := by
  rw [completePage_only]
@[simp] theorem completePage_pending (i : Fin 16) (cut : Bool) : (s.completePage i cut).pending = s.pending := by
  rw [completePage_only]
@[simp] theorem completePage_chan (i : Fin 16) (cut : Bool) (d : Channel) : (s.completePage i cut).chan d = s.chan d := by
  rw [completePage_only]; rfl
@[simp] theorem completePage_buf (i : Fin 16) (cut : Bool) (d : BufId) : (s.completePage i cut).buf d = s.buf d := by
  rw [completePage_only]; rfl
@[simp] theorem completePage_motor (i : Fin 16) (cut : Bool) (d : MotorId) : (s.completePage i cut).motor d = s.motor d := by
  rw [completePage_only]; rfl
@[simp] theorem completePage_ramp (i : Fin 16) (cut : Bool) (d : Fin 4) : (s.completePage i cut).ramp d = s.ramp d := by
  rw [completePage_only]; rfl

/-! ## Leaving DOZE -/

theorem leaveDoze_only (k : Nat) :
    s.leaveDoze k =
      { s with sensor := (s.leaveDoze k).sensor, power := (s.leaveDoze k).power } := by
  unfold State.leaveDoze
  split
  · rw [raise_only]
  · rfl

@[simp] theorem leaveDoze_mem (k : Nat) : (s.leaveDoze k).mem = s.mem := by
  rw [leaveDoze_only]
@[simp] theorem leaveDoze_port (k : Nat) : (s.leaveDoze k).port = s.port := by
  rw [leaveDoze_only]
@[simp] theorem leaveDoze_page (k : Nat) : (s.leaveDoze k).page = s.page := by
  rw [leaveDoze_only]
@[simp] theorem leaveDoze_recUnit (k : Nat) : (s.leaveDoze k).recUnit = s.recUnit := by
  rw [leaveDoze_only]
@[simp] theorem leaveDoze_chans (k : Nat) : (s.leaveDoze k).chans = s.chans := by
  rw [leaveDoze_only]
@[simp] theorem leaveDoze_scan (k : Nat) : (s.leaveDoze k).scan = s.scan := by
  rw [leaveDoze_only]
@[simp] theorem leaveDoze_print (k : Nat) : (s.leaveDoze k).print = s.print := by
  rw [leaveDoze_only]
@[simp] theorem leaveDoze_coder (k : Nat) : (s.leaveDoze k).coder = s.coder := by
  rw [leaveDoze_only]
@[simp] theorem leaveDoze_motors (k : Nat) : (s.leaveDoze k).motors = s.motors := by
  rw [leaveDoze_only]
@[simp] theorem leaveDoze_boot (k : Nat) : (s.leaveDoze k).boot = s.boot := by
  rw [leaveDoze_only]
@[simp] theorem leaveDoze_host (k : Nat) : (s.leaveDoze k).host = s.host := by
  rw [leaveDoze_only]
@[simp] theorem leaveDoze_eeprom (k : Nat) : (s.leaveDoze k).eeprom = s.eeprom := by
  rw [leaveDoze_only]
@[simp] theorem leaveDoze_free (k : Nat) : (s.leaveDoze k).free = s.free := by
  rw [leaveDoze_only]
@[simp] theorem leaveDoze_pending (k : Nat) : (s.leaveDoze k).pending = s.pending := by
  rw [leaveDoze_only]
@[simp] theorem leaveDoze_slot (k : Nat) (d : Fin 16) : (s.leaveDoze k).slot d = s.slot d := by
  rw [leaveDoze_only]; rfl
@[simp] theorem leaveDoze_chan (k : Nat) (d : Channel) : (s.leaveDoze k).chan d = s.chan d := by
  rw [leaveDoze_only]; rfl
@[simp] theorem leaveDoze_buf (k : Nat) (d : BufId) : (s.leaveDoze k).buf d = s.buf d := by
  rw [leaveDoze_only]; rfl
@[simp] theorem leaveDoze_motor (k : Nat) (d : MotorId) : (s.leaveDoze k).motor d = s.motor d := by
  rw [leaveDoze_only]; rfl
@[simp] theorem leaveDoze_ramp (k : Nat) (d : Fin 4) : (s.leaveDoze k).ramp d = s.ramp d := by
  rw [leaveDoze_only]; rfl

/-! ## Completing a command -/

theorem complete_only (c : ResultCode) (r : List Nat) :
    s.complete c r =
      { s with recUnit := (s.complete c r).recUnit } := by
  rfl

@[simp] theorem complete_mem (c : ResultCode) (r : List Nat) : (s.complete c r).mem = s.mem := by
  rw [complete_only]
@[simp] theorem complete_port (c : ResultCode) (r : List Nat) : (s.complete c r).port = s.port := by
  rw [complete_only]
@[simp] theorem complete_page (c : ResultCode) (r : List Nat) : (s.complete c r).page = s.page := by
  rw [complete_only]
@[simp] theorem complete_chans (c : ResultCode) (r : List Nat) : (s.complete c r).chans = s.chans := by
  rw [complete_only]
@[simp] theorem complete_scan (c : ResultCode) (r : List Nat) : (s.complete c r).scan = s.scan := by
  rw [complete_only]
@[simp] theorem complete_print (c : ResultCode) (r : List Nat) : (s.complete c r).print = s.print := by
  rw [complete_only]
@[simp] theorem complete_coder (c : ResultCode) (r : List Nat) : (s.complete c r).coder = s.coder := by
  rw [complete_only]
@[simp] theorem complete_motors (c : ResultCode) (r : List Nat) : (s.complete c r).motors = s.motors := by
  rw [complete_only]
@[simp] theorem complete_sensor (c : ResultCode) (r : List Nat) : (s.complete c r).sensor = s.sensor := by
  rw [complete_only]
@[simp] theorem complete_power (c : ResultCode) (r : List Nat) : (s.complete c r).power = s.power := by
  rw [complete_only]
@[simp] theorem complete_boot (c : ResultCode) (r : List Nat) : (s.complete c r).boot = s.boot := by
  rw [complete_only]
@[simp] theorem complete_host (c : ResultCode) (r : List Nat) : (s.complete c r).host = s.host := by
  rw [complete_only]
@[simp] theorem complete_eeprom (c : ResultCode) (r : List Nat) : (s.complete c r).eeprom = s.eeprom := by
  rw [complete_only]
@[simp] theorem complete_free (c : ResultCode) (r : List Nat) : (s.complete c r).free = s.free := by
  rw [complete_only]
@[simp] theorem complete_pending (c : ResultCode) (r : List Nat) : (s.complete c r).pending = s.pending := by
  rw [complete_only]
@[simp] theorem complete_slot (c : ResultCode) (r : List Nat) (d : Fin 16) : (s.complete c r).slot d = s.slot d := by
  rw [complete_only]; rfl
@[simp] theorem complete_chan (c : ResultCode) (r : List Nat) (d : Channel) : (s.complete c r).chan d = s.chan d := by
  rw [complete_only]; rfl
@[simp] theorem complete_buf (c : ResultCode) (r : List Nat) (d : BufId) : (s.complete c r).buf d = s.buf d := by
  rw [complete_only]; rfl
@[simp] theorem complete_motor (c : ResultCode) (r : List Nat) (d : MotorId) : (s.complete c r).motor d = s.motor d := by
  rw [complete_only]; rfl
@[simp] theorem complete_ramp (c : ResultCode) (r : List Nat) (d : Fin 4) : (s.complete c r).ramp d = s.ramp d := by
  rw [complete_only]; rfl
@[simp] theorem complete_gate (c : ResultCode) (r : List Nat) (d : Fin 16) : (s.complete c r).gate d = s.gate d := by
  rw [complete_only]; rfl
@[simp] theorem complete_source (c : ResultCode) (r : List Nat) (d : Fin 24) : (s.complete c r).source d = s.source d := by
  rw [complete_only]; rfl

/-! ## Refusing a command -/

theorem refuse_only (c : ResultCode) :
    s.refuse c =
      { s with recUnit := (s.refuse c).recUnit } := by
  rfl

@[simp] theorem refuse_mem (c : ResultCode) : (s.refuse c).mem = s.mem := by
  rw [refuse_only]
@[simp] theorem refuse_port (c : ResultCode) : (s.refuse c).port = s.port := by
  rw [refuse_only]
@[simp] theorem refuse_page (c : ResultCode) : (s.refuse c).page = s.page := by
  rw [refuse_only]
@[simp] theorem refuse_chans (c : ResultCode) : (s.refuse c).chans = s.chans := by
  rw [refuse_only]
@[simp] theorem refuse_scan (c : ResultCode) : (s.refuse c).scan = s.scan := by
  rw [refuse_only]
@[simp] theorem refuse_print (c : ResultCode) : (s.refuse c).print = s.print := by
  rw [refuse_only]
@[simp] theorem refuse_coder (c : ResultCode) : (s.refuse c).coder = s.coder := by
  rw [refuse_only]
@[simp] theorem refuse_motors (c : ResultCode) : (s.refuse c).motors = s.motors := by
  rw [refuse_only]
@[simp] theorem refuse_sensor (c : ResultCode) : (s.refuse c).sensor = s.sensor := by
  rw [refuse_only]
@[simp] theorem refuse_power (c : ResultCode) : (s.refuse c).power = s.power := by
  rw [refuse_only]
@[simp] theorem refuse_boot (c : ResultCode) : (s.refuse c).boot = s.boot := by
  rw [refuse_only]
@[simp] theorem refuse_host (c : ResultCode) : (s.refuse c).host = s.host := by
  rw [refuse_only]
@[simp] theorem refuse_eeprom (c : ResultCode) : (s.refuse c).eeprom = s.eeprom := by
  rw [refuse_only]
@[simp] theorem refuse_free (c : ResultCode) : (s.refuse c).free = s.free := by
  rw [refuse_only]
@[simp] theorem refuse_pending (c : ResultCode) : (s.refuse c).pending = s.pending := by
  rw [refuse_only]
@[simp] theorem refuse_slot (c : ResultCode) (d : Fin 16) : (s.refuse c).slot d = s.slot d := by
  rw [refuse_only]; rfl
@[simp] theorem refuse_chan (c : ResultCode) (d : Channel) : (s.refuse c).chan d = s.chan d := by
  rw [refuse_only]; rfl
@[simp] theorem refuse_buf (c : ResultCode) (d : BufId) : (s.refuse c).buf d = s.buf d := by
  rw [refuse_only]; rfl
@[simp] theorem refuse_motor (c : ResultCode) (d : MotorId) : (s.refuse c).motor d = s.motor d := by
  rw [refuse_only]; rfl
@[simp] theorem refuse_ramp (c : ResultCode) (d : Fin 4) : (s.refuse c).ramp d = s.ramp d := by
  rw [refuse_only]; rfl
@[simp] theorem refuse_gate (c : ResultCode) (d : Fin 16) : (s.refuse c).gate d = s.gate d := by
  rw [refuse_only]; rfl
@[simp] theorem refuse_source (c : ResultCode) (d : Fin 24) : (s.refuse c).source d = s.source d := by
  rw [refuse_only]; rfl

/-! ## Starting work -/

theorem startWork_only (w : Work) :
    s.startWork w =
      { s with recUnit := (s.startWork w).recUnit } := by
  rfl

@[simp] theorem startWork_mem (w : Work) : (s.startWork w).mem = s.mem := by
  rw [startWork_only]
@[simp] theorem startWork_port (w : Work) : (s.startWork w).port = s.port := by
  rw [startWork_only]
@[simp] theorem startWork_page (w : Work) : (s.startWork w).page = s.page := by
  rw [startWork_only]
@[simp] theorem startWork_chans (w : Work) : (s.startWork w).chans = s.chans := by
  rw [startWork_only]
@[simp] theorem startWork_scan (w : Work) : (s.startWork w).scan = s.scan := by
  rw [startWork_only]
@[simp] theorem startWork_print (w : Work) : (s.startWork w).print = s.print := by
  rw [startWork_only]
@[simp] theorem startWork_coder (w : Work) : (s.startWork w).coder = s.coder := by
  rw [startWork_only]
@[simp] theorem startWork_motors (w : Work) : (s.startWork w).motors = s.motors := by
  rw [startWork_only]
@[simp] theorem startWork_sensor (w : Work) : (s.startWork w).sensor = s.sensor := by
  rw [startWork_only]
@[simp] theorem startWork_power (w : Work) : (s.startWork w).power = s.power := by
  rw [startWork_only]
@[simp] theorem startWork_boot (w : Work) : (s.startWork w).boot = s.boot := by
  rw [startWork_only]
@[simp] theorem startWork_host (w : Work) : (s.startWork w).host = s.host := by
  rw [startWork_only]
@[simp] theorem startWork_eeprom (w : Work) : (s.startWork w).eeprom = s.eeprom := by
  rw [startWork_only]
@[simp] theorem startWork_free (w : Work) : (s.startWork w).free = s.free := by
  rw [startWork_only]
@[simp] theorem startWork_pending (w : Work) : (s.startWork w).pending = s.pending := by
  rw [startWork_only]
@[simp] theorem startWork_slot (w : Work) (d : Fin 16) : (s.startWork w).slot d = s.slot d := by
  rw [startWork_only]; rfl
@[simp] theorem startWork_chan (w : Work) (d : Channel) : (s.startWork w).chan d = s.chan d := by
  rw [startWork_only]; rfl
@[simp] theorem startWork_buf (w : Work) (d : BufId) : (s.startWork w).buf d = s.buf d := by
  rw [startWork_only]; rfl
@[simp] theorem startWork_motor (w : Work) (d : MotorId) : (s.startWork w).motor d = s.motor d := by
  rw [startWork_only]; rfl
@[simp] theorem startWork_ramp (w : Work) (d : Fin 4) : (s.startWork w).ramp d = s.ramp d := by
  rw [startWork_only]; rfl
@[simp] theorem startWork_gate (w : Work) (d : Fin 16) : (s.startWork w).gate d = s.gate d := by
  rw [startWork_only]; rfl
@[simp] theorem startWork_source (w : Work) (d : Fin 24) : (s.startWork w).source d = s.source d := by
  rw [startWork_only]; rfl

/-! ## The port without a grant -/

theorem dropGrant_only :
    s.dropGrant =
      { s with port := s.dropGrant.port } := by
  rfl

@[simp] theorem dropGrant_mem : s.dropGrant.mem = s.mem := by
  rw [dropGrant_only]
@[simp] theorem dropGrant_page : s.dropGrant.page = s.page := by
  rw [dropGrant_only]
@[simp] theorem dropGrant_recUnit : s.dropGrant.recUnit = s.recUnit := by
  rw [dropGrant_only]
@[simp] theorem dropGrant_chans : s.dropGrant.chans = s.chans := by
  rw [dropGrant_only]
@[simp] theorem dropGrant_scan : s.dropGrant.scan = s.scan := by
  rw [dropGrant_only]
@[simp] theorem dropGrant_print : s.dropGrant.print = s.print := by
  rw [dropGrant_only]
@[simp] theorem dropGrant_coder : s.dropGrant.coder = s.coder := by
  rw [dropGrant_only]
@[simp] theorem dropGrant_motors : s.dropGrant.motors = s.motors := by
  rw [dropGrant_only]
@[simp] theorem dropGrant_sensor : s.dropGrant.sensor = s.sensor := by
  rw [dropGrant_only]
@[simp] theorem dropGrant_power : s.dropGrant.power = s.power := by
  rw [dropGrant_only]
@[simp] theorem dropGrant_boot : s.dropGrant.boot = s.boot := by
  rw [dropGrant_only]
@[simp] theorem dropGrant_host : s.dropGrant.host = s.host := by
  rw [dropGrant_only]
@[simp] theorem dropGrant_eeprom : s.dropGrant.eeprom = s.eeprom := by
  rw [dropGrant_only]
@[simp] theorem dropGrant_free : s.dropGrant.free = s.free := by
  rw [dropGrant_only]
@[simp] theorem dropGrant_pending : s.dropGrant.pending = s.pending := by
  rw [dropGrant_only]
@[simp] theorem dropGrant_slot (d : Fin 16) : s.dropGrant.slot d = s.slot d := by
  rw [dropGrant_only]; rfl
@[simp] theorem dropGrant_chan (d : Channel) : s.dropGrant.chan d = s.chan d := by
  rw [dropGrant_only]; rfl
@[simp] theorem dropGrant_buf (d : BufId) : s.dropGrant.buf d = s.buf d := by
  rw [dropGrant_only]; rfl
@[simp] theorem dropGrant_motor (d : MotorId) : s.dropGrant.motor d = s.motor d := by
  rw [dropGrant_only]; rfl
@[simp] theorem dropGrant_ramp (d : Fin 4) : s.dropGrant.ramp d = s.ramp d := by
  rw [dropGrant_only]; rfl
@[simp] theorem dropGrant_gate (d : Fin 16) : s.dropGrant.gate d = s.gate d := by
  rw [dropGrant_only]; rfl
@[simp] theorem dropGrant_source (d : Fin 24) : s.dropGrant.source d = s.source d := by
  rw [dropGrant_only]; rfl

/-! ## A grant ends -/

theorem afterGrant_only :
    s.afterGrant =
      { s with
        port := s.afterGrant.port, sensor := s.afterGrant.sensor, power := s.afterGrant.power } := by
  unfold State.afterGrant
  split <;> rfl

/-- Of the sensor unit the end of a grant changes the groups alone. -/
theorem afterGrant_sensor_but :
    s.afterGrant.sensor = { s.sensor with groups := s.afterGrant.sensor.groups } := by
  unfold State.afterGrant
  split <;> rfl

/-- Outside a SLEEP entry the end of a grant is the end of a grant and no more. -/
theorem afterGrant_of_ne (h : s.port.mode ≠ .entering) : s.afterGrant = s := by
  unfold State.afterGrant
  rw [if_neg (fun k => h k.1)]

theorem releasePort_only :
    s.releasePort =
      { s with
        port := s.releasePort.port, sensor := s.releasePort.sensor, power := s.releasePort.power } :=
  afterGrant_only s.dropGrant

theorem releasePort_sensor_but :
    s.releasePort.sensor = { s.sensor with groups := s.releasePort.sensor.groups } :=
  afterGrant_sensor_but s.dropGrant

theorem releasePort_of_ne (h : s.port.mode ≠ .entering) : s.releasePort = s.dropGrant :=
  afterGrant_of_ne s.dropGrant h

@[simp] theorem releasePort_mem : s.releasePort.mem = s.mem := by
  rw [releasePort_only]
@[simp] theorem releasePort_page : s.releasePort.page = s.page := by
  rw [releasePort_only]
@[simp] theorem releasePort_recUnit : s.releasePort.recUnit = s.recUnit := by
  rw [releasePort_only]
@[simp] theorem releasePort_chans : s.releasePort.chans = s.chans := by
  rw [releasePort_only]
@[simp] theorem releasePort_scan : s.releasePort.scan = s.scan := by
  rw [releasePort_only]
@[simp] theorem releasePort_print : s.releasePort.print = s.print := by
  rw [releasePort_only]
@[simp] theorem releasePort_coder : s.releasePort.coder = s.coder := by
  rw [releasePort_only]
@[simp] theorem releasePort_motors : s.releasePort.motors = s.motors := by
  rw [releasePort_only]
@[simp] theorem releasePort_boot : s.releasePort.boot = s.boot := by
  rw [releasePort_only]
@[simp] theorem releasePort_host : s.releasePort.host = s.host := by
  rw [releasePort_only]
@[simp] theorem releasePort_eeprom : s.releasePort.eeprom = s.eeprom := by
  rw [releasePort_only]
@[simp] theorem releasePort_free : s.releasePort.free = s.free := by
  rw [releasePort_only]
@[simp] theorem releasePort_pending : s.releasePort.pending = s.pending := by
  rw [releasePort_only]
@[simp] theorem releasePort_slot (d : Fin 16) : s.releasePort.slot d = s.slot d := by
  rw [releasePort_only]; rfl
@[simp] theorem releasePort_chan (d : Channel) : s.releasePort.chan d = s.chan d := by
  rw [releasePort_only]; rfl
@[simp] theorem releasePort_buf (d : BufId) : s.releasePort.buf d = s.buf d := by
  rw [releasePort_only]; rfl
@[simp] theorem releasePort_motor (d : MotorId) : s.releasePort.motor d = s.motor d := by
  rw [releasePort_only]; rfl
@[simp] theorem releasePort_ramp (d : Fin 4) : s.releasePort.ramp d = s.ramp d := by
  rw [releasePort_only]; rfl
@[simp] theorem releasePort_gate (d : Fin 16) : s.releasePort.gate d = s.gate d := by
  show State.gate { s with sensor := s.releasePort.sensor } d = _
  rw [releasePort_sensor_but]; rfl
@[simp] theorem releasePort_source (d : Fin 24) : s.releasePort.source d = s.source d := by
  show State.source { s with sensor := s.releasePort.sensor } d = _
  rw [releasePort_sensor_but]; rfl

theorem freePort_only :
    s.freePort =
      { s with port := s.freePort.port, sensor := s.freePort.sensor, power := s.freePort.power } :=
  afterGrant_only { s with port := { s.port with busy := none } }

theorem freePort_sensor_but :
    s.freePort.sensor = { s.sensor with groups := s.freePort.sensor.groups } :=
  afterGrant_sensor_but { s with port := { s.port with busy := none } }

theorem freePort_of_ne (h : s.port.mode ≠ .entering) :
    s.freePort = { s with port := { s.port with busy := none } } :=
  afterGrant_of_ne { s with port := { s.port with busy := none } } h

@[simp] theorem freePort_mem : s.freePort.mem = s.mem := by
  rw [freePort_only]
@[simp] theorem freePort_page : s.freePort.page = s.page := by
  rw [freePort_only]
@[simp] theorem freePort_recUnit : s.freePort.recUnit = s.recUnit := by
  rw [freePort_only]
@[simp] theorem freePort_chans : s.freePort.chans = s.chans := by
  rw [freePort_only]
@[simp] theorem freePort_scan : s.freePort.scan = s.scan := by
  rw [freePort_only]
@[simp] theorem freePort_print : s.freePort.print = s.print := by
  rw [freePort_only]
@[simp] theorem freePort_coder : s.freePort.coder = s.coder := by
  rw [freePort_only]
@[simp] theorem freePort_motors : s.freePort.motors = s.motors := by
  rw [freePort_only]
@[simp] theorem freePort_boot : s.freePort.boot = s.boot := by
  rw [freePort_only]
@[simp] theorem freePort_host : s.freePort.host = s.host := by
  rw [freePort_only]
@[simp] theorem freePort_eeprom : s.freePort.eeprom = s.eeprom := by
  rw [freePort_only]
@[simp] theorem freePort_free : s.freePort.free = s.free := by
  rw [freePort_only]
@[simp] theorem freePort_pending : s.freePort.pending = s.pending := by
  rw [freePort_only]
@[simp] theorem freePort_slot (d : Fin 16) : s.freePort.slot d = s.slot d := by
  rw [freePort_only]; rfl
@[simp] theorem freePort_chan (d : Channel) : s.freePort.chan d = s.chan d := by
  rw [freePort_only]; rfl
@[simp] theorem freePort_buf (d : BufId) : s.freePort.buf d = s.buf d := by
  rw [freePort_only]; rfl
@[simp] theorem freePort_motor (d : MotorId) : s.freePort.motor d = s.motor d := by
  rw [freePort_only]; rfl
@[simp] theorem freePort_ramp (d : Fin 4) : s.freePort.ramp d = s.ramp d := by
  rw [freePort_only]; rfl
@[simp] theorem freePort_gate (d : Fin 16) : s.freePort.gate d = s.gate d := by
  show State.gate { s with sensor := s.freePort.sensor } d = _
  rw [freePort_sensor_but]; rfl
@[simp] theorem freePort_source (d : Fin 24) : s.freePort.source d = s.source d := by
  show State.source { s with sensor := s.freePort.sensor } d = _
  rw [freePort_sensor_but]; rfl

/-! ## Passing words -/

theorem passWords_only (j : Job) (n : Nat) :
    s.passWords j n =
      { s with mem := (s.passWords j n).mem, port := (s.passWords j n).port } := by
  unfold State.passWords
  dsimp only
  split <;> rfl

@[simp] theorem passWords_page (j : Job) (n : Nat) : (s.passWords j n).page = s.page := by
  rw [passWords_only]
@[simp] theorem passWords_recUnit (j : Job) (n : Nat) : (s.passWords j n).recUnit = s.recUnit := by
  rw [passWords_only]
@[simp] theorem passWords_chans (j : Job) (n : Nat) : (s.passWords j n).chans = s.chans := by
  rw [passWords_only]
@[simp] theorem passWords_scan (j : Job) (n : Nat) : (s.passWords j n).scan = s.scan := by
  rw [passWords_only]
@[simp] theorem passWords_print (j : Job) (n : Nat) : (s.passWords j n).print = s.print := by
  rw [passWords_only]
@[simp] theorem passWords_coder (j : Job) (n : Nat) : (s.passWords j n).coder = s.coder := by
  rw [passWords_only]
@[simp] theorem passWords_motors (j : Job) (n : Nat) : (s.passWords j n).motors = s.motors := by
  rw [passWords_only]
@[simp] theorem passWords_sensor (j : Job) (n : Nat) : (s.passWords j n).sensor = s.sensor := by
  rw [passWords_only]
@[simp] theorem passWords_power (j : Job) (n : Nat) : (s.passWords j n).power = s.power := by
  rw [passWords_only]
@[simp] theorem passWords_boot (j : Job) (n : Nat) : (s.passWords j n).boot = s.boot := by
  rw [passWords_only]
@[simp] theorem passWords_host (j : Job) (n : Nat) : (s.passWords j n).host = s.host := by
  rw [passWords_only]
@[simp] theorem passWords_eeprom (j : Job) (n : Nat) : (s.passWords j n).eeprom = s.eeprom := by
  rw [passWords_only]
@[simp] theorem passWords_free (j : Job) (n : Nat) : (s.passWords j n).free = s.free := by
  rw [passWords_only]
@[simp] theorem passWords_pending (j : Job) (n : Nat) : (s.passWords j n).pending = s.pending := by
  rw [passWords_only]
@[simp] theorem passWords_slot (j : Job) (n : Nat) (d : Fin 16) : (s.passWords j n).slot d = s.slot d := by
  rw [passWords_only]; rfl
@[simp] theorem passWords_chan (j : Job) (n : Nat) (d : Channel) : (s.passWords j n).chan d = s.chan d := by
  rw [passWords_only]; rfl
@[simp] theorem passWords_buf (j : Job) (n : Nat) (d : BufId) : (s.passWords j n).buf d = s.buf d := by
  rw [passWords_only]; rfl
@[simp] theorem passWords_motor (j : Job) (n : Nat) (d : MotorId) : (s.passWords j n).motor d = s.motor d := by
  rw [passWords_only]; rfl
@[simp] theorem passWords_ramp (j : Job) (n : Nat) (d : Fin 4) : (s.passWords j n).ramp d = s.ramp d := by
  rw [passWords_only]; rfl
@[simp] theorem passWords_gate (j : Job) (n : Nat) (d : Fin 16) : (s.passWords j n).gate d = s.gate d := by
  rw [passWords_only]; rfl
@[simp] theorem passWords_source (j : Job) (n : Nat) (d : Fin 24) : (s.passWords j n).source d = s.source d := by
  rw [passWords_only]; rfl

/-! ## Ending a burst -/

theorem endBurst_only (j : Job) :
    s.endBurst j =
      { s with mem := (s.endBurst j).mem, port := (s.endBurst j).port } := by
  unfold State.endBurst
  rw [passWords_only]

@[simp] theorem endBurst_page (j : Job) : (s.endBurst j).page = s.page := by
  rw [endBurst_only]
@[simp] theorem endBurst_recUnit (j : Job) : (s.endBurst j).recUnit = s.recUnit := by
  rw [endBurst_only]
@[simp] theorem endBurst_chans (j : Job) : (s.endBurst j).chans = s.chans := by
  rw [endBurst_only]
@[simp] theorem endBurst_scan (j : Job) : (s.endBurst j).scan = s.scan := by
  rw [endBurst_only]
@[simp] theorem endBurst_print (j : Job) : (s.endBurst j).print = s.print := by
  rw [endBurst_only]
@[simp] theorem endBurst_coder (j : Job) : (s.endBurst j).coder = s.coder := by
  rw [endBurst_only]
@[simp] theorem endBurst_motors (j : Job) : (s.endBurst j).motors = s.motors := by
  rw [endBurst_only]
@[simp] theorem endBurst_sensor (j : Job) : (s.endBurst j).sensor = s.sensor := by
  rw [endBurst_only]
@[simp] theorem endBurst_power (j : Job) : (s.endBurst j).power = s.power := by
  rw [endBurst_only]
@[simp] theorem endBurst_boot (j : Job) : (s.endBurst j).boot = s.boot := by
  rw [endBurst_only]
@[simp] theorem endBurst_host (j : Job) : (s.endBurst j).host = s.host := by
  rw [endBurst_only]
@[simp] theorem endBurst_eeprom (j : Job) : (s.endBurst j).eeprom = s.eeprom := by
  rw [endBurst_only]
@[simp] theorem endBurst_free (j : Job) : (s.endBurst j).free = s.free := by
  rw [endBurst_only]
@[simp] theorem endBurst_pending (j : Job) : (s.endBurst j).pending = s.pending := by
  rw [endBurst_only]
@[simp] theorem endBurst_slot (j : Job) (d : Fin 16) : (s.endBurst j).slot d = s.slot d := by
  rw [endBurst_only]; rfl
@[simp] theorem endBurst_chan (j : Job) (d : Channel) : (s.endBurst j).chan d = s.chan d := by
  rw [endBurst_only]; rfl
@[simp] theorem endBurst_buf (j : Job) (d : BufId) : (s.endBurst j).buf d = s.buf d := by
  rw [endBurst_only]; rfl
@[simp] theorem endBurst_motor (j : Job) (d : MotorId) : (s.endBurst j).motor d = s.motor d := by
  rw [endBurst_only]; rfl
@[simp] theorem endBurst_ramp (j : Job) (d : Fin 4) : (s.endBurst j).ramp d = s.ramp d := by
  rw [endBurst_only]; rfl
@[simp] theorem endBurst_gate (j : Job) (d : Fin 16) : (s.endBurst j).gate d = s.gate d := by
  rw [endBurst_only]; rfl
@[simp] theorem endBurst_source (j : Job) (d : Fin 24) : (s.endBurst j).source d = s.source d := by
  rw [endBurst_only]; rfl

/-! ## Drawing a free value -/

theorem drawn_only :
    s.drawn =
      { s with free := s.drawn.free } := by
  rfl

@[simp] theorem drawn_mem : s.drawn.mem = s.mem := by
  rw [drawn_only]
@[simp] theorem drawn_port : s.drawn.port = s.port := by
  rw [drawn_only]
@[simp] theorem drawn_page : s.drawn.page = s.page := by
  rw [drawn_only]
@[simp] theorem drawn_recUnit : s.drawn.recUnit = s.recUnit := by
  rw [drawn_only]
@[simp] theorem drawn_chans : s.drawn.chans = s.chans := by
  rw [drawn_only]
@[simp] theorem drawn_scan : s.drawn.scan = s.scan := by
  rw [drawn_only]
@[simp] theorem drawn_print : s.drawn.print = s.print := by
  rw [drawn_only]
@[simp] theorem drawn_coder : s.drawn.coder = s.coder := by
  rw [drawn_only]
@[simp] theorem drawn_motors : s.drawn.motors = s.motors := by
  rw [drawn_only]
@[simp] theorem drawn_sensor : s.drawn.sensor = s.sensor := by
  rw [drawn_only]
@[simp] theorem drawn_power : s.drawn.power = s.power := by
  rw [drawn_only]
@[simp] theorem drawn_boot : s.drawn.boot = s.boot := by
  rw [drawn_only]
@[simp] theorem drawn_host : s.drawn.host = s.host := by
  rw [drawn_only]
@[simp] theorem drawn_eeprom : s.drawn.eeprom = s.eeprom := by
  rw [drawn_only]
@[simp] theorem drawn_pending : s.drawn.pending = s.pending := by
  rw [drawn_only]
@[simp] theorem drawn_slot (d : Fin 16) : s.drawn.slot d = s.slot d := by
  rw [drawn_only]; rfl
@[simp] theorem drawn_chan (d : Channel) : s.drawn.chan d = s.chan d := by
  rw [drawn_only]; rfl
@[simp] theorem drawn_buf (d : BufId) : s.drawn.buf d = s.buf d := by
  rw [drawn_only]; rfl
@[simp] theorem drawn_motor (d : MotorId) : s.drawn.motor d = s.motor d := by
  rw [drawn_only]; rfl
@[simp] theorem drawn_ramp (d : Fin 4) : s.drawn.ramp d = s.ramp d := by
  rw [drawn_only]; rfl
@[simp] theorem drawn_gate (d : Fin 16) : s.drawn.gate d = s.gate d := by
  rw [drawn_only]; rfl
@[simp] theorem drawn_source (d : Fin 24) : s.drawn.source d = s.source d := by
  rw [drawn_only]; rfl

/-! ## Cutting line work -/

theorem cutLineWork_only (ch : Channel) :
    s.cutLineWork ch =
      { s with mem := (s.cutLineWork ch).mem, port := (s.cutLineWork ch).port, free := (s.cutLineWork ch).free } := by
  unfold State.cutLineWork
  dsimp only
  repeat' split
  all_goals first | rfl | (rw [passWords_only]; rfl)

@[simp] theorem cutLineWork_page (ch : Channel) : (s.cutLineWork ch).page = s.page := by
  rw [cutLineWork_only]
@[simp] theorem cutLineWork_recUnit (ch : Channel) : (s.cutLineWork ch).recUnit = s.recUnit := by
  rw [cutLineWork_only]
@[simp] theorem cutLineWork_chans (ch : Channel) : (s.cutLineWork ch).chans = s.chans := by
  rw [cutLineWork_only]
@[simp] theorem cutLineWork_scan (ch : Channel) : (s.cutLineWork ch).scan = s.scan := by
  rw [cutLineWork_only]
@[simp] theorem cutLineWork_print (ch : Channel) : (s.cutLineWork ch).print = s.print := by
  rw [cutLineWork_only]
@[simp] theorem cutLineWork_coder (ch : Channel) : (s.cutLineWork ch).coder = s.coder := by
  rw [cutLineWork_only]
@[simp] theorem cutLineWork_motors (ch : Channel) : (s.cutLineWork ch).motors = s.motors := by
  rw [cutLineWork_only]
@[simp] theorem cutLineWork_sensor (ch : Channel) : (s.cutLineWork ch).sensor = s.sensor := by
  rw [cutLineWork_only]
@[simp] theorem cutLineWork_power (ch : Channel) : (s.cutLineWork ch).power = s.power := by
  rw [cutLineWork_only]
@[simp] theorem cutLineWork_boot (ch : Channel) : (s.cutLineWork ch).boot = s.boot := by
  rw [cutLineWork_only]
@[simp] theorem cutLineWork_host (ch : Channel) : (s.cutLineWork ch).host = s.host := by
  rw [cutLineWork_only]
@[simp] theorem cutLineWork_eeprom (ch : Channel) : (s.cutLineWork ch).eeprom = s.eeprom := by
  rw [cutLineWork_only]
@[simp] theorem cutLineWork_pending (ch : Channel) : (s.cutLineWork ch).pending = s.pending := by
  rw [cutLineWork_only]
@[simp] theorem cutLineWork_slot (ch : Channel) (d : Fin 16) : (s.cutLineWork ch).slot d = s.slot d := by
  rw [cutLineWork_only]; rfl
@[simp] theorem cutLineWork_chan (ch : Channel) (d : Channel) : (s.cutLineWork ch).chan d = s.chan d := by
  rw [cutLineWork_only]; rfl
@[simp] theorem cutLineWork_buf (ch : Channel) (d : BufId) : (s.cutLineWork ch).buf d = s.buf d := by
  rw [cutLineWork_only]; rfl
@[simp] theorem cutLineWork_motor (ch : Channel) (d : MotorId) : (s.cutLineWork ch).motor d = s.motor d := by
  rw [cutLineWork_only]; rfl
@[simp] theorem cutLineWork_ramp (ch : Channel) (d : Fin 4) : (s.cutLineWork ch).ramp d = s.ramp d := by
  rw [cutLineWork_only]; rfl
@[simp] theorem cutLineWork_gate (ch : Channel) (d : Fin 16) : (s.cutLineWork ch).gate d = s.gate d := by
  rw [cutLineWork_only]; rfl
@[simp] theorem cutLineWork_source (ch : Channel) (d : Fin 24) : (s.cutLineWork ch).source d = s.source d := by
  rw [cutLineWork_only]; rfl

/-! ## Calling for a notice -/

theorem notify_only (ch : Channel) (n : Notice) :
    s.notify ch n =
      { s with chans := (s.notify ch n).chans } := by
  rfl

@[simp] theorem notify_mem (ch : Channel) (n : Notice) : (s.notify ch n).mem = s.mem := by
  rw [notify_only]
@[simp] theorem notify_port (ch : Channel) (n : Notice) : (s.notify ch n).port = s.port := by
  rw [notify_only]
@[simp] theorem notify_page (ch : Channel) (n : Notice) : (s.notify ch n).page = s.page := by
  rw [notify_only]
@[simp] theorem notify_recUnit (ch : Channel) (n : Notice) : (s.notify ch n).recUnit = s.recUnit := by
  rw [notify_only]
@[simp] theorem notify_scan (ch : Channel) (n : Notice) : (s.notify ch n).scan = s.scan := by
  rw [notify_only]
@[simp] theorem notify_print (ch : Channel) (n : Notice) : (s.notify ch n).print = s.print := by
  rw [notify_only]
@[simp] theorem notify_coder (ch : Channel) (n : Notice) : (s.notify ch n).coder = s.coder := by
  rw [notify_only]
@[simp] theorem notify_motors (ch : Channel) (n : Notice) : (s.notify ch n).motors = s.motors := by
  rw [notify_only]
@[simp] theorem notify_sensor (ch : Channel) (n : Notice) : (s.notify ch n).sensor = s.sensor := by
  rw [notify_only]
@[simp] theorem notify_power (ch : Channel) (n : Notice) : (s.notify ch n).power = s.power := by
  rw [notify_only]
@[simp] theorem notify_boot (ch : Channel) (n : Notice) : (s.notify ch n).boot = s.boot := by
  rw [notify_only]
@[simp] theorem notify_host (ch : Channel) (n : Notice) : (s.notify ch n).host = s.host := by
  rw [notify_only]
@[simp] theorem notify_eeprom (ch : Channel) (n : Notice) : (s.notify ch n).eeprom = s.eeprom := by
  rw [notify_only]
@[simp] theorem notify_free (ch : Channel) (n : Notice) : (s.notify ch n).free = s.free := by
  rw [notify_only]
@[simp] theorem notify_pending (ch : Channel) (n : Notice) : (s.notify ch n).pending = s.pending := by
  rw [notify_only]
@[simp] theorem notify_slot (ch : Channel) (n : Notice) (d : Fin 16) : (s.notify ch n).slot d = s.slot d := by
  rw [notify_only]; rfl
@[simp] theorem notify_buf (ch : Channel) (n : Notice) (d : BufId) : (s.notify ch n).buf d = s.buf d := by
  rw [notify_only]; rfl
@[simp] theorem notify_motor (ch : Channel) (n : Notice) (d : MotorId) : (s.notify ch n).motor d = s.motor d := by
  rw [notify_only]; rfl
@[simp] theorem notify_ramp (ch : Channel) (n : Notice) (d : Fin 4) : (s.notify ch n).ramp d = s.ramp d := by
  rw [notify_only]; rfl
@[simp] theorem notify_gate (ch : Channel) (n : Notice) (d : Fin 16) : (s.notify ch n).gate d = s.gate d := by
  rw [notify_only]; rfl
@[simp] theorem notify_source (ch : Channel) (n : Notice) (d : Fin 24) : (s.notify ch n).source d = s.source d := by
  rw [notify_only]; rfl

/-! ## Calling for an entry's last notice -/

theorem notifyEnding_only (ch : Channel) (n : Notice) :
    s.notifyEnding ch n =
      { s with chans := (s.notifyEnding ch n).chans } := by
  rfl

@[simp] theorem notifyEnding_mem (ch : Channel) (n : Notice) : (s.notifyEnding ch n).mem = s.mem := by
  rw [notifyEnding_only]
@[simp] theorem notifyEnding_port (ch : Channel) (n : Notice) : (s.notifyEnding ch n).port = s.port := by
  rw [notifyEnding_only]
@[simp] theorem notifyEnding_page (ch : Channel) (n : Notice) : (s.notifyEnding ch n).page = s.page := by
  rw [notifyEnding_only]
@[simp] theorem notifyEnding_recUnit (ch : Channel) (n : Notice) : (s.notifyEnding ch n).recUnit = s.recUnit := by
  rw [notifyEnding_only]
@[simp] theorem notifyEnding_scan (ch : Channel) (n : Notice) : (s.notifyEnding ch n).scan = s.scan := by
  rw [notifyEnding_only]
@[simp] theorem notifyEnding_print (ch : Channel) (n : Notice) : (s.notifyEnding ch n).print = s.print := by
  rw [notifyEnding_only]
@[simp] theorem notifyEnding_coder (ch : Channel) (n : Notice) : (s.notifyEnding ch n).coder = s.coder := by
  rw [notifyEnding_only]
@[simp] theorem notifyEnding_motors (ch : Channel) (n : Notice) : (s.notifyEnding ch n).motors = s.motors := by
  rw [notifyEnding_only]
@[simp] theorem notifyEnding_sensor (ch : Channel) (n : Notice) : (s.notifyEnding ch n).sensor = s.sensor := by
  rw [notifyEnding_only]
@[simp] theorem notifyEnding_power (ch : Channel) (n : Notice) : (s.notifyEnding ch n).power = s.power := by
  rw [notifyEnding_only]
@[simp] theorem notifyEnding_boot (ch : Channel) (n : Notice) : (s.notifyEnding ch n).boot = s.boot := by
  rw [notifyEnding_only]
@[simp] theorem notifyEnding_host (ch : Channel) (n : Notice) : (s.notifyEnding ch n).host = s.host := by
  rw [notifyEnding_only]
@[simp] theorem notifyEnding_eeprom (ch : Channel) (n : Notice) : (s.notifyEnding ch n).eeprom = s.eeprom := by
  rw [notifyEnding_only]
@[simp] theorem notifyEnding_free (ch : Channel) (n : Notice) : (s.notifyEnding ch n).free = s.free := by
  rw [notifyEnding_only]
@[simp] theorem notifyEnding_pending (ch : Channel) (n : Notice) : (s.notifyEnding ch n).pending = s.pending := by
  rw [notifyEnding_only]
@[simp] theorem notifyEnding_slot (ch : Channel) (n : Notice) (d : Fin 16) : (s.notifyEnding ch n).slot d = s.slot d := by
  rw [notifyEnding_only]; rfl
@[simp] theorem notifyEnding_buf (ch : Channel) (n : Notice) (d : BufId) : (s.notifyEnding ch n).buf d = s.buf d := by
  rw [notifyEnding_only]; rfl
@[simp] theorem notifyEnding_motor (ch : Channel) (n : Notice) (d : MotorId) : (s.notifyEnding ch n).motor d = s.motor d := by
  rw [notifyEnding_only]; rfl
@[simp] theorem notifyEnding_ramp (ch : Channel) (n : Notice) (d : Fin 4) : (s.notifyEnding ch n).ramp d = s.ramp d := by
  rw [notifyEnding_only]; rfl
@[simp] theorem notifyEnding_gate (ch : Channel) (n : Notice) (d : Fin 16) : (s.notifyEnding ch n).gate d = s.gate d := by
  rw [notifyEnding_only]; rfl
@[simp] theorem notifyEnding_source (ch : Channel) (n : Notice) (d : Fin 24) : (s.notifyEnding ch n).source d = s.source d := by
  rw [notifyEnding_only]; rfl

/-! ## The end of a link -/

theorem unlinkMotor_only (m : MotorId) :
    s.unlinkMotor m =
      { s with page := (s.unlinkMotor m).page, motors := (s.unlinkMotor m).motors, sensor := (s.unlinkMotor m).sensor } := by
  unfold State.unlinkMotor
  dsimp only
  split
  · rfl
  · cases m
    · simp only []
      rw [reserve_only]; rfl
    · rfl
    · rfl

@[simp] theorem unlinkMotor_mem (m : MotorId) : (s.unlinkMotor m).mem = s.mem := by
  rw [unlinkMotor_only]
@[simp] theorem unlinkMotor_port (m : MotorId) : (s.unlinkMotor m).port = s.port := by
  rw [unlinkMotor_only]
@[simp] theorem unlinkMotor_recUnit (m : MotorId) : (s.unlinkMotor m).recUnit = s.recUnit := by
  rw [unlinkMotor_only]
@[simp] theorem unlinkMotor_chans (m : MotorId) : (s.unlinkMotor m).chans = s.chans := by
  rw [unlinkMotor_only]
@[simp] theorem unlinkMotor_scan (m : MotorId) : (s.unlinkMotor m).scan = s.scan := by
  rw [unlinkMotor_only]
@[simp] theorem unlinkMotor_print (m : MotorId) : (s.unlinkMotor m).print = s.print := by
  rw [unlinkMotor_only]
@[simp] theorem unlinkMotor_coder (m : MotorId) : (s.unlinkMotor m).coder = s.coder := by
  rw [unlinkMotor_only]
@[simp] theorem unlinkMotor_power (m : MotorId) : (s.unlinkMotor m).power = s.power := by
  rw [unlinkMotor_only]
@[simp] theorem unlinkMotor_boot (m : MotorId) : (s.unlinkMotor m).boot = s.boot := by
  rw [unlinkMotor_only]
@[simp] theorem unlinkMotor_host (m : MotorId) : (s.unlinkMotor m).host = s.host := by
  rw [unlinkMotor_only]
@[simp] theorem unlinkMotor_eeprom (m : MotorId) : (s.unlinkMotor m).eeprom = s.eeprom := by
  rw [unlinkMotor_only]
@[simp] theorem unlinkMotor_free (m : MotorId) : (s.unlinkMotor m).free = s.free := by
  rw [unlinkMotor_only]
@[simp] theorem unlinkMotor_pending (m : MotorId) : (s.unlinkMotor m).pending = s.pending := by
  rw [unlinkMotor_only]
@[simp] theorem unlinkMotor_chan (m : MotorId) (d : Channel) : (s.unlinkMotor m).chan d = s.chan d := by
  rw [unlinkMotor_only]; rfl
@[simp] theorem unlinkMotor_buf (m : MotorId) (d : BufId) : (s.unlinkMotor m).buf d = s.buf d := by
  rw [unlinkMotor_only]; rfl

/-! ## Shrinking a stop point -/

theorem shrinkFor_only (ch : Channel) :
    s.shrinkFor ch =
      { s with motors := (s.shrinkFor ch).motors } := by
  unfold State.shrinkFor
  cases ch <;> simp only [motorFor] <;> first | rfl | (split <;> rfl)

@[simp] theorem shrinkFor_mem (ch : Channel) : (s.shrinkFor ch).mem = s.mem := by
  rw [shrinkFor_only]
@[simp] theorem shrinkFor_port (ch : Channel) : (s.shrinkFor ch).port = s.port := by
  rw [shrinkFor_only]
@[simp] theorem shrinkFor_page (ch : Channel) : (s.shrinkFor ch).page = s.page := by
  rw [shrinkFor_only]
@[simp] theorem shrinkFor_recUnit (ch : Channel) : (s.shrinkFor ch).recUnit = s.recUnit := by
  rw [shrinkFor_only]
@[simp] theorem shrinkFor_chans (ch : Channel) : (s.shrinkFor ch).chans = s.chans := by
  rw [shrinkFor_only]
@[simp] theorem shrinkFor_scan (ch : Channel) : (s.shrinkFor ch).scan = s.scan := by
  rw [shrinkFor_only]
@[simp] theorem shrinkFor_print (ch : Channel) : (s.shrinkFor ch).print = s.print := by
  rw [shrinkFor_only]
@[simp] theorem shrinkFor_coder (ch : Channel) : (s.shrinkFor ch).coder = s.coder := by
  rw [shrinkFor_only]
@[simp] theorem shrinkFor_sensor (ch : Channel) : (s.shrinkFor ch).sensor = s.sensor := by
  rw [shrinkFor_only]
@[simp] theorem shrinkFor_power (ch : Channel) : (s.shrinkFor ch).power = s.power := by
  rw [shrinkFor_only]
@[simp] theorem shrinkFor_boot (ch : Channel) : (s.shrinkFor ch).boot = s.boot := by
  rw [shrinkFor_only]
@[simp] theorem shrinkFor_host (ch : Channel) : (s.shrinkFor ch).host = s.host := by
  rw [shrinkFor_only]
@[simp] theorem shrinkFor_eeprom (ch : Channel) : (s.shrinkFor ch).eeprom = s.eeprom := by
  rw [shrinkFor_only]
@[simp] theorem shrinkFor_free (ch : Channel) : (s.shrinkFor ch).free = s.free := by
  rw [shrinkFor_only]
@[simp] theorem shrinkFor_pending (ch : Channel) : (s.shrinkFor ch).pending = s.pending := by
  rw [shrinkFor_only]
@[simp] theorem shrinkFor_slot (ch : Channel) (d : Fin 16) : (s.shrinkFor ch).slot d = s.slot d := by
  rw [shrinkFor_only]; rfl
@[simp] theorem shrinkFor_chan (ch : Channel) (d : Channel) : (s.shrinkFor ch).chan d = s.chan d := by
  rw [shrinkFor_only]; rfl
@[simp] theorem shrinkFor_buf (ch : Channel) (d : BufId) : (s.shrinkFor ch).buf d = s.buf d := by
  rw [shrinkFor_only]; rfl
@[simp] theorem shrinkFor_gate (ch : Channel) (d : Fin 16) : (s.shrinkFor ch).gate d = s.gate d := by
  rw [shrinkFor_only]; rfl
@[simp] theorem shrinkFor_source (ch : Channel) (d : Fin 24) : (s.shrinkFor ch).source d = s.source d := by
  rw [shrinkFor_only]; rfl

/-! ## Freeing a stop point -/

theorem freeBudget_only (ch : Channel) :
    s.freeBudget ch =
      { s with motors := (s.freeBudget ch).motors } := by
  unfold State.freeBudget
  cases ch <;> simp only [motorFor] <;> first | rfl | (split <;> rfl)

@[simp] theorem freeBudget_mem (ch : Channel) : (s.freeBudget ch).mem = s.mem := by
  rw [freeBudget_only]
@[simp] theorem freeBudget_port (ch : Channel) : (s.freeBudget ch).port = s.port := by
  rw [freeBudget_only]
@[simp] theorem freeBudget_page (ch : Channel) : (s.freeBudget ch).page = s.page := by
  rw [freeBudget_only]
@[simp] theorem freeBudget_recUnit (ch : Channel) : (s.freeBudget ch).recUnit = s.recUnit := by
  rw [freeBudget_only]
@[simp] theorem freeBudget_chans (ch : Channel) : (s.freeBudget ch).chans = s.chans := by
  rw [freeBudget_only]
@[simp] theorem freeBudget_scan (ch : Channel) : (s.freeBudget ch).scan = s.scan := by
  rw [freeBudget_only]
@[simp] theorem freeBudget_print (ch : Channel) : (s.freeBudget ch).print = s.print := by
  rw [freeBudget_only]
@[simp] theorem freeBudget_coder (ch : Channel) : (s.freeBudget ch).coder = s.coder := by
  rw [freeBudget_only]
@[simp] theorem freeBudget_sensor (ch : Channel) : (s.freeBudget ch).sensor = s.sensor := by
  rw [freeBudget_only]
@[simp] theorem freeBudget_power (ch : Channel) : (s.freeBudget ch).power = s.power := by
  rw [freeBudget_only]
@[simp] theorem freeBudget_boot (ch : Channel) : (s.freeBudget ch).boot = s.boot := by
  rw [freeBudget_only]
@[simp] theorem freeBudget_host (ch : Channel) : (s.freeBudget ch).host = s.host := by
  rw [freeBudget_only]
@[simp] theorem freeBudget_eeprom (ch : Channel) : (s.freeBudget ch).eeprom = s.eeprom := by
  rw [freeBudget_only]
@[simp] theorem freeBudget_free (ch : Channel) : (s.freeBudget ch).free = s.free := by
  rw [freeBudget_only]
@[simp] theorem freeBudget_pending (ch : Channel) : (s.freeBudget ch).pending = s.pending := by
  rw [freeBudget_only]
@[simp] theorem freeBudget_slot (ch : Channel) (d : Fin 16) : (s.freeBudget ch).slot d = s.slot d := by
  rw [freeBudget_only]; rfl
@[simp] theorem freeBudget_chan (ch : Channel) (d : Channel) : (s.freeBudget ch).chan d = s.chan d := by
  rw [freeBudget_only]; rfl
@[simp] theorem freeBudget_buf (ch : Channel) (d : BufId) : (s.freeBudget ch).buf d = s.buf d := by
  rw [freeBudget_only]; rfl
@[simp] theorem freeBudget_gate (ch : Channel) (d : Fin 16) : (s.freeBudget ch).gate d = s.gate d := by
  rw [freeBudget_only]; rfl
@[simp] theorem freeBudget_source (ch : Channel) (d : Fin 24) : (s.freeBudget ch).source d = s.source d := by
  rw [freeBudget_only]; rfl

/-! ## Halting a motor -/

theorem haltMotor_only (m : MotorId) (h : Halt) :
    s.haltMotor m h =
      { s with motors := (s.haltMotor m h).motors, sensor := (s.haltMotor m h).sensor } := by
  unfold State.haltMotor
  dsimp only
  split
  · rfl
  · split
    · rw [raise_only]; rfl
    · rfl

@[simp] theorem haltMotor_mem (m : MotorId) (h : Halt) : (s.haltMotor m h).mem = s.mem := by
  rw [haltMotor_only]
@[simp] theorem haltMotor_port (m : MotorId) (h : Halt) : (s.haltMotor m h).port = s.port := by
  rw [haltMotor_only]
@[simp] theorem haltMotor_page (m : MotorId) (h : Halt) : (s.haltMotor m h).page = s.page := by
  rw [haltMotor_only]
@[simp] theorem haltMotor_recUnit (m : MotorId) (h : Halt) : (s.haltMotor m h).recUnit = s.recUnit := by
  rw [haltMotor_only]
@[simp] theorem haltMotor_chans (m : MotorId) (h : Halt) : (s.haltMotor m h).chans = s.chans := by
  rw [haltMotor_only]
@[simp] theorem haltMotor_scan (m : MotorId) (h : Halt) : (s.haltMotor m h).scan = s.scan := by
  rw [haltMotor_only]
@[simp] theorem haltMotor_print (m : MotorId) (h : Halt) : (s.haltMotor m h).print = s.print := by
  rw [haltMotor_only]
@[simp] theorem haltMotor_coder (m : MotorId) (h : Halt) : (s.haltMotor m h).coder = s.coder := by
  rw [haltMotor_only]
@[simp] theorem haltMotor_power (m : MotorId) (h : Halt) : (s.haltMotor m h).power = s.power := by
  rw [haltMotor_only]
@[simp] theorem haltMotor_boot (m : MotorId) (h : Halt) : (s.haltMotor m h).boot = s.boot := by
  rw [haltMotor_only]
@[simp] theorem haltMotor_host (m : MotorId) (h : Halt) : (s.haltMotor m h).host = s.host := by
  rw [haltMotor_only]
@[simp] theorem haltMotor_eeprom (m : MotorId) (h : Halt) : (s.haltMotor m h).eeprom = s.eeprom := by
  rw [haltMotor_only]
@[simp] theorem haltMotor_free (m : MotorId) (h : Halt) : (s.haltMotor m h).free = s.free := by
  rw [haltMotor_only]
@[simp] theorem haltMotor_pending (m : MotorId) (h : Halt) : (s.haltMotor m h).pending = s.pending := by
  rw [haltMotor_only]
@[simp] theorem haltMotor_slot (m : MotorId) (h : Halt) (d : Fin 16) : (s.haltMotor m h).slot d = s.slot d := by
  rw [haltMotor_only]; rfl
@[simp] theorem haltMotor_chan (m : MotorId) (h : Halt) (d : Channel) : (s.haltMotor m h).chan d = s.chan d := by
  rw [haltMotor_only]; rfl
@[simp] theorem haltMotor_buf (m : MotorId) (h : Halt) (d : BufId) : (s.haltMotor m h).buf d = s.buf d := by
  rw [haltMotor_only]; rfl

/-! ## An interlock action's halt -/

theorem actionHalt_only (m : MotorId) (h : HaltMode) (g : Fin 16) :
    s.actionHalt m h g =
      { s with motors := (s.actionHalt m h g).motors, sensor := (s.actionHalt m h g).sensor } := by
  unfold State.actionHalt
  dsimp only
  rw [haltMotor_only]

@[simp] theorem actionHalt_mem (m : MotorId) (h : HaltMode) (g : Fin 16) : (s.actionHalt m h g).mem = s.mem := by
  rw [actionHalt_only]
@[simp] theorem actionHalt_port (m : MotorId) (h : HaltMode) (g : Fin 16) : (s.actionHalt m h g).port = s.port := by
  rw [actionHalt_only]
@[simp] theorem actionHalt_page (m : MotorId) (h : HaltMode) (g : Fin 16) : (s.actionHalt m h g).page = s.page := by
  rw [actionHalt_only]
@[simp] theorem actionHalt_recUnit (m : MotorId) (h : HaltMode) (g : Fin 16) : (s.actionHalt m h g).recUnit = s.recUnit := by
  rw [actionHalt_only]
@[simp] theorem actionHalt_chans (m : MotorId) (h : HaltMode) (g : Fin 16) : (s.actionHalt m h g).chans = s.chans := by
  rw [actionHalt_only]
@[simp] theorem actionHalt_scan (m : MotorId) (h : HaltMode) (g : Fin 16) : (s.actionHalt m h g).scan = s.scan := by
  rw [actionHalt_only]
@[simp] theorem actionHalt_print (m : MotorId) (h : HaltMode) (g : Fin 16) : (s.actionHalt m h g).print = s.print := by
  rw [actionHalt_only]
@[simp] theorem actionHalt_coder (m : MotorId) (h : HaltMode) (g : Fin 16) : (s.actionHalt m h g).coder = s.coder := by
  rw [actionHalt_only]
@[simp] theorem actionHalt_power (m : MotorId) (h : HaltMode) (g : Fin 16) : (s.actionHalt m h g).power = s.power := by
  rw [actionHalt_only]
@[simp] theorem actionHalt_boot (m : MotorId) (h : HaltMode) (g : Fin 16) : (s.actionHalt m h g).boot = s.boot := by
  rw [actionHalt_only]
@[simp] theorem actionHalt_host (m : MotorId) (h : HaltMode) (g : Fin 16) : (s.actionHalt m h g).host = s.host := by
  rw [actionHalt_only]
@[simp] theorem actionHalt_eeprom (m : MotorId) (h : HaltMode) (g : Fin 16) : (s.actionHalt m h g).eeprom = s.eeprom := by
  rw [actionHalt_only]
@[simp] theorem actionHalt_free (m : MotorId) (h : HaltMode) (g : Fin 16) : (s.actionHalt m h g).free = s.free := by
  rw [actionHalt_only]
@[simp] theorem actionHalt_pending (m : MotorId) (h : HaltMode) (g : Fin 16) : (s.actionHalt m h g).pending = s.pending := by
  rw [actionHalt_only]
@[simp] theorem actionHalt_slot (m : MotorId) (h : HaltMode) (g : Fin 16) (d : Fin 16) : (s.actionHalt m h g).slot d = s.slot d := by
  rw [actionHalt_only]; rfl
@[simp] theorem actionHalt_chan (m : MotorId) (h : HaltMode) (g : Fin 16) (d : Channel) : (s.actionHalt m h g).chan d = s.chan d := by
  rw [actionHalt_only]; rfl
@[simp] theorem actionHalt_buf (m : MotorId) (h : HaltMode) (g : Fin 16) (d : BufId) : (s.actionHalt m h g).buf d = s.buf d := by
  rw [actionHalt_only]; rfl

/-! ## The governor's reservation -/

theorem reserveFor_only (j : Option Nat) :
    s.reserveFor j =
      { s with page := (s.reserveFor j).page, sensor := (s.reserveFor j).sensor } := by
  unfold State.reserveFor
  split
  · rfl
  · exact reserve_only _ _

@[simp] theorem reserveFor_mem (j : Option Nat) : (s.reserveFor j).mem = s.mem := by
  rw [reserveFor_only]
@[simp] theorem reserveFor_port (j : Option Nat) : (s.reserveFor j).port = s.port := by
  rw [reserveFor_only]
@[simp] theorem reserveFor_recUnit (j : Option Nat) : (s.reserveFor j).recUnit = s.recUnit := by
  rw [reserveFor_only]
@[simp] theorem reserveFor_chans (j : Option Nat) : (s.reserveFor j).chans = s.chans := by
  rw [reserveFor_only]
@[simp] theorem reserveFor_scan (j : Option Nat) : (s.reserveFor j).scan = s.scan := by
  rw [reserveFor_only]
@[simp] theorem reserveFor_print (j : Option Nat) : (s.reserveFor j).print = s.print := by
  rw [reserveFor_only]
@[simp] theorem reserveFor_coder (j : Option Nat) : (s.reserveFor j).coder = s.coder := by
  rw [reserveFor_only]
@[simp] theorem reserveFor_motors (j : Option Nat) : (s.reserveFor j).motors = s.motors := by
  rw [reserveFor_only]
@[simp] theorem reserveFor_power (j : Option Nat) : (s.reserveFor j).power = s.power := by
  rw [reserveFor_only]
@[simp] theorem reserveFor_boot (j : Option Nat) : (s.reserveFor j).boot = s.boot := by
  rw [reserveFor_only]
@[simp] theorem reserveFor_host (j : Option Nat) : (s.reserveFor j).host = s.host := by
  rw [reserveFor_only]
@[simp] theorem reserveFor_eeprom (j : Option Nat) : (s.reserveFor j).eeprom = s.eeprom := by
  rw [reserveFor_only]
@[simp] theorem reserveFor_free (j : Option Nat) : (s.reserveFor j).free = s.free := by
  rw [reserveFor_only]
@[simp] theorem reserveFor_pending (j : Option Nat) : (s.reserveFor j).pending = s.pending := by
  rw [reserveFor_only]
@[simp] theorem reserveFor_chan (j : Option Nat) (d : Channel) : (s.reserveFor j).chan d = s.chan d := by
  rw [reserveFor_only]; rfl
@[simp] theorem reserveFor_buf (j : Option Nat) (d : BufId) : (s.reserveFor j).buf d = s.buf d := by
  rw [reserveFor_only]; rfl
@[simp] theorem reserveFor_motor (j : Option Nat) (d : MotorId) : (s.reserveFor j).motor d = s.motor d := by
  rw [reserveFor_only]; rfl
@[simp] theorem reserveFor_ramp (j : Option Nat) (d : Fin 4) : (s.reserveFor j).ramp d = s.ramp d := by
  rw [reserveFor_only]; rfl

/-! ## Reaching rest -/

theorem reachRest_only (m : MotorId) :
    s.reachRest m =
      { s with motors := (s.reachRest m).motors, sensor := (s.reachRest m).sensor } := by
  unfold State.reachRest
  dsimp only
  split
  · rw [raise_only]
    split <;> rfl
  · split <;> rfl

@[simp] theorem reachRest_mem (m : MotorId) : (s.reachRest m).mem = s.mem := by
  rw [reachRest_only]
@[simp] theorem reachRest_port (m : MotorId) : (s.reachRest m).port = s.port := by
  rw [reachRest_only]
@[simp] theorem reachRest_page (m : MotorId) : (s.reachRest m).page = s.page := by
  rw [reachRest_only]
@[simp] theorem reachRest_recUnit (m : MotorId) : (s.reachRest m).recUnit = s.recUnit := by
  rw [reachRest_only]
@[simp] theorem reachRest_chans (m : MotorId) : (s.reachRest m).chans = s.chans := by
  rw [reachRest_only]
@[simp] theorem reachRest_scan (m : MotorId) : (s.reachRest m).scan = s.scan := by
  rw [reachRest_only]
@[simp] theorem reachRest_print (m : MotorId) : (s.reachRest m).print = s.print := by
  rw [reachRest_only]
@[simp] theorem reachRest_coder (m : MotorId) : (s.reachRest m).coder = s.coder := by
  rw [reachRest_only]
@[simp] theorem reachRest_power (m : MotorId) : (s.reachRest m).power = s.power := by
  rw [reachRest_only]
@[simp] theorem reachRest_boot (m : MotorId) : (s.reachRest m).boot = s.boot := by
  rw [reachRest_only]
@[simp] theorem reachRest_host (m : MotorId) : (s.reachRest m).host = s.host := by
  rw [reachRest_only]
@[simp] theorem reachRest_eeprom (m : MotorId) : (s.reachRest m).eeprom = s.eeprom := by
  rw [reachRest_only]
@[simp] theorem reachRest_free (m : MotorId) : (s.reachRest m).free = s.free := by
  rw [reachRest_only]
@[simp] theorem reachRest_pending (m : MotorId) : (s.reachRest m).pending = s.pending := by
  rw [reachRest_only]
@[simp] theorem reachRest_slot (m : MotorId) (d : Fin 16) : (s.reachRest m).slot d = s.slot d := by
  rw [reachRest_only]; rfl
@[simp] theorem reachRest_chan (m : MotorId) (d : Channel) : (s.reachRest m).chan d = s.chan d := by
  rw [reachRest_only]; rfl
@[simp] theorem reachRest_buf (m : MotorId) (d : BufId) : (s.reachRest m).buf d = s.buf d := by
  rw [reachRest_only]; rfl

/-! ## Leaving rest -/

theorem leaveRest_only (m : MotorId) :
    s.leaveRest m =
      { s with motors := (s.leaveRest m).motors } := by
  rfl

@[simp] theorem leaveRest_mem (m : MotorId) : (s.leaveRest m).mem = s.mem := by
  rw [leaveRest_only]
@[simp] theorem leaveRest_port (m : MotorId) : (s.leaveRest m).port = s.port := by
  rw [leaveRest_only]
@[simp] theorem leaveRest_page (m : MotorId) : (s.leaveRest m).page = s.page := by
  rw [leaveRest_only]
@[simp] theorem leaveRest_recUnit (m : MotorId) : (s.leaveRest m).recUnit = s.recUnit := by
  rw [leaveRest_only]
@[simp] theorem leaveRest_chans (m : MotorId) : (s.leaveRest m).chans = s.chans := by
  rw [leaveRest_only]
@[simp] theorem leaveRest_scan (m : MotorId) : (s.leaveRest m).scan = s.scan := by
  rw [leaveRest_only]
@[simp] theorem leaveRest_print (m : MotorId) : (s.leaveRest m).print = s.print := by
  rw [leaveRest_only]
@[simp] theorem leaveRest_coder (m : MotorId) : (s.leaveRest m).coder = s.coder := by
  rw [leaveRest_only]
@[simp] theorem leaveRest_sensor (m : MotorId) : (s.leaveRest m).sensor = s.sensor := by
  rw [leaveRest_only]
@[simp] theorem leaveRest_power (m : MotorId) : (s.leaveRest m).power = s.power := by
  rw [leaveRest_only]
@[simp] theorem leaveRest_boot (m : MotorId) : (s.leaveRest m).boot = s.boot := by
  rw [leaveRest_only]
@[simp] theorem leaveRest_host (m : MotorId) : (s.leaveRest m).host = s.host := by
  rw [leaveRest_only]
@[simp] theorem leaveRest_eeprom (m : MotorId) : (s.leaveRest m).eeprom = s.eeprom := by
  rw [leaveRest_only]
@[simp] theorem leaveRest_free (m : MotorId) : (s.leaveRest m).free = s.free := by
  rw [leaveRest_only]
@[simp] theorem leaveRest_pending (m : MotorId) : (s.leaveRest m).pending = s.pending := by
  rw [leaveRest_only]
@[simp] theorem leaveRest_slot (m : MotorId) (d : Fin 16) : (s.leaveRest m).slot d = s.slot d := by
  rw [leaveRest_only]; rfl
@[simp] theorem leaveRest_chan (m : MotorId) (d : Channel) : (s.leaveRest m).chan d = s.chan d := by
  rw [leaveRest_only]; rfl
@[simp] theorem leaveRest_buf (m : MotorId) (d : BufId) : (s.leaveRest m).buf d = s.buf d := by
  rw [leaveRest_only]; rfl
@[simp] theorem leaveRest_gate (m : MotorId) (d : Fin 16) : (s.leaveRest m).gate d = s.gate d := by
  rw [leaveRest_only]; rfl
@[simp] theorem leaveRest_source (m : MotorId) (d : Fin 24) : (s.leaveRest m).source d = s.source d := by
  rw [leaveRest_only]; rfl

/-! ## A pause request -/

theorem askPause_only (ch : Channel) (c : PauseCause) :
    s.askPause ch c =
      { s with chans := (s.askPause ch c).chans, motors := (s.askPause ch c).motors } := by
  unfold State.askPause
  dsimp only
  split
  · rfl
  · rw [shrinkFor_only]; rfl

@[simp] theorem askPause_mem (ch : Channel) (c : PauseCause) : (s.askPause ch c).mem = s.mem := by
  rw [askPause_only]
@[simp] theorem askPause_port (ch : Channel) (c : PauseCause) : (s.askPause ch c).port = s.port := by
  rw [askPause_only]
@[simp] theorem askPause_page (ch : Channel) (c : PauseCause) : (s.askPause ch c).page = s.page := by
  rw [askPause_only]
@[simp] theorem askPause_recUnit (ch : Channel) (c : PauseCause) : (s.askPause ch c).recUnit = s.recUnit := by
  rw [askPause_only]
@[simp] theorem askPause_scan (ch : Channel) (c : PauseCause) : (s.askPause ch c).scan = s.scan := by
  rw [askPause_only]
@[simp] theorem askPause_print (ch : Channel) (c : PauseCause) : (s.askPause ch c).print = s.print := by
  rw [askPause_only]
@[simp] theorem askPause_coder (ch : Channel) (c : PauseCause) : (s.askPause ch c).coder = s.coder := by
  rw [askPause_only]
@[simp] theorem askPause_sensor (ch : Channel) (c : PauseCause) : (s.askPause ch c).sensor = s.sensor := by
  rw [askPause_only]
@[simp] theorem askPause_power (ch : Channel) (c : PauseCause) : (s.askPause ch c).power = s.power := by
  rw [askPause_only]
@[simp] theorem askPause_boot (ch : Channel) (c : PauseCause) : (s.askPause ch c).boot = s.boot := by
  rw [askPause_only]
@[simp] theorem askPause_host (ch : Channel) (c : PauseCause) : (s.askPause ch c).host = s.host := by
  rw [askPause_only]
@[simp] theorem askPause_eeprom (ch : Channel) (c : PauseCause) : (s.askPause ch c).eeprom = s.eeprom := by
  rw [askPause_only]
@[simp] theorem askPause_free (ch : Channel) (c : PauseCause) : (s.askPause ch c).free = s.free := by
  rw [askPause_only]
@[simp] theorem askPause_pending (ch : Channel) (c : PauseCause) : (s.askPause ch c).pending = s.pending := by
  rw [askPause_only]
@[simp] theorem askPause_slot (ch : Channel) (c : PauseCause) (d : Fin 16) : (s.askPause ch c).slot d = s.slot d := by
  rw [askPause_only]; rfl
@[simp] theorem askPause_buf (ch : Channel) (c : PauseCause) (d : BufId) : (s.askPause ch c).buf d = s.buf d := by
  rw [askPause_only]; rfl
@[simp] theorem askPause_gate (ch : Channel) (c : PauseCause) (d : Fin 16) : (s.askPause ch c).gate d = s.gate d := by
  rw [askPause_only]; rfl
@[simp] theorem askPause_source (ch : Channel) (c : PauseCause) (d : Fin 24) : (s.askPause ch c).source d = s.source d := by
  rw [askPause_only]; rfl

/-! ## Starting to write a report -/

theorem startWriting_only (w : Producer) (b : List Byte) :
    s.startWriting w b =
      { s with recUnit := (s.startWriting w b).recUnit } := by
  rfl

@[simp] theorem startWriting_mem (w : Producer) (b : List Byte) : (s.startWriting w b).mem = s.mem := by
  rw [startWriting_only]
@[simp] theorem startWriting_port (w : Producer) (b : List Byte) : (s.startWriting w b).port = s.port := by
  rw [startWriting_only]
@[simp] theorem startWriting_page (w : Producer) (b : List Byte) : (s.startWriting w b).page = s.page := by
  rw [startWriting_only]
@[simp] theorem startWriting_chans (w : Producer) (b : List Byte) : (s.startWriting w b).chans = s.chans := by
  rw [startWriting_only]
@[simp] theorem startWriting_scan (w : Producer) (b : List Byte) : (s.startWriting w b).scan = s.scan := by
  rw [startWriting_only]
@[simp] theorem startWriting_print (w : Producer) (b : List Byte) : (s.startWriting w b).print = s.print := by
  rw [startWriting_only]
@[simp] theorem startWriting_coder (w : Producer) (b : List Byte) : (s.startWriting w b).coder = s.coder := by
  rw [startWriting_only]
@[simp] theorem startWriting_motors (w : Producer) (b : List Byte) : (s.startWriting w b).motors = s.motors := by
  rw [startWriting_only]
@[simp] theorem startWriting_sensor (w : Producer) (b : List Byte) : (s.startWriting w b).sensor = s.sensor := by
  rw [startWriting_only]
@[simp] theorem startWriting_power (w : Producer) (b : List Byte) : (s.startWriting w b).power = s.power := by
  rw [startWriting_only]
@[simp] theorem startWriting_boot (w : Producer) (b : List Byte) : (s.startWriting w b).boot = s.boot := by
  rw [startWriting_only]
@[simp] theorem startWriting_host (w : Producer) (b : List Byte) : (s.startWriting w b).host = s.host := by
  rw [startWriting_only]
@[simp] theorem startWriting_eeprom (w : Producer) (b : List Byte) : (s.startWriting w b).eeprom = s.eeprom := by
  rw [startWriting_only]
@[simp] theorem startWriting_free (w : Producer) (b : List Byte) : (s.startWriting w b).free = s.free := by
  rw [startWriting_only]
@[simp] theorem startWriting_pending (w : Producer) (b : List Byte) : (s.startWriting w b).pending = s.pending := by
  rw [startWriting_only]
@[simp] theorem startWriting_slot (w : Producer) (b : List Byte) (d : Fin 16) : (s.startWriting w b).slot d = s.slot d := by
  rw [startWriting_only]; rfl
@[simp] theorem startWriting_chan (w : Producer) (b : List Byte) (d : Channel) : (s.startWriting w b).chan d = s.chan d := by
  rw [startWriting_only]; rfl
@[simp] theorem startWriting_buf (w : Producer) (b : List Byte) (d : BufId) : (s.startWriting w b).buf d = s.buf d := by
  rw [startWriting_only]; rfl
@[simp] theorem startWriting_motor (w : Producer) (b : List Byte) (d : MotorId) : (s.startWriting w b).motor d = s.motor d := by
  rw [startWriting_only]; rfl
@[simp] theorem startWriting_ramp (w : Producer) (b : List Byte) (d : Fin 4) : (s.startWriting w b).ramp d = s.ramp d := by
  rw [startWriting_only]; rfl
@[simp] theorem startWriting_gate (w : Producer) (b : List Byte) (d : Fin 16) : (s.startWriting w b).gate d = s.gate d := by
  rw [startWriting_only]; rfl
@[simp] theorem startWriting_source (w : Producer) (b : List Byte) (d : Fin 24) : (s.startWriting w b).source d = s.source d := by
  rw [startWriting_only]; rfl

/-! ## Setting the store operation -/

theorem setStore_only (o : Option StoreOp) :
    s.setStore o =
      { s with boot := (s.setStore o).boot } := by
  rfl

@[simp] theorem setStore_mem (o : Option StoreOp) : (s.setStore o).mem = s.mem := by
  rw [setStore_only]
@[simp] theorem setStore_port (o : Option StoreOp) : (s.setStore o).port = s.port := by
  rw [setStore_only]
@[simp] theorem setStore_page (o : Option StoreOp) : (s.setStore o).page = s.page := by
  rw [setStore_only]
@[simp] theorem setStore_recUnit (o : Option StoreOp) : (s.setStore o).recUnit = s.recUnit := by
  rw [setStore_only]
@[simp] theorem setStore_chans (o : Option StoreOp) : (s.setStore o).chans = s.chans := by
  rw [setStore_only]
@[simp] theorem setStore_scan (o : Option StoreOp) : (s.setStore o).scan = s.scan := by
  rw [setStore_only]
@[simp] theorem setStore_print (o : Option StoreOp) : (s.setStore o).print = s.print := by
  rw [setStore_only]
@[simp] theorem setStore_coder (o : Option StoreOp) : (s.setStore o).coder = s.coder := by
  rw [setStore_only]
@[simp] theorem setStore_motors (o : Option StoreOp) : (s.setStore o).motors = s.motors := by
  rw [setStore_only]
@[simp] theorem setStore_sensor (o : Option StoreOp) : (s.setStore o).sensor = s.sensor := by
  rw [setStore_only]
@[simp] theorem setStore_power (o : Option StoreOp) : (s.setStore o).power = s.power := by
  rw [setStore_only]
@[simp] theorem setStore_host (o : Option StoreOp) : (s.setStore o).host = s.host := by
  rw [setStore_only]
@[simp] theorem setStore_eeprom (o : Option StoreOp) : (s.setStore o).eeprom = s.eeprom := by
  rw [setStore_only]
@[simp] theorem setStore_free (o : Option StoreOp) : (s.setStore o).free = s.free := by
  rw [setStore_only]
@[simp] theorem setStore_pending (o : Option StoreOp) : (s.setStore o).pending = s.pending := by
  rw [setStore_only]
@[simp] theorem setStore_slot (o : Option StoreOp) (d : Fin 16) : (s.setStore o).slot d = s.slot d := by
  rw [setStore_only]; rfl
@[simp] theorem setStore_chan (o : Option StoreOp) (d : Channel) : (s.setStore o).chan d = s.chan d := by
  rw [setStore_only]; rfl
@[simp] theorem setStore_buf (o : Option StoreOp) (d : BufId) : (s.setStore o).buf d = s.buf d := by
  rw [setStore_only]; rfl
@[simp] theorem setStore_motor (o : Option StoreOp) (d : MotorId) : (s.setStore o).motor d = s.motor d := by
  rw [setStore_only]; rfl
@[simp] theorem setStore_ramp (o : Option StoreOp) (d : Fin 4) : (s.setStore o).ramp d = s.ramp d := by
  rw [setStore_only]; rfl
@[simp] theorem setStore_gate (o : Option StoreOp) (d : Fin 16) : (s.setStore o).gate d = s.gate d := by
  rw [setStore_only]; rfl
@[simp] theorem setStore_source (o : Option StoreOp) (d : Fin 24) : (s.setStore o).source d = s.source d := by
  rw [setStore_only]; rfl

/-! ## Withdrawing an entry -/

theorem withdraw_only (i : Fin 24) :
    s.withdraw i =
      { s with sensor := (s.withdraw i).sensor } := by
  unfold State.withdraw
  split <;> rfl

@[simp] theorem withdraw_mem (i : Fin 24) : (s.withdraw i).mem = s.mem := by
  rw [withdraw_only]
@[simp] theorem withdraw_port (i : Fin 24) : (s.withdraw i).port = s.port := by
  rw [withdraw_only]
@[simp] theorem withdraw_page (i : Fin 24) : (s.withdraw i).page = s.page := by
  rw [withdraw_only]
@[simp] theorem withdraw_recUnit (i : Fin 24) : (s.withdraw i).recUnit = s.recUnit := by
  rw [withdraw_only]
@[simp] theorem withdraw_chans (i : Fin 24) : (s.withdraw i).chans = s.chans := by
  rw [withdraw_only]
@[simp] theorem withdraw_scan (i : Fin 24) : (s.withdraw i).scan = s.scan := by
  rw [withdraw_only]
@[simp] theorem withdraw_print (i : Fin 24) : (s.withdraw i).print = s.print := by
  rw [withdraw_only]
@[simp] theorem withdraw_coder (i : Fin 24) : (s.withdraw i).coder = s.coder := by
  rw [withdraw_only]
@[simp] theorem withdraw_motors (i : Fin 24) : (s.withdraw i).motors = s.motors := by
  rw [withdraw_only]
@[simp] theorem withdraw_power (i : Fin 24) : (s.withdraw i).power = s.power := by
  rw [withdraw_only]
@[simp] theorem withdraw_boot (i : Fin 24) : (s.withdraw i).boot = s.boot := by
  rw [withdraw_only]
@[simp] theorem withdraw_host (i : Fin 24) : (s.withdraw i).host = s.host := by
  rw [withdraw_only]
@[simp] theorem withdraw_eeprom (i : Fin 24) : (s.withdraw i).eeprom = s.eeprom := by
  rw [withdraw_only]
@[simp] theorem withdraw_free (i : Fin 24) : (s.withdraw i).free = s.free := by
  rw [withdraw_only]
@[simp] theorem withdraw_pending (i : Fin 24) : (s.withdraw i).pending = s.pending := by
  rw [withdraw_only]
@[simp] theorem withdraw_slot (i : Fin 24) (d : Fin 16) : (s.withdraw i).slot d = s.slot d := by
  rw [withdraw_only]; rfl
@[simp] theorem withdraw_chan (i : Fin 24) (d : Channel) : (s.withdraw i).chan d = s.chan d := by
  rw [withdraw_only]; rfl
@[simp] theorem withdraw_buf (i : Fin 24) (d : BufId) : (s.withdraw i).buf d = s.buf d := by
  rw [withdraw_only]; rfl
@[simp] theorem withdraw_motor (i : Fin 24) (d : MotorId) : (s.withdraw i).motor d = s.motor d := by
  rw [withdraw_only]; rfl
@[simp] theorem withdraw_ramp (i : Fin 24) (d : Fin 4) : (s.withdraw i).ramp d = s.ramp d := by
  rw [withdraw_only]; rfl

end Sys2Proof.Machine
end

