-- ==== Sys2Proof/Laws/Effects.lean ====
section
/-! SUPPORT. What the shared operations make of the parts that they change: the band-pool test and the
reservation, events, halts and links, the pages of writers and readers, the window behind an
entry that has ended. -/

namespace Sys2Proof.Machine

variable (s : State)

/-! ## Events -/

/-- A raise looks at the sensor unit alone. -/
theorem raise_sensor_congr {s t : State} (h : s.sensor = t.sensor) (i : Fin 24) (k : EventKind)
    (d : EventData) : (s.raise i k d).sensor = (t.raise i k d).sensor := by
  have e : s.source i = t.source i := by simp only [State.source, h]
  unfold State.raise
  dsimp only
  rw [e]
  split
  · simp only [h]
  · split <;> simp only [State.setSource, h]

@[simp] theorem raise_gates (i : Fin 24) (k : EventKind) (d : EventData) :
    (s.raise i k d).sensor.gates = s.sensor.gates := by
  unfold State.raise
  dsimp only
  split
  · rfl
  · split <;> rfl

@[simp] theorem raise_gate (i : Fin 24) (k : EventKind) (d : EventData) (g : Fin 16) :
    (s.raise i k d).gate g = s.gate g := by simp only [State.gate, raise_gates]

/-- An accepted command leaves DOZE for RUN. -/
theorem leaveDoze_power (k : Nat) :
    (s.leaveDoze k).power =
      { s.power with state := if s.power.state = .doze then .run else s.power.state } := by
  unfold State.leaveDoze
  split
  · simp
  · simp

/-- It raises RESUMED when it does. -/
theorem leaveDoze_sensor (k : Nat) :
    (s.leaveDoze k).sensor =
      (if s.power.state = .doze then (s.raise 22 .resumed (.word k)).sensor else s.sensor) := by
  unfold State.leaveDoze
  split
  · exact raise_sensor_congr (by rfl) _ _ _
  · rfl

/-- A completion looks at the record unit and at whether the report ring is full. -/
theorem complete_recUnit_congr {s t : State} (h : s.recUnit = t.recUnit)
    (hr : s.ringFull = t.ringFull) (c : ResultCode) (r : List Nat) :
    (s.complete c r).recUnit = (t.complete c r).recUnit := by
  simp only [State.complete, State.cmdBytes, h, hr]

/-! ## The band pool -/

/-- The band-pool test changes no more of page memory than its condition. -/
theorem poolTest_page : s.poolTest.page = { s.page with low := s.poolTest.page.low } := by
  unfold State.poolTest
  split
  · split
    · rw [raise_page]
    · rfl
  · split
    · rw [raise_page]
    · rfl

@[simp] theorem poolTest_free' : s.poolTest.page.free = s.page.free := by rw [poolTest_page]
@[simp] theorem poolTest_r : s.poolTest.page.r = s.page.r := by rw [poolTest_page]
@[simp] theorem poolTest_geo : s.poolTest.page.geo = s.page.geo := by rw [poolTest_page]
@[simp] theorem poolTest_slots : s.poolTest.page.slots = s.page.slots := by rw [poolTest_page]
@[simp] theorem poolTest_used : s.poolTest.page.used = s.page.used := by rw [poolTest_page]
@[simp] theorem poolTest_taken : s.poolTest.page.taken = s.page.taken := by rw [poolTest_page]
@[simp] theorem poolTest_returned : s.poolTest.page.returned = s.page.returned := by
  rw [poolTest_page]
@[simp] theorem poolTest_lowMark : s.poolTest.page.lowMark = s.page.lowMark := by rw [poolTest_page]
@[simp] theorem poolTest_staleRef : s.poolTest.page.staleRef = s.page.staleRef := by
  rw [poolTest_page]
@[simp] theorem poolTest_slotWait : s.poolTest.page.slotWait = s.page.slotWait := by
  rw [poolTest_page]
@[simp] theorem poolTest_slot (i : Fin 16) : s.poolTest.slot i = s.slot i := by
  simp only [State.slot, poolTest_slots]
@[simp] theorem poolTest_gates : s.poolTest.sensor.gates = s.sensor.gates := by
  unfold State.poolTest
  split
  · split
    · rw [raise_gates]
    · rfl
  · split
    · rw [raise_gates]
    · rfl

/-- Setting the reservation changes it and the band-pool condition. -/
theorem reserve_page (v : Nat) :
    (s.reserve v).page =
      { s.page with
        r := if v ≤ s.page.r then v else min v s.page.free.length
        low := (s.reserve v).page.low } := by
  unfold State.reserve
  rw [poolTest_page]
  rfl

@[simp] theorem reserve_zero_r : (s.reserve 0).page.r = 0 := by
  rw [reserve_page]
  simp

@[simp] theorem reserve_slots (v : Nat) : (s.reserve v).page.slots = s.page.slots := by
  rw [reserve_page]
@[simp] theorem reserve_slot (v : Nat) (i : Fin 16) : (s.reserve v).slot i = s.slot i := by
  simp only [State.slot, reserve_slots]
@[simp] theorem reserve_geo (v : Nat) : (s.reserve v).page.geo = s.page.geo := by rw [reserve_page]
@[simp] theorem reserve_slotWait (v : Nat) : (s.reserve v).page.slotWait = s.page.slotWait := by
  rw [reserve_page]
@[simp] theorem reserve_free' (v : Nat) : (s.reserve v).page.free = s.page.free := by
  rw [reserve_page]
@[simp] theorem reserve_gates (v : Nat) : (s.reserve v).sensor.gates = s.sensor.gates := by
  unfold State.reserve
  rw [poolTest_gates]

/-! ## Links -/

/-- What the end of a link makes of its motor. -/
def Motor.unlinked (x : Motor) : Motor :=
  if x.link.isNone then x
  else if x.moving then { x.shrink with link := none, heldStep := false }
  else { x with link := none, budget := none }

@[simp] theorem unlinkMotor_motors (m : MotorId) :
    (s.unlinkMotor m).motors = s.motors.set m (s.motor m).unlinked := by
  unfold State.unlinkMotor Motor.unlinked
  dsimp only
  split
  · cases m <;> rfl
  · cases m
    · simp only [reserve_motors]; rfl
    · rfl
    · rfl

@[simp] theorem unlinkMotor_motor_self (m : MotorId) :
    (s.unlinkMotor m).motor m = (s.motor m).unlinked := by
  cases m <;> simp only [motor_m0, motor_m1, motor_m2, unlinkMotor_motors] <;> rfl

theorem unlinkMotor_motor_of_ne {m d : MotorId} (h : d ≠ m) :
    (s.unlinkMotor m).motor d = s.motor d := by
  cases m <;> cases d <;>
    first
      | exact absurd rfl h
      | (simp only [motor_m0, motor_m1, motor_m2, unlinkMotor_motors]; rfl)

@[simp] theorem unlinked_link (x : Motor) : x.unlinked.link = none := by
  unfold Motor.unlinked
  by_cases h : x.link.isNone
  · rw [if_pos h]; simpa using h
  · rw [if_neg h]
    by_cases k : x.moving
    · rw [if_pos k]
    · rw [if_neg k]

/-- The reservation is 0 once motor 0's link has ended. -/
theorem unlinkMotor_r (h : (s.motor .m0).link.isSome = true) :
    (s.unlinkMotor .m0).page.r = 0 := by
  unfold State.unlinkMotor
  dsimp only
  rw [if_neg (by simpa [Option.isSome_iff_ne_none] using h)]
  exact reserve_zero_r _

@[simp] theorem unlinkMotor_slot (m : MotorId) (i : Fin 16) :
    (s.unlinkMotor m).slot i = s.slot i := by
  unfold State.unlinkMotor
  dsimp only
  split
  · rfl
  · cases m <;> simp

@[simp] theorem unlinkMotor_geo (m : MotorId) : (s.unlinkMotor m).page.geo = s.page.geo := by
  unfold State.unlinkMotor
  dsimp only
  split
  · rfl
  · cases m <;> simp

@[simp] theorem unlinkMotor_slotWait (m : MotorId) :
    (s.unlinkMotor m).page.slotWait = s.page.slotWait := by
  unfold State.unlinkMotor
  dsimp only
  split
  · rfl
  · cases m <;> simp

@[simp] theorem unlinkMotor_page_of_ne {m : MotorId} (h : m ≠ .m0) :
    (s.unlinkMotor m).page = s.page := by
  unfold State.unlinkMotor
  dsimp only
  split
  · rfl
  · cases m
    · exact absurd rfl h
    · rfl
    · rfl

@[simp] theorem unlinkMotor_sensor_of_ne {m : MotorId} (h : m ≠ .m0) :
    (s.unlinkMotor m).sensor = s.sensor := by
  unfold State.unlinkMotor
  dsimp only
  split
  · rfl
  · cases m
    · exact absurd rfl h
    · rfl
    · rfl

/-- The motors when a channel's stop point is shrunk. -/
theorem shrinkFor_motor (ch : Channel) (m : MotorId) :
    (s.shrinkFor ch).motor m =
      if motorFor ch = some m ∧ (s.motor m).link.isSome = true then (s.motor m).shrink
      else s.motor m := by
  unfold State.shrinkFor
  cases ch
  · by_cases h : (s.motor .m0).link.isSome = true
    · cases m <;> simp_all [motorFor]
    · cases m <;> simp_all [motorFor]
  · by_cases h : (s.motor .m1).link.isSome = true
    · cases m <;> simp_all [motorFor]
    · cases m <;> simp_all [motorFor]
  · simp [motorFor]
  · simp [motorFor]

/-! ## Pages -/

@[simp] theorem releaseTest_gates (i : Fin 16) :
    (s.releaseTest i).sensor.gates = s.sensor.gates := by
  unfold State.releaseTest
  dsimp only
  split
  · rw [poolTest_gates]; rfl
  · rfl

/-- A page that is not to be released is left alone by the release test. -/
theorem releaseTest_of_not {i : Fin 16}
    (h : ¬((s.slot i).state = .complete ∧ (s.slot i).release ∧ (s.slot i).readers = 0)) :
    s.releaseTest i = s := by
  unfold State.releaseTest
  dsimp only
  rw [if_neg h]

/-- A page that is to be released becomes EMPTY, its bands at the tail of the free list. -/
theorem releaseTest_of {i : Fin 16}
    (h : (s.slot i).state = .complete ∧ (s.slot i).release ∧ (s.slot i).readers = 0) :
    s.releaseTest i =
      ((s.setSlot i { Page.reset with gen := (s.slot i).gen }).returnBands
        (s.slot i).chain).poolTest := by
  unfold State.releaseTest
  dsimp only
  rw [if_pos h]

@[simp] theorem returnBands_slot (bs : List Nat) (i : Fin 16) :
    (s.returnBands bs).slot i = s.slot i := rfl

theorem releaseTest_slot_of_ne {i j : Fin 16} (h : j ≠ i) : (s.releaseTest i).slot j = s.slot j := by
  by_cases k : (s.slot i).state = .complete ∧ (s.slot i).release ∧ (s.slot i).readers = 0
  · rw [releaseTest_of s k]
    simp [slot_setSlot_of_ne _ _ h]
  · rw [releaseTest_of_not s k]

/-! ## Bands taken, and freed behind a reader -/

/-- The first band of a consume page, read through, goes to the tail of the free list. -/
theorem freeBehind_of {i : Fin 16} {b n : Nat} {rest : List Nat} (hc : (s.slot i).chain = b :: rest)
    (hn : s.readerPosition (s.slot i) = some n)
    (h : (s.slot i).consume ∧ (s.slot i).freed + 64 < n ∧ (rest ≠ [] ∨ (s.slot i).state = .complete)) :
    s.freeBehind i =
      ((s.setSlot i { s.slot i with chain := rest, freed := (s.slot i).freed + 64 }).returnBands
        [b]).poolTest := by
  unfold State.freeBehind
  simp only [hc, hn]
  rw [if_pos h]

/-- Without a band, a reader or a band read through, nothing is freed. -/
theorem freeBehind_of_not {i : Fin 16}
    (h : ∀ b rest n, (s.slot i).chain = b :: rest → s.readerPosition (s.slot i) = some n →
      ¬((s.slot i).consume ∧ (s.slot i).freed + 64 < n ∧
        (rest ≠ [] ∨ (s.slot i).state = .complete))) :
    s.freeBehind i = s := by
  unfold State.freeBehind
  dsimp only
  split
  · rename_i b rest n hc hn
    rw [if_neg (h b rest n hc hn)]
  · rfl

/-- Freeing a band changes of its page the chain and the count of freed lines. -/
theorem freeBehind_slot (i : Fin 16) :
    ∃ chain freed, (s.freeBehind i).slot i = { s.slot i with chain, freed } := by
  unfold State.freeBehind
  dsimp only
  split
  · split
    · exact ⟨_, _, by simp only [poolTest_slot, returnBands_slot, slot_setSlot_self]; rfl⟩
    · exact ⟨_, _, rfl⟩
  · exact ⟨_, _, rfl⟩

theorem freeBehind_slot_of_ne {i j : Fin 16} (h : j ≠ i) : (s.freeBehind i).slot j = s.slot j := by
  unfold State.freeBehind
  dsimp only
  split
  · split
    · simp [slot_setSlot_of_ne _ _ h]
    · rfl
  · rfl

/-- The taking of a band, before the band behind a reader is freed. -/
theorem takeBand_of {b : Nat} {rest : List Nat} (h : s.page.free = b :: rest) (i : Fin 16)
    (scan : Bool) :
    ∃ t : State, s.takeBand i scan = t.freeBehind i ∧
      t.slot i = { s.slot i with
        assigned := (s.slot i).assigned + 1, chain := (s.slot i).chain ++ [b] } ∧
      (∀ j, j ≠ i → t.slot j = s.slot j) ∧ t.page.free = rest ∧
      t.page.r = (if scan then s.page.r - 1 else s.page.r) ∧
      t.page.taken = s.page.taken + 1 ∧ t.page.returned = s.page.returned ∧ t.chans = s.chans ∧
      t = { s with page := t.page, sensor := t.sensor } := by
  unfold State.takeBand
  rw [h]
  refine ⟨_, rfl, ?_, ?_, ?_, ?_, ?_, ?_, ?_, ?_⟩
  · rw [poolTest_slot]
    exact slot_setSlot_self s i _
  · intro j hj
    rw [poolTest_slot]
    exact slot_setSlot_of_ne s _ hj
  · rw [poolTest_free']
  · rw [poolTest_r]
    rfl
  · rw [poolTest_taken]
    rfl
  · rw [poolTest_returned]
    rfl
  · rw [poolTest_chans]
    rfl
  · exact poolTest_only _

/-! ## The end of self-refresh (08 R163) -/

/-- Judging a held cycle concerns the host port alone. -/
theorem judgeCycle_host : s.judgeCycle = { s with host := s.judgeCycle.host } := by
  unfold State.judgeCycle
  split
  · rfl
  · split
    · rfl
    · split
      · rfl
      · split <;> rfl

/-- All that the end of self-refresh does. -/
theorem leaveSelfRefresh_only :
    s.leaveSelfRefresh =
      { s with
        host := s.leaveSelfRefresh.host
        port := { s.port with mode := .running, backlog := s.leaveSelfRefresh.port.backlog } } := by
  unfold State.leaveSelfRefresh
  dsimp only
  rw [judgeCycle_host]

theorem leaveSelfRefresh_backlog :
    s.leaveSelfRefresh.port.backlog = (s.leaveSelfRefresh.hostWaits || s.indexWaits) := by
  unfold State.leaveSelfRefresh
  dsimp only
  rw [judgeCycle_host]
  rfl

/-- No grant makes a request one that waited through self-refresh. -/
theorem backlogAfter_of_clear (j : Job) (h : s.port.backlog = false) : s.backlogAfter j = false := by
  cases j <;> simp [State.backlogAfter, h]

/-- A channel that is not in WAIT_REPORT keeps its state when its last notice is posted. -/
theorem afterReport_of_ne (c : Chan) (h : c.state ≠ .waiting .report) : c.afterReport = c.state :=
  if_neg fun k => h k.1

/-- A channel under a request keeps its state when its last notice is posted (02 R53; log 70). -/
theorem afterReport_of_request (c : Chan) (h : c.pauseReq ≠ none) : c.afterReport = c.state :=
  if_neg fun k => h k.2

/-- A writer whose entry is not over keeps it. -/
theorem endIfDone_of_remaining (ch : Channel) (h : (s.chan ch).remaining ≠ 0) : s.endIfDone ch = s :=
  if_neg fun k => h k.2.2.1

theorem endOver_of_remaining (ch : Channel) (h : (s.chan ch).remaining ≠ 0) : s.endOver ch = s := by
  rw [State.endOver, endIfDone_of_remaining s ch h, endIfDone_of_remaining s ch h]

/-- The page of a reference is done unless it is being written under that generation (02 R38). -/
theorem pageDone_iff (s : State) (ref : PageRef) :
    s.pageDone ref = true ↔ (s.slot ref.slot).state ≠ .filling ∨ (s.slot ref.slot).gen ≠ ref.gen := by
  simp [State.pageDone]

/-- A resumed reader of a page that is being written enters its wait again (02 R55). -/
theorem reopen_of_filling (s : State) (ch : Channel) (ref : PageRef) (follow release : Bool) (scale : Nat)
    (h1 : (s.slot ref.slot).state = .filling) (h2 : (s.slot ref.slot).gen = ref.gen) :
    s.reopen ch ref follow release scale = s.startWait ch .complete := by
  have h : s.pageDone ref = false := by simp [State.pageDone, h1, h2]
  simp [State.reopen, h]

/-- A resumed reader of a page that is done gets checks 4 to 8 (02 R38; log 63). -/
theorem reopen_of_done (s : State) (ch : Channel) (ref : PageRef) (follow release : Bool) (scale : Nat)
    (h : (s.slot ref.slot).state ≠ .filling ∨ (s.slot ref.slot).gen ≠ ref.gen) :
    s.reopen ch ref follow release scale = s.openResolved ch ref follow release scale := by
  simp [State.reopen, (pageDone_iff s ref).2 h]

/-! ## The window behind an entry that has ended (02 R31, R40, 05 R102) -/

/-- What stands next behind an entry that has just become current: nothing, or the mark of a bad address. -/
theorem makeCurrent_next (c : Chan) (g : Geometry) (e : WinEntry) :
    (c.makeCurrent g e).next = none ∨
      ∃ a, (c.makeCurrent g e).next = some { addr := a, entry := .notFetched } := by
  unfold Chan.makeCurrent
  dsimp only
  split
  · split
    · exact .inl rfl
    · exact .inr ⟨_, rfl⟩
  · exact .inl rfl

theorem makeCurrent_current (c : Chan) (g : Geometry) (e : WinEntry) :
    (c.makeCurrent g e).current = some e := by
  unfold Chan.makeCurrent
  dsimp only
  split
  · split <;> rfl
  · rfl

theorem abortSteps_chan (ch : Channel) : ∃ c : Chan, (s.abortSteps ch).chan ch = c.cleared :=
  ⟨_, chan_setChan_self _ ch (Chan.cleared _)⟩

theorem faultEntry_current (ch : Channel) (c : FaultCode) :
    ((s.faultEntry ch c).chan ch).current = none := by
  obtain ⟨k, hk⟩ := abortSteps_chan s ch
  unfold State.faultEntry State.faultChan
  dsimp only
  unfold State.postFinal
  split
  · show ((State.setChan _ ch _).chan ch).current = none
    rw [chan_setChan_self, hk]; rfl
  · unfold State.notify
    rw [chan_setChan_self, chan_setChan_self, hk]; rfl

theorem edgeAtStart_next (ch : Channel) (o : Option EdgeOption) :
    ((s.edgeAtStart ch o).chan ch).next = (s.chan ch).next := by
  unfold State.edgeAtStart State.trailingEdge
  split
  · split
    · rw [chan_setChan_self]
    · rfl
  · rfl

theorem takeCount_next (ch : Channel) (n : Nat) (o : Option EdgeOption) (b : Nat) :
    ((s.takeCount ch n o b).chan ch).next = (s.chan ch).next := by
  unfold State.takeCount
  rw [edgeAtStart_next]
  split
  · show ((State.setChan _ ch _).chan ch).next = _
    rw [chan_setChan_self]
  · rw [chan_setChan_self]

/-- A LINES entry that begins keeps the window, or faults and leaves none. -/
theorem beginLines_next (ch : Channel) (n : Nat) (o : Option EdgeOption) (b : Nat) :
    ((s.beginLines ch n o b).chan ch).current = none ∨
      ((s.beginLines ch n o b).chan ch).next = (s.chan ch).next := by
  unfold State.beginLines
  split
  · exact .inl (faultEntry_current _ _ _)
  · split
    · exact .inl (faultEntry_current _ _ _)
    · split
      · exact .inl (faultEntry_current _ _ _)
      · exact .inr (takeCount_next _ _ _ _ _)

/-- The window behind an entry that has just ended holds no fetched next entry. -/
theorem endEntry_window (ch : Channel) :
    let c := (s.endEntry ch).chan ch
    c.current = none ∨ c.next = none ∨ ∃ a, c.next = some { addr := a, entry := .notFetched } := by
  intro c
  have key : ∀ e, ((s.chan ch).shift s.page.geo).current = some e →
      ((s.chan ch).shift s.page.geo).next = none ∨
        ∃ a, ((s.chan ch).shift s.page.geo).next = some { addr := a, entry := .notFetched } := by
    intro e h
    unfold Chan.shift at h ⊢
    split at h <;> simp_all [makeCurrent_next]
  unfold c State.endEntry
  dsimp only
  rw [chan_setChan_self]
  split
  · rename_i e he
    split
    · split
      · rename_i n o b _ _
        rcases beginLines_next (s.setChan ch ((s.chan ch).shift s.page.geo)) ch n o b with h | h
        · exact .inl h
        · rw [h, chan_setChan_self]; exact .inr (key _ he)
      · rw [chan_setChan_self]; exact .inr (key _ he)
    · rw [chan_setChan_self]; exact .inr (key _ he)
  · rename_i he
    rw [chan_setChan_self]; exact .inl he

/-- Where no fetched entry stands next, the end of an entry begins no LINES entry. -/
theorem endEntry_not_lines (ch : Channel)
    (h : (s.chan ch).next = none ∨
      ∃ a, (s.chan ch).next = some { addr := a, entry := .notFetched }) :
    ((s.endEntry ch).chan ch).atLines = false := by
  unfold State.endEntry
  dsimp only
  rw [chan_setChan_self]
  have : ((s.chan ch).shift s.page.geo).current = none ∨
      ∃ a, ((s.chan ch).shift s.page.geo).current = some { addr := a, entry := .notFetched } := by
    unfold Chan.shift
    rcases h with h | ⟨a, h⟩
    · rw [h]; exact .inl rfl
    · rw [h]; exact .inr ⟨a, makeCurrent_current _ _ _⟩
  rcases this with h | ⟨a, h⟩
  · rw [h]; simp [Chan.atLines, h]
  · rw [h]; simp [Chan.atLines, h, Entry.isLines]

end Sys2Proof.Machine
end

