-- ==== Sys2Proof/Laws/Kept.lean ====
section
/-! SUPPORT. What `settle`, and each operation it is made of, leaves as it is: one lemma `<operation>_held`
for each, and at the end the lemmas `settle_<field>` for the fields that proofs ask for most. -/

namespace Sys2Proof.Machine

variable (s : State)

/-! ## Leaves -/

theorem setChan_held_of {ch : Channel} {c : Chan} (h : c.kept = (s.chan ch).kept) :
    (s.setChan ch c).held = s.held := by
  cases ch <;> simp_all [State.held, State.kept, State.setChan, Chans.set, State.chan]

theorem setMotor_held_of {m : MotorId} {x : Motor} (h : x.kept = (s.motor m).kept) :
    (s.setMotor m x).held = s.held := by
  cases m <;> simp_all [State.held, State.kept, State.setMotor, MotorUnit.set, State.motor]

@[simp] theorem setSlot_held (i : Fin 16) (p : Page) : (s.setSlot i p).held = s.held := rfl

theorem map_set_of_eq {α β : Type} {n : Nat} (f : α → β) (v : Vector α n) (i : Nat) (h : i < n)
    (x : α) (e : f x = f v[i]) : (v.set i x h).map f = v.map f := by
  ext j hj
  simp only [Vector.getElem_map, Vector.getElem_set]
  split
  · rename_i hij; subst hij; exact e
  · rfl

theorem setGate_held_of {g : Fin 16} {x : Gateway} (h1 : x.cfg = (s.gate g).cfg)
    (h2 : x.high = (s.gate g).high) (h3 : x.run = (s.gate g).run) :
    (s.setGate g x).held = s.held := by
  have e := map_set_of_eq (fun g : Gateway => (g.cfg, g.high, g.run)) s.sensor.gates g.val g.isLt x
    (by simp only [h1, h2, h3]; rfl)
  simp only [State.held, State.kept, State.setGate, e]

theorem setSource_held_of {i : Fin 24} {x : Source} (h : x.priority = (s.source i).priority) :
    (s.setSource i x).held = s.held := by
  have e := map_set_of_eq (fun x : Source => x.priority) s.sensor.sources i.val i.isLt x h
  simp only [State.held, State.kept, State.setSource, e]

@[simp] theorem setBuf_held (b : BufId) (x : LineBuf) : (s.setBuf b x).held = s.held := by
  cases b <;> rfl

/-! ## Events and page memory -/

@[simp] theorem raise_held (i : Fin 24) (k : EventKind) (d : EventData) :
    (s.raise i k d).held = s.held := by
  unfold State.raise
  dsimp only
  split
  · rfl
  · split
    · exact setSource_held_of _ rfl
    · exact setSource_held_of { s with sensor := { s.sensor with raises := s.sensor.raises + 1 } } rfl

@[simp] theorem poolTest_held : s.poolTest.held = s.held := by
  unfold State.poolTest
  split <;> split <;> first | rfl | exact raise_held _ _ _ _

@[simp] theorem reserve_held (v : Nat) : (s.reserve v).held = s.held := by
  simp only [State.reserve, poolTest_held]; rfl

@[simp] theorem returnBands_held (bs : List Nat) : (s.returnBands bs).held = s.held := rfl

@[simp] theorem releaseTest_held (i : Fin 16) : (s.releaseTest i).held = s.held := by
  unfold State.releaseTest
  dsimp only
  split <;> simp

@[simp] theorem freeBehind_held (i : Fin 16) : (s.freeBehind i).held = s.held := by
  unfold State.freeBehind
  dsimp only
  split
  · split <;> simp
  · rfl

@[simp] theorem leave_held (i : Fin 16) (ch : Channel) (r : Bool) :
    (s.leave i ch r).held = s.held := by
  simp [State.leave]

@[simp] theorem takeBand_held (i : Fin 16) (scan : Bool) : (s.takeBand i scan).held = s.held := by
  unfold State.takeBand
  dsimp only
  split
  · rfl
  · simp only [poolTest_held, freeBehind_held]; rfl

@[simp] theorem assignLine_held (i : Fin 16) (scan : Bool) :
    (s.assignLine i scan).1.held = s.held := by
  unfold State.assignLine
  dsimp only
  by_cases h1 : (s.slot i).assigned = (s.slot i).limit
  · rw [if_pos h1]
  · by_cases h2 : (s.slot i).assigned % 64 = 0
    · rw [if_neg h1, if_pos h2]
      generalize (if scan = true then s.freeCount else s.unreserved) = n
      by_cases h3 : n = 0
      · rw [if_pos h3]
      · rw [if_neg h3]; exact takeBand_held _ _ _
    · rw [if_neg h1, if_neg h2]; rfl

@[simp] theorem storeLine_held (i : Fin 16) : (s.storeLine i).held = s.held := rfl

@[simp] theorem closePage_held (i : Fin 16) (cut : Bool) : (s.closePage i cut).held = s.held := by
  unfold State.closePage
  simp only [freeBehind_held]
  split
  · rfl
  · simp only [poolTest_held, returnBands_held, setSlot_held]; rfl

@[simp] theorem completePage_held (i : Fin 16) (cut : Bool) :
    (s.completePage i cut).held = s.held := by
  simp [State.completePage]

/-! ## The motors -/

@[simp] theorem reserveFor_held (j : Option Nat) : (s.reserveFor j).held = s.held := by
  unfold State.reserveFor
  split <;> simp

@[simp] theorem afterDecision_held (m : MotorId) (j : Option Nat) :
    (s.afterDecision m j).held = s.held := by
  cases m <;> simp [State.afterDecision]

@[simp] theorem leaveRest_held (m : MotorId) : (s.leaveRest m).held = s.held :=
  setMotor_held_of _ rfl

@[simp] theorem restDecision_held (m : MotorId) : (s.restDecision m).held = s.held := by
  unfold State.restDecision
  dsimp only
  split
  · rfl
  · split <;> simp

@[simp] theorem unlinkMotor_held (m : MotorId) : (s.unlinkMotor m).held = s.held := by
  have h : ∀ y : Motor, y.kept = (s.motor m).kept →
      (match m with
        | .m0 => (s.setMotor m y).reserve 0
        | .m1 => s.setMotor m y
        | .m2 => s.setMotor m y).held = s.held := by
    intro y hy
    cases m <;> simp only [reserve_held] <;> exact setMotor_held_of _ hy
  unfold State.unlinkMotor
  dsimp only
  by_cases h1 : (s.motor m).link.isNone = true
  · rw [if_pos h1]
  · rw [if_neg h1]
    apply h
    by_cases h2 : (s.motor m).moving = true
    · rw [if_pos h2]; rfl
    · rw [if_neg h2]; rfl

@[simp] theorem shrinkFor_held (ch : Channel) : (s.shrinkFor ch).held = s.held := by
  unfold State.shrinkFor
  split
  · rfl
  · split
    · exact setMotor_held_of _ rfl
    · rfl

@[simp] theorem freeBudget_held (ch : Channel) : (s.freeBudget ch).held = s.held := by
  unfold State.freeBudget
  dsimp only
  split
  · rfl
  · split
    · exact setMotor_held_of _ rfl
    · rfl

/-! ## The DRAM port -/

@[simp] theorem drawn_held : s.drawn.held = s.held := rfl
@[simp] theorem dropGrant_held : s.dropGrant.held = s.held := rfl

@[simp] theorem passWords_held (j : Job) (k : Nat) : (s.passWords j k).held = s.held := by
  unfold State.passWords
  dsimp only
  split <;> rfl

@[simp] theorem endBurst_held (j : Job) : (s.endBurst j).held = s.held := passWords_held _ _ _

@[simp] theorem cutLineWork_held (ch : Channel) : (s.cutLineWork ch).held = s.held := by
  unfold State.cutLineWork
  dsimp only
  have h : ∀ t : State, t.held = s.held →
      (match t.port.suspended with
        | some j =>
          if j.lineWork = some ch then
            { t with port := { t.port with suspended := none, done := 0, partialData := [] } }
          else t
        | none => t).held = s.held := by
    intro t ht
    split
    · split
      · exact ht
      · exact ht
    · exact ht
  apply h
  split
  · split <;> simp
  · rfl

@[simp] theorem grant_held (j : Job) : (s.grant j).held = s.held := by
  unfold State.grant
  dsimp only
  split
  · simp only [setBuf_held]; rfl
  · rfl
  · rfl

@[simp] theorem grantUrgent_held : s.grantUrgent.held = s.held := by
  unfold State.grantUrgent
  split <;> rfl

@[simp] theorem grantRotation_held (qs : List Requester) : (s.grantRotation qs).held = s.held := by
  induction qs with
  | nil => rfl
  | cons q rest ih =>
    unfold State.grantRotation
    split
    · exact grant_held s _
    · exact ih

@[simp] theorem grantFree_held : s.grantFree.held = s.held := by
  unfold State.grantFree
  split
  · simp
  · split
    · simp
    · split <;> simp

/-! ## The line channels -/

@[simp] theorem notify_held (ch : Channel) (n : Notice) : (s.notify ch n).held = s.held :=
  setChan_held_of _ rfl

@[simp] theorem notifyEnding_held (ch : Channel) (n : Notice) :
    (s.notifyEnding ch n).held = s.held := setChan_held_of _ rfl

theorem makeCurrent_kept (c : Chan) (geo : Geometry) (e : WinEntry) :
    (c.makeCurrent geo e).kept = c.kept := by
  unfold Chan.makeCurrent
  dsimp only
  split
  · split <;> rfl
  · rfl

theorem shift_kept (c : Chan) (geo : Geometry) : (c.shift geo).kept = c.kept := by
  unfold Chan.shift
  split
  · exact makeCurrent_kept _ _ _
  · rfl

@[simp] theorem edgeAtStart_held (ch : Channel) (o : Option EdgeOption) :
    (s.edgeAtStart ch o).held = s.held := by
  unfold State.edgeAtStart
  split
  · split
    · exact setChan_held_of _ rfl
    · rfl
  · rfl

@[simp] theorem clearPath_held (ch : Channel) : (s.clearPath ch).held = s.held := by
  cases ch
  · exact cutLineWork_held s _
  · exact cutLineWork_held s _
  · show s.clearCodeOut.held = s.held
    unfold State.clearCodeOut
    dsimp only
    split
    · exact cutLineWork_held s _
    · exact cutLineWork_held s _
  · show s.clearCodeIn.held = s.held
    unfold State.clearCodeIn
    split
    · rfl
    · rfl
    · rfl
    · exact cutLineWork_held s _
    · rfl

@[simp] theorem dropPage_held (ch : Channel) : (s.dropPage ch).held = s.held := by
  unfold State.dropPage
  split
  · rfl
  · split <;> simp

@[simp] theorem dropLink_held (ch : Channel) : (s.dropLink ch).held = s.held := by
  unfold State.dropLink
  split <;> simp

@[simp] theorem postFinal_held (ch : Channel) (n : Notice) : (s.postFinal ch n).held = s.held := by
  unfold State.postFinal
  split
  · rfl
  · simp

@[simp] theorem abortSteps_held (ch : Channel) : (s.abortSteps ch).held = s.held := by
  have h := setChan_held_of (((s.dropPage ch).dropLink ch).clearPath ch) (ch := ch)
    (c := ((((s.dropPage ch).dropLink ch).clearPath ch).chan ch).cleared) rfl
  simp only [clearPath_held, dropLink_held, dropPage_held] at h
  exact h

@[simp] theorem faultChan_held (ch : Channel) (code : FaultCode) (a : Nat) :
    (s.faultChan ch code a).held = s.held := by
  unfold State.faultChan
  simp only [postFinal_held]
  refine (setChan_held_of _ ?_).trans (abortSteps_held s ch)
  rfl

@[simp] theorem faultEntry_held (ch : Channel) (code : FaultCode) :
    (s.faultEntry ch code).held = s.held := faultChan_held _ _ _ _

@[simp] theorem takeCount_held (ch : Channel) (n : Nat) (e : Option EdgeOption) (b : Nat) :
    (s.takeCount ch n e b).held = s.held := by
  unfold State.takeCount
  simp only [edgeAtStart_held]
  split
  · exact setChan_held_of s (ch := ch) rfl
  · exact setChan_held_of s (ch := ch) rfl

@[simp] theorem beginLines_held (ch : Channel) (n : Nat) (e : Option EdgeOption) (b : Nat) :
    (s.beginLines ch n e b).held = s.held := by
  unfold State.beginLines
  split
  · simp
  · split
    · simp
    · split <;> simp

@[simp] theorem endEntry_held (ch : Channel) : (s.endEntry ch).held = s.held := by
  have h : (s.setChan ch ((s.chan ch).shift s.page.geo)).held = s.held :=
    setChan_held_of _ (shift_kept _ _)
  unfold State.endEntry
  dsimp only
  split
  · split
    · split
      · simp only [beginLines_held]; exact h
      · exact h
    · exact h
  · exact h

@[simp] theorem endIfDone_held (ch : Channel) : (s.endIfDone ch).held = s.held := by
  unfold State.endIfDone
  dsimp only
  split
  · simp only [endEntry_held]; exact setChan_held_of _ rfl
  · rfl

@[simp] theorem endOver_held (ch : Channel) : (s.endOver ch).held = s.held := by
  rw [State.endOver, endIfDone_held, endIfDone_held]

@[simp] theorem endAtLimit_held (ch : Channel) : (s.endAtLimit ch).held = s.held := by
  unfold State.endAtLimit
  split <;> simp

@[simp] theorem countLine_held (ch : Channel) : (s.countLine ch).held = s.held :=
  setChan_held_of _ rfl

@[simp] theorem askPause_held (ch : Channel) (cause : PauseCause) :
    (s.askPause ch cause).held = s.held := by
  unfold State.askPause
  dsimp only
  split
  · rfl
  · simp only [shrinkFor_held]; exact setChan_held_of _ rfl

/-! ## The line requests -/

@[simp] theorem endShort_held (ch : Channel) : (s.endShort ch).held = s.held := by
  simp [State.endShort]

@[simp] theorem askRead_held (ch : Channel) (n : Option Nat) : (s.askRead ch n).held = s.held := by
  unfold State.askRead
  dsimp only
  split
  · rfl
  · split
    · exact setChan_held_of s (ch := ch) rfl
    · exact setChan_held_of s (ch := ch) rfl
    · simp

@[simp] theorem askPrint_held : s.askPrint.held = s.held := by
  unfold State.askPrint
  dsimp only
  split <;> simp

@[simp] theorem askCodeOut_held : s.askCodeOut.held = s.held := by
  unfold State.askCodeOut
  split <;> simp

@[simp] theorem askCodeIn_held : s.askCodeIn.held = s.held := by
  unfold State.askCodeIn
  dsimp only
  split
  · split
    · rfl
    · rename_i p _
      have h := assignLine_held s p.slot false
      split
      · simp
      · exact setChan_held_of _ rfl
      · rename_i heq
        rw [heq] at h
        refine (setChan_held_of _ ?_).trans ((countLine_held _ _).trans h)
        rfl
  · rfl

@[simp] theorem setReady_held : s.setReady.held = s.held := by
  unfold State.setReady
  dsimp only
  split
  · rfl
  · split <;> rfl

@[simp] theorem waitMotor_held (ch : Channel) (m : MotorId) : (s.waitMotor ch m).held = s.held := by
  unfold State.waitMotor
  dsimp only
  split
  · exact setChan_held_of _ rfl
  · rfl

/-! ## The report slots -/

@[simp] theorem fetchNext_held : s.fetchNext.held = s.held := by
  unfold State.fetchNext
  split <;> rfl

@[simp] theorem disarm_held (i : Fin 24) (k : EventKind) : (s.disarm i k).held = s.held := by
  unfold State.disarm
  split
  · split
    · exact setGate_held_of _ rfl rfl rfl
    · rfl
  · rfl

@[simp] theorem startWriting_held (w : Producer) (bs : List Byte) :
    (s.startWriting w bs).held = s.held := rfl

@[simp] theorem grantEvent_held : s.grantEvent.held = s.held := by
  unfold State.grantEvent
  split
  · rfl
  · split
    · rfl
    · simp only [startWriting_held, disarm_held]; exact setSource_held_of _ rfl

@[simp] theorem grantSlot_held : s.grantSlot.held = s.held := by
  unfold State.grantSlot
  split
  · rfl
  · split
    · rfl
    · split
      · split <;> rfl
      · split <;> simp

@[simp] theorem waitReport_held (ch : Channel) : (s.waitReport ch).held = s.held := by
  unfold State.waitReport
  dsimp only
  split
  · exact setChan_held_of _ rfl
  · rfl

@[simp] theorem waitDevice_held : s.waitDevice.held = s.held := by
  unfold State.waitDevice
  dsimp only
  split
  · exact setChan_held_of _ rfl
  · split
    · exact setChan_held_of _ rfl
    · rfl

/-! ## `settle` -/

@[simp] theorem settleLines_held : s.settleLines.held = s.held := by simp [State.settleLines]
@[simp] theorem settleMotors_held : s.settleMotors.held = s.held := by simp [State.settleMotors]
@[simp] theorem settleReports_held : s.settleReports.held = s.held := by
  simp [State.settleReports]

/-! ## The answer to a host cycle, the arbiter, `settle` -/

/-- Equal held parts have equal kept parts. -/
theorem kept_of_held {s t : State} (h : t.held = s.held) : t.kept = s.kept := congrArg Held.kept h

/-- Equal held parts have equal host ports. -/
theorem host_of_held {s t : State} (h : t.held = s.held) : t.host = s.host := congrArg Held.host h

/-- Equal held parts have equal modes of the DRAM port. -/
theorem mode_of_held {s t : State} (h : t.held = s.held) : t.port.mode = s.port.mode :=
  congrArg Held.mode h

@[simp] theorem arbitrate_kept : s.arbitrate.kept = s.kept := by
  unfold State.arbitrate
  dsimp only
  split
  · split
    · exact (kept_of_held (grantUrgent_held _)).trans (kept_of_held (passWords_held s _ _))
    · rfl
  · split
    · exact (kept_of_held (grantUrgent_held _)).trans (kept_of_held (passWords_held s _ _))
    · rfl
  · exact kept_of_held (grantFree_held s)
  · rfl
  · rfl

@[simp] theorem judgeCycle_kept : s.judgeCycle.kept = s.kept := by
  unfold State.judgeCycle
  split
  · rfl
  · split
    · rfl
    · split
      · rfl
      · split <;> rfl

/-- Before the answer to a host cycle and the arbiter, `settle` changes no held part. -/
theorem beforeJudge_held : s.settleLines.settleMotors.settleReports.held = s.held := by simp

@[simp] theorem settle_kept : s.settle.kept = s.kept := by
  simp only [State.settle, arbitrate_kept, judgeCycle_kept]
  exact kept_of_held (beforeJudge_held s)

/-! ## Equal kept parts, field by field -/

variable {s} {t : State}

theorem kept_boot (h : t.kept = s.kept) : t.boot = s.boot := congrArg Kept.boot h
theorem kept_eeprom (h : t.kept = s.kept) : t.eeprom = s.eeprom := congrArg Kept.eeprom h
theorem kept_pending (h : t.kept = s.kept) : t.pending = s.pending := congrArg Kept.pending h
theorem kept_power (h : t.kept = s.kept) : t.power = s.power := congrArg Kept.power h
theorem kept_geo (h : t.kept = s.kept) : t.page.geo = s.page.geo := congrArg Kept.geo h
theorem kept_lowMark (h : t.kept = s.kept) : t.page.lowMark = s.page.lowMark := congrArg Kept.lowMark h
theorem kept_staleRef (h : t.kept = s.kept) : t.page.staleRef = s.page.staleRef := congrArg Kept.staleRef h
theorem kept_consumer (h : t.kept = s.kept) : t.recUnit.consumer = s.recUnit.consumer := congrArg Kept.consumer h
theorem kept_producer (h : t.kept = s.kept) : t.recUnit.producer = s.recUnit.producer := congrArg Kept.producer h
theorem kept_command (h : t.kept = s.kept) : t.recUnit.command = s.recUnit.command := congrArg Kept.command h
theorem kept_work (h : t.kept = s.kept) : t.recUnit.work = s.recUnit.work := congrArg Kept.work h
theorem kept_completion (h : t.kept = s.kept) : t.recUnit.completion = s.recUnit.completion := congrArg Kept.completion h
theorem kept_badKind (h : t.kept = s.kept) : t.recUnit.badKind = s.recUnit.badKind := congrArg Kept.badKind h
theorem kept_badAddress (h : t.kept = s.kept) : t.recUnit.badAddress = s.recUnit.badAddress := congrArg Kept.badAddress h
theorem kept_stall (h : t.kept = s.kept) : t.recUnit.stall = s.recUnit.stall := congrArg Kept.stall h
theorem kept_completed (h : t.kept = s.kept) : t.recUnit.completed = s.recUnit.completed := congrArg Kept.completed h
theorem kept_reports (h : t.kept = s.kept) : t.recUnit.posted = s.recUnit.posted := congrArg Kept.reports h
theorem kept_hostProducer (h : t.kept = s.kept) : t.host.producer = s.host.producer := congrArg Kept.hostProducer h
theorem kept_hostConsumer (h : t.kept = s.kept) : t.host.consumer = s.host.consumer := congrArg Kept.hostConsumer h
theorem kept_attention (h : t.kept = s.kept) : t.host.attention = s.host.attention := congrArg Kept.attention h
theorem kept_threshold (h : t.kept = s.kept) : t.sensor.threshold = s.sensor.threshold := congrArg Kept.threshold h
theorem kept_events (h : t.kept = s.kept) : t.sensor.posted = s.sensor.posted := congrArg Kept.events h
theorem kept_sampling (h : t.kept = s.kept) : t.sensor.sampling = s.sensor.sampling := congrArg Kept.sampling h
theorem kept_groups (h : t.kept = s.kept) : t.sensor.groups = s.sensor.groups := congrArg Kept.groups h
theorem kept_tLine (h : t.kept = s.kept) : t.scan.tLine = s.scan.tLine := congrArg Kept.tLine h
theorem kept_starts (h : t.kept = s.kept) : t.scan.starts = s.scan.starts := congrArg Kept.starts h
theorem kept_shadingA (h : t.kept = s.kept) : t.scan.shadingA = s.scan.shadingA := congrArg Kept.shadingA h
theorem kept_shadingB (h : t.kept = s.kept) : t.scan.shadingB = s.scan.shadingB := congrArg Kept.shadingB h
theorem kept_toneA (h : t.kept = s.kept) : t.scan.toneA = s.scan.toneA := congrArg Kept.toneA h
theorem kept_toneB (h : t.kept = s.kept) : t.scan.toneB = s.scan.toneB := congrArg Kept.toneB h
theorem kept_strobe (h : t.kept = s.kept) : t.print.strobe = s.print.strobe := congrArg Kept.strobe h
theorem kept_headClass (h : t.kept = s.kept) : t.print.headClass = s.print.headClass := congrArg Kept.headClass h
theorem kept_dmax (h : t.kept = s.kept) : t.print.dmax = s.print.dmax := congrArg Kept.dmax h
theorem kept_latches (h : t.kept = s.kept) : t.print.latches = s.print.latches := congrArg Kept.latches h
theorem kept_ramps (h : t.kept = s.kept) : t.motors.ramps = s.motors.ramps := congrArg Kept.ramps h
theorem kept_haltedByAction (h : t.kept = s.kept) : t.motors.haltedByAction = s.motors.haltedByAction := congrArg Kept.haltedByAction h
theorem kept_steps (h : t.kept = s.kept) : t.motors.steps = s.motors.steps := congrArg Kept.steps h
theorem kept_halts (h : t.kept = s.kept) : t.motors.halts = s.motors.halts := congrArg Kept.halts h
theorem kept_header (h : t.kept = s.kept) : t.coder.header = s.coder.header := congrArg Kept.header h
theorem kept_rxDots (h : t.kept = s.kept) : t.coder.rxDots = s.coder.rxDots := congrArg Kept.rxDots h
theorem kept_rxCounts (h : t.kept = s.kept) : t.coder.rxCounts = s.coder.rxCounts := congrArg Kept.rxCounts h
theorem kept_bytesReceived (h : t.kept = s.kept) : t.coder.bytesReceived = s.coder.bytesReceived := congrArg Kept.bytesReceived h
theorem kept_copyDots (h : t.kept = s.kept) : t.coder.copyDots = s.coder.copyDots := congrArg Kept.copyDots h
theorem kept_copyCounts (h : t.kept = s.kept) : t.coder.copyCounts = s.coder.copyCounts := congrArg Kept.copyCounts h
theorem kept_burstReported (h : t.kept = s.kept) : t.coder.burstReported = s.coder.burstReported := congrArg Kept.burstReported h
theorem kept_lastReceive (h : t.kept = s.kept) : t.coder.lastReceive = s.coder.lastReceive := congrArg Kept.lastReceive h
theorem kept_unsolicited (h : t.kept = s.kept) : t.coder.unsolicited = s.coder.unsolicited := congrArg Kept.unsolicited h
theorem kept_frameError (h : t.kept = s.kept) : t.coder.frameError = s.coder.frameError := congrArg Kept.frameError h
theorem kept_badLines (h : t.kept = s.kept) : t.coder.badLines = s.coder.badLines := congrArg Kept.badLines h
theorem kept_sent (h : t.kept = s.kept) : t.coder.sent = s.coder.sent := congrArg Kept.sent h
theorem kept_received (h : t.kept = s.kept) : t.coder.received = s.coder.received := congrArg Kept.received h
theorem kept_resetLow (h : t.kept = s.kept) : t.coder.resetLow = s.coder.resetLow := congrArg Kept.resetLow h

theorem kept_motor (h : t.kept = s.kept) (m : MotorId) : (t.motor m).kept = (s.motor m).kept := by
  cases m
  · exact congrArg Kept.m0 h
  · exact congrArg Kept.m1 h
  · exact congrArg Kept.m2 h

theorem kept_chan (h : t.kept = s.kept) (ch : Channel) : (t.chan ch).kept = (s.chan ch).kept := by
  cases ch
  · exact congrArg Kept.scanChan h
  · exact congrArg Kept.printChan h
  · exact congrArg Kept.codeOutChan h
  · exact congrArg Kept.codeInChan h

theorem kept_gate (h : t.kept = s.kept) (g : Fin 16) :
    (t.gate g).cfg = (s.gate g).cfg ∧ (t.gate g).high = (s.gate g).high ∧
      (t.gate g).run = (s.gate g).run := by
  have e : (t.sensor.gates.map fun g => (g.cfg, g.high, g.run))[g] =
      (s.sensor.gates.map fun g => (g.cfg, g.high, g.run))[g] :=
    congrArg (fun v : Vector (GateCfg × Bool × Nat) 16 => v[g]) (congrArg Kept.gates h)
  simpa [State.gate] using e

theorem kept_priority (h : t.kept = s.kept) (i : Fin 24) :
    (t.source i).priority = (s.source i).priority := by
  have e : (t.sensor.sources.map fun x => x.priority)[i] =
      (s.sensor.sources.map fun x => x.priority)[i] :=
    congrArg (fun v : Vector Nat 24 => v[i]) (congrArg Kept.priorities h)
  simpa [State.source] using e

end Sys2Proof.Machine
end

