-- ==== Sys2Proof/Tests/Slice0.lean ====
section
/-! SUPPORT. Checks of the model's own making: ill-formed terms that `Instr.wf` refuses, the book's worked
figures, and for every obligation with hypotheses a state and operands that meet them, clause by clause. -/

namespace Sys2Proof.Tests

open Sys2Proof.Machine

/-! ## Small states -/

/-- The part after start-up: READY, the host released, DRAM running, lines sampled. -/
def work : State :=
  { State.reset with
    boot := { State.reset.boot with stage := .ready, ready := .released }
    port := { DramPort.reset with mode := .running }
    coder := { CoderLink.reset with resetLow := false }
    sensor := { SensorUnit.reset with sampling := true } }

/-- A command record: kind, tag 0x00A5, operand words from byte 4 on. -/
def record (kind : Nat) (ws : List Nat) : List Byte :=
  le16 kind ++ le16 0xA5 ++ (ws ++ List.replicate (6 - ws.length) 0).flatMap le16

/-- A state with a command in hand. -/
def give (s : State) (bs : List Byte) : State :=
  { s with recUnit := { s.recUnit with state := .executing, work := none, command := some bs } }

theorem inHand_give (s : State) (k : Nat) (bs : List Byte) (h : cmdKind bs = k) :
    InHand (give s bs) k bs := ⟨rfl, rfl, rfl, h⟩

/-- A channel with an entry at its turn. -/
def enter (s : State) (ch : Channel) (e : Entry) : State :=
  s.setChan ch
    { s.chan ch with
      state := .running, phase := .fresh, notices := [], pauseReq := none
      current := some { addr := 0x10000, entry := e } }

theorem atEntry_enter (s : State) (ch : Channel) (e : Entry) : AtEntry (enter s ch e) ch e := by
  cases ch <;> exact ⟨⟨_, rfl⟩, rfl, Or.inl rfl, rfl, Or.inl rfl⟩

/-- A channel that waits in its entry. -/
def await (s : State) (ch : Channel) (w : Wait) (e : Entry) : State :=
  s.setChan ch
    { s.chan ch with
      state := .waiting w, pauseReq := none, current := some { addr := 0x10000, entry := e } }

theorem atWait_await (s : State) (ch : Channel) (w : Wait) (e : Entry) :
    AtWait (await s ch w e) ch w e := by
  cases ch <;> exact ⟨⟨_, rfl⟩, rfl, rfl⟩

/-- A power state. -/
def powered (p : PowerState) : State := { work with power := { PowerUnit.reset with state := p } }

/-- A channel in a state. -/
def chanIn (s : State) (ch : Channel) (st : ChState) : State :=
  s.setChan ch { s.chan ch with state := st }

/-- A channel with a page open. -/
def opened (s : State) (ch : Channel) (i : Fin 16) (gen : Nat) : State :=
  s.setChan ch { s.chan ch with openPage := some ⟨i, gen⟩ }

/-- A page of a writer. -/
def filling (ch : Channel) (gen : Nat) : Page :=
  { Page.reset with state := .filling, gen, writer := some ch, permitPrint := true }

/-- A COMPLETE page. -/
def complete (gen : Nat) : Page :=
  { Page.reset with state := .complete, gen, permitPrint := true, permitCodeOut := true }

/-- A MOVING motor on a host move of two intervals. -/
def running (k remaining : Nat) : Motor :=
  { Motor.reset with
    state := .moving, k := some k, committed := some 0, run := [5000, 5000], remaining
    move := some { dir := .forward, ramp := 0, top := 1, shortened := false } }

/-- A motor linked with one step per line. -/
def linked (x : Motor) : Motor := { x with link := some { spl := 1, ramp := 0, top := 1, kLine := 1 } }

/-- A copy in the print queue. -/
def copy : Copy :=
  { line := 1, index := 0, dots := [], counts := Counts.zero, phases := 1, width := 500, burn := 608
    cap := none, ended := false }

/-- A state whose DRAM port has a job in progress. -/
def busy (s : State) (j : Job) : State := { s with port := { s.port with busy := some j } }

/-- A load of a table under way, its burst in progress. -/
def loading (t : Table) (words : Nat) : State :=
  busy
    { work with recUnit :=
        { RecordUnit.reset with
          state := .executing
          work := some (.load { table := t, first := 0, count := 1, source := 0, got := 0, clamped := 0 }) } }
    (.tableBurst 0 words)

/-- A gateway of a mode at a level, whose run count has come to `n`. -/
def gated (mode : GateMode) (high : Bool) (n : Nat) : State :=
  work.setGate 15 { Gateway.reset with cfg := { GateCfg.default with mode }, high, run := n }

/-- A notice. -/
def note : Notice := { body := .pageOpened, page := none }

/-- What holds in the state that a command answers. -/
def after (c : Instr) (s : State) (p : State → Bool) : Bool :=
  match exec c s with
  | .next t => p t
  | .fault _ => false
  | .refused _ => false

/-! ## Well-formedness: every check refuses an ill-formed term -/

theorem test_wf_refuses_each_ill_formed_term :
    (Instr.hardReset .powerOn (some (List.replicate 1025 0))).wf = false ∧
      (Instr.captureEnd []).wf = false ∧ (Instr.lineReceived []).wf = false ∧
        (Instr.malformedFrame 0).wf = false ∧ (Instr.unsolicitedFrame 0).wf = false ∧
          (Instr.frameCutShortEnd 0).wf = false ∧ (Instr.dozeEntry 256).wf = false := by
  decide +kernel

theorem test_wf_takes_each_at_its_bound :
    (Instr.hardReset .powerOn (some (List.replicate 1024 0))).wf = true ∧
      (Instr.captureEnd (List.replicate 1728 0)).wf = true ∧
        (Instr.lineReceived (List.replicate 216 0)).wf = true ∧
          (Instr.malformedFrame 1).wf = true ∧ (Instr.dozeEntry 255).wf = true ∧
            (Instr.probe true 0).wf = true := by
  decide +kernel

/-- No word spells a command, the table giving no row a bit. -/
theorem test_no_word_spells_a_command : decodeTableWord 16 0 = none := rfl

/-! ## The book's worked figures -/

/-- 11 R195: a START CHAIN record of channel 3 at 0x123450, field by field. -/
theorem test_record_fields :
    let bs := record 1 [3, 0x3450, 0x12]
    bs.length = 16 ∧ cmdKind bs = 1 ∧ cmdTag bs = 0xA5 ∧ wordAt bs 4 = 3 ∧
      dwordAt bs 6 = 0x123450 := by decide

/-- 02 R40: a LINES entry of 100 lines with a trailing edge of line 5 going HIGH and a tail of 7. -/
theorem test_entry_decode :
    Entry.decode (le16 3 ++ le16 100 ++ le16 0x0503 ++ le16 7 ++ List.replicate 8 0) =
      .lines 100 (some { line := 5, high := true, tail := 7 }) 0 := by decide

/-- 11 R195: the clamps of the entries' fields, and the kinds that are no entry. -/
theorem test_entry_clamps :
    let bs := fun ws : List Nat => ws.flatMap le16
    Entry.decode (bs [1, 5, 0, 0, 0, 0, 0, 0]) = .openWrite true false true 65535 ∧
      Entry.decode (bs [2, 3, 9, 200, 63, 0, 0, 0]) = .openRead true true false 9 200 64 ∧
      Entry.decode (bs [2, 4, 9, 200, 1025, 0, 0, 0]) = .openRead false false true 9 200 1024 ∧
      Entry.decode (bs [3, 7, 0xFF02, 3, 0x1FF, 0, 0, 0]) = .lines 7 none 255 ∧
      Entry.decode (bs [4, 1, 1, 2, 0x180, 0, 0, 0]) = .setProcessing true true 2 128 ∧
      Entry.decode (bs [5, 0, 7, 90, 0, 0, 0, 0]) = .linkMotor 1 3 90 ∧
      Entry.decode (bs [5, 9, 4, 1, 0, 0, 0, 0]) = .linkMotor 8 0 1 ∧
      Entry.decode (bs [7, 31, 1, 0, 0, 0, 0, 0]) = .waitLine 15 true 1 ∧
      Entry.decode (bs [9, 0xFFFF, 0, 0, 0, 0, 0, 0]) = .mark 0xFFFF ∧
      Entry.decode (bs [12, 0, 0, 0, 0, 0, 0, 0]) = .unknown := by decide

/-- 01 R1: the default geometry is one that can be put in force. -/
theorem test_default_geometry : Geometry.default.valid = true := by decide

/-- 06 R111: a position wraps at both ends of 24 bits. -/
theorem test_position_wraps :
    stepPosition 8388607 .forward = -8388608 ∧ stepPosition (-8388608) .reverse = 8388607 ∧
      stepPhase 8 7 .forward = 0 ∧ stepPhase 4 0 .reverse = 3 := by decide

/-! ## Witnesses: the queue, the invariants, the choices -/

theorem test_witness_front :
    { State.reset with pending := [.hostRelease] }.pending = .hostRelease :: [] ∧
      State.reset.pending = [] := ⟨rfl, rfl⟩

/-- A step of each invariant's state: a host word is written with r and the print queue at their bounds. -/
def bounded : State :=
  { busy work .hostWord with
    mem := [(0x200, 1)]
    page := { work.page with r := 32 }
    print := { work.print with queue := List.replicate 16 copy }
    recUnit := { work.recUnit with consumer := 63, producer := 63 }
    host := { work.host with
      producer := 63, consumer := 63
      cycle := some { addr := 0x200, write := some 0x1234, asked := true } }
    pending := [.hostWordServed] }

theorem test_witness_invariants :
    MemoryOk bounded ∧ ReservationOk bounded ∧ QueueOk bounded ∧ IndicesOk bounded ∧
      (∃ t, step bounded = .next t) ∧ ∃ t, exec .hostWordServed bounded = .next t := by
  refine ⟨?_, ?_, ?_, ?_, runIf_next _ _ _, runIf_next _ _ _⟩
  · unfold MemoryOk; decide
  · unfold ReservationOk; decide
  · unfold QueueOk; decide
  · unfold IndicesOk; decide

theorem asleep_work : AsleepBeforeReady work := fun h => absurd rfl h

/-- The premise of the invariants holds at reset and with a host cycle held, where PROBE runs, and after READY. -/
theorem test_witness_asleep :
    (let s := { State.reset with host := { State.reset.host with
        cycle := some { addr := 0x200, write := none, asked := false } } }
     AsleepBeforeReady s ∧ IndicesOk s ∧ PagesOk s ∧ s.boot.stage = .reset) ∧
      AsleepBeforeReady bounded ∧ IndicesOk bounded := by
  refine ⟨⟨fun _ => ⟨rfl, rfl, rfl, rfl, rfl, ?_, rfl, rfl, rfl, rfl, rfl, rfl, rfl⟩, ?_,
    ⟨by unfold Conserved; decide, by unfold EmptySlotsOk; decide, ?_, ?_⟩, rfl⟩,
    fun h => absurd rfl h, ?_⟩
  · intro ch
    cases ch <;> rfl
  · unfold IndicesOk; decide
  · intro ch _ ref h
    cases ch <;> cases h
  · intro ch _
    cases ch <;> decide
  · unfold IndicesOk; decide

/-- A page that holds band 0, the other bands FREE. -/
def oneBand : State :=
  let s := work.setSlot 0 { filling .scan 1 with chain := [0], assigned := 1, stored := 1 }
  { s with page := { s.page with free := (List.range 31).map (· + 1) } }

theorem test_witness_conserved : Conserved work ∧ Conserved oneBand := by
  unfold Conserved; decide

/-- PagesOk holds after start-up, and in a state with a page being written. -/
theorem test_witness_pages :
    PagesOk work ∧ PagesOk (opened oneBand .scan 0 1) ∧ ∃ t, exec .refreshDue work = .next t := by
  refine ⟨⟨by unfold Conserved; decide, by unfold EmptySlotsOk; decide, ?_, ?_⟩,
    ⟨by unfold Conserved; decide, by unfold EmptySlotsOk; decide, ?_, ?_⟩, runIf_next _ _ _⟩
  · intro ch _ ref h
    cases ch <;> cases h
  · intro ch _
    cases ch <;> decide
  · intro ch _ ref h
    cases ch <;> cases h
    decide
  · intro ch _
    cases ch <;> decide

theorem test_witness_report_slots :
    ({ work with recUnit := { work.recUnit with writing := some ⟨.event, []⟩ } }
        ).recUnit.writing.isSome = true ∧
      (let s := { work with host := { work.host with consumer := 1 } }
       (s.recUnit.producer + 1) % s.page.geo.repSize = s.host.consumer) ∧
      (let s := { work with host := { work.host with consumer := 0 }
                            recUnit := { work.recUnit with producer := 62 } }
       (s.recUnit.producer + 1) % s.page.geo.repSize ≠ s.host.consumer) ∧
      (let s := work.refuse .badKind
       s.recUnit.writing = none ∧ s.recUnit.state = .completing ∧
         s.recUnit.completion.isSome = true) ∧
      (let s := work.notify .codeIn note
       s.recUnit.state ≠ .completing ∧ (s.chan .codeIn).notices = [note] ∧
         (s.chan .scan).notices = [] ∧ (s.chan .print).notices = [] ∧
           (s.chan .codeOut).notices = []) := by decide

theorem test_witness_events :
    ((work.raise 17 .done (.word 0)).raise 16 .done (.word 0)).chosenSource = some 16 ∧
      (let s := { work with sensor := { work.sensor with threshold := 4 } }.raise 16 .done (.word 0)
       s.chosenSource = none ∧ (s.source 16).entry.isSome = true) ∧
      (work.source 15).priority = 0 ∧ (work.source 16).priority ≠ 0 ∧
        (work.source 16).entry = none ∧
          ((work.raise 16 .done (.word 0)).source 16).entry ≠ none := by decide

theorem test_witness_event_slot :
    (let s := work.raise 3 .active (.level true) |>.raise 16 .done (.word 0)
     s.recUnit.writing = none ∧ s.recUnit.completion = none ∧ s.noticeChannel = none ∧
       (s.recUnit.producer + 1) % s.page.geo.repSize ≠ s.host.consumer ∧
       s.boot.stage = .ready ∧ s.power.state = .run ∧ s.chosenSource = some 16 ∧
       (s.source 16).entry.isSome = true) ∧
      (let s := (gated .levelHigh true 0).setSource 15 { priority := 1, entry := none }
       let t := s.raise 15 .active (.level true)
       t.chosenSource = some 15 ∧ (t.gate 15).cfg.mode = .levelHigh) ∧
      work.chosenSource = none ∧ State.reset.boot.stage ≠ .ready := by decide

theorem test_witness_governor :
    (let s := work.setMotor .m2 (running 0 2)
     0 + 1 < (s.motor .m2).run.length ∧ s.allows .m2 1 = true) ∧
      (let s := work.setMotor .m2 (running 1 5)
       ¬(1 + 1 < (s.motor .m2).run.length ∧ s.allows .m2 2 = true) ∧ s.allows .m2 1 = true) ∧
      (let s := work.setMotor .m2 (running 1 1)
       ¬(1 + 1 < (s.motor .m2).run.length ∧ s.allows .m2 2 = true) ∧ s.allows .m2 1 = false) ∧
      (let s := work.setMotor .m2 (running 0 0)
       ¬(0 + 1 < (s.motor .m2).run.length ∧ s.allows .m2 1 = true) ∧ s.allows .m2 0 = false) ∧
      (work.setMotor .m2 { running 0 1 with state := .hold, committed := none }).allows .m2 0 = true ∧
        work.allows .m2 0 = false := by decide

/-- Scan in a LINES entry of 100 lines on a page with `n` lines assigned. -/
def scanning (n : Nat) : State :=
  let s := work.setSlot 0 { filling .scan 1 with assigned := n, stored := n }
  s.setChan .scan
    { Chan.reset with
      state := .running, phase := .begun, remaining := 2, openPage := some ⟨0, 1⟩
      current := some { addr := 0, entry := .lines 100 none 0 } }

/-- The shapes of what the constraints allow: no link, Scan's and Print's link with and without a page, a burn cap
and a host move, the lines a window can offer, the slots a chain's last band has left. -/
theorem test_witness_allowed :
    ((running 0 2).link = none ∧ (running 0 2).moving = true ∧
        (work.setMotor .m2 (running 0 2)).allows .m2 1 = true) ∧
      (let s := (scanning 1).setMotor .m0 { linked Motor.reset with group := 0 }
       s.allows .m0 0 = true ∧ (s.motor .m0).link.isSome = true ∧ (s.motor .m0).moving = false ∧
         (s.chan .scan).windowCount = 2 ∧ s.slotsLeft 0 = 0) ∧
      (work.setMotor .m0 (linked (running 0 0))).allows .m0 0 = false ∧
      (let s := (scanning 1).setMotor .m0 { linked (running 0 2) with budget := some 1 }
       s.allows .m0 0 = true ∧ s.allows .m0 1 = false) ∧
      (∀ c ∈ [some 0, none],
        let s := { work with print := { work.print with
          queue := [{ copy with cap := c }, { copy with cap := some 1 }] } }.setMotor .m1
            (linked (running 0 2))
        s.allows .m1 0 = c.isSome) ∧
      (work.setMotor .m2 (linked Motor.reset)).allows .m2 0 = false ∧
      (let c := (scanning 1).chan .scan
       c.inLines = true ∧ c.edge = none ∧
         { c with next := some { addr := 16, entry := .lines 7 none 0 } }.windowCount = 9 ∧
         { c with edge := some 0, next := some { addr := 16, entry := .lines 7 none 0 } }.windowCount
           = 2 ∧ Chan.reset.inLines = false) ∧
      ((oneBand.slot 0).chain = [] ++ [0] ∧ (work.slot 0).chain = []) ∧
      (let s := work.setMotor .m2 { running 0 1 with state := .off, committed := none }
       (s.motor .m2).moving = false ∧ s.allows .m2 0 = true) := by decide

/-! ## Witnesses: the arithmetic of the paths -/

theorem test_witness_shading :
    (12 : Nat) ≤ 12 ∧ (12 : Nat) < 13 ∧ (255 : Nat) ≤ 255 ∧
      (List.replicate 1728 (255 : Byte))[1727]? = some 255 ∧
        work.scan.shadingA[1727]? = some (0, 256) ∧
          work.scan.toneA[shade 255 (0, 256)]? = some 255 := by
  decide +kernel

theorem test_witness_conversion :
    Selection.reset.diffuse = false ∧ { Selection.reset with diffuse := true }.diffuse = true ∧
      [127, 128][1]? = some 128 ∧ (∀ t ∈ [0, 255], t ≤ 255) ∧
        ((78 : Nat) : Int) + 50 = 128 ∧ ((77 : Nat) : Int) + 50 < 128 ∧
          ((255 : Nat) : Int) + 127 = 382 ∧ ((0 : Nat) : Int) + -128 = -128 := by decide

theorem test_witness_phases :
    (432 + 0 + 0 + 0 : Nat) ≤ 432 ∧ (432 : Nat) < 216 + 216 + 216 + 216 ∧
      (216 + 216 : Nat) ≤ 432 ∧ ¬((217 + 216 : Nat) ≤ 432 ∧ (0 : Nat) ≤ 432) ∧
        (431 : Nat) < 432 ∧ phasesOf 432 ⟨432, 0, 0, 0⟩ = 1 ∧
          phasesOf 432 ⟨216, 216, 216, 216⟩ = 2 ∧ phasesOf 432 ⟨217, 216, 0, 0⟩ = 4 ∧
            phasesOf 431 ⟨0, 0, 432, 0⟩ = 4 := by decide

/-! ## Witnesses: start-up -/

/-- An image of one RAMP section: ramp 0 of two intervals. -/
def image : List Word := [0xE416, 9, 7, 0x0304, 0, 2, 5000, 4000, 0xF5AC]

theorem test_witness_start_up :
    (∀ r, (none : Option (List Word)) = some r → r.length ≤ 1024) ∧ image.length ≤ 1024 ∧
      State.reset.boot.stage = .reset ∧
      (let s := { work with boot := { work.boot with stage := .probe }, eeprom := [] }
       s.boot.stage = .probe ∧ s.eeprom.getD 0 0xFFFF = 0xFFFF) ∧
      (let s := { work with boot := { work.boot with stage := .load }, eeprom := image }
       s.boot.stage = .load ∧ s.eeprom.getD 0 0xFFFF ≠ 0xFFFF) ∧
      { work.boot with ready := .release }.ready = .release := by
  refine ⟨by simp, by decide, rfl, by decide, by decide, rfl⟩

/-- A configuration with three LEVEL_HIGH gateways that halt motors 0 and 2 and pause Scan and Print. -/
def covers : Sections :=
  { Sections.empty with
    gateways := some (List.replicate 3
      { mode := .levelHigh, debounce := 3, haltSet := 5, haltMode := .immediate, pauseSet := 3
        wake := true })
    priorities := some (List.replicate 24 2)
    constants := some { Constants.default with lowMark := 3, hold1 := (7, false) }
    phase1 := some { patterns := [1, 2, 3, 4, 5, 6, 7, 8], length := 8 }
    ramp2 := some [9, 8] }

/-- The part is brought up under the default configuration, and under one whose lines 1 and 2 are active. -/
theorem test_witness_brought_up :
    ∀ c ∈ [Sections.empty, covers],
      BroughtUp c 6 State.reset.boot State.reset (State.reset.bringUp c 6) := by
  intro c hc
  have h : c = Sections.empty ∨ c = covers := by simpa using hc
  rcases h with rfl | rfl <;>
    refine ⟨by decide +kernel, by decide +kernel, by decide +kernel, by decide +kernel,
      by decide +kernel, by decide +kernel, ?_, by decide +kernel, by decide +kernel,
      by decide +kernel, by decide +kernel, by decide +kernel, fun _ => ⟨?_, ?_,
        by decide +kernel, by decide +kernel, by decide +kernel, by decide +kernel⟩,
      fun _ => by decide +kernel, by decide +kernel, by decide +kernel, by decide +kernel⟩ <;>
    intro m <;> cases m <;> decide +kernel

theorem test_witness_readings :
    (readImage image startBands).status = .valid ∧
      (readImage image startBands).sections.ramp 0 = some [5000, 4000] ∧
        (readImage (image.set 8 0) startBands).status = .checksum ∧
          (readImage [0xE416, 7] startBands).status = .invalid ∧
            (readImage [] startBands).status = .blank := by decide

/-- The part with the band guard on. -/
def guarded : State :=
  { work with page := { work.page with geo := { work.page.geo with guard := true } } }

/-- 11 R197, 09 R167: a section of each kind is taken up with its clamps counted, and refused by its checks. -/
theorem test_witness_sections :
    (let ws := [0, 16, 0, 0, 64, 0x400, 0, 64, 0x800, 0, 0, 8, 32, 1]
     (Sections.empty.add 1 ws).bind (fun c => c.geometry) = some guarded.page.geo ∧
       Sections.empty.add 1 (ws.set 4 63) = none ∧ Sections.empty.add 1 (ws.drop 1) = none) ∧
      (let c := Sections.empty.add 2 [100, 1728, 0, 33, 0x8032, 50, 7]
       c.map (fun d => d.clamped) = some 2 ∧
         (c.map fun d => (d.clampMark 32).clamped) = some 3 ∧
         c.bind (fun d => d.constants) =
           some { tLine := 125, dmax := 1728, drainLimit := 1, lowMark := 33, hold0 := (50, true)
                  hold1 := (50, false), hold2 := (7, false) }) ∧
      (let c := Sections.empty.add 3 [3, 2, 40000, 24]
       c.bind (fun d => d.ramp 3) = some [32767, 25] ∧ c.map (fun d => d.clamped) = some 2 ∧
         c.bind (fun d => d.add 3 [3, 2, 40, 24]) = none ∧ Sections.empty.add 3 [3, 2, 24, 26] = none ∧
         Sections.empty.add 3 [4, 2, 40, 24] = none ∧ Sections.empty.add 3 [3, 3, 40, 24] = none ∧
         Sections.empty.add 3 [3, 1, 40] = none) ∧
      (let ws := [2, 4, 0x13, 6, 12, 9, 0, 0, 0, 0]
       (Sections.empty.add 4 ws).bind (fun d => d.phase .m2) =
           some { patterns := [3, 6, 12, 9, 0, 0, 0, 0], length := 4 } ∧
         (Sections.empty.add 4 ws).map (fun d => d.clamped) = some 1 ∧
         Sections.empty.add 4 (ws.set 0 3) = none ∧ Sections.empty.add 4 (ws.set 1 5) = none) ∧
      (Sections.empty.add 5 [49, 50, 500, 500, 500, 500, 4000, 4001]).map (fun d => (d.strobe, d.clamped)) =
        some (some [50, 50, 500, 500, 500, 500, 4000, 4000], 2) ∧
      Sections.empty.add 5 [] = none ∧
      (let ws := 0x8F04 :: 0xF :: (List.replicate 15 [0x12, 0]).flatten
       (Sections.empty.add 6 ws).map (fun d => d.clamped) = some 1 ∧
         (Sections.empty.add 6 ws).bind (fun d => d.gateways.bind fun gs => gs[0]?) =
           some { mode := .levelLow, debounce := 1, haltSet := 7, haltMode := .immediate
                  pauseSet := 15, wake := true } ∧
         Sections.empty.add 6 (ws.set 30 5) = none ∧ Sections.empty.add 6 (ws.drop 2) = none) ∧
      (Sections.empty.add 7 (8 :: List.replicate 23 7)).map (fun d => (d.priorities, d.clamped)) =
        some (some (List.replicate 24 7), 1) ∧
      Sections.empty.add 7 [1] = none ∧ Sections.empty.add 0 [] = none ∧ Sections.empty.add 8 [] = none ∧
      (parseSections 9 [0x0304, 0, 2, 5000] Sections.empty = none ∧
        parseSections 9 [0x0304, 0, 2, 50, 40, 0x0304, 1, 2, 60, 50] Sections.empty ≠ none) := by
  decide +kernel

/-! ## Witnesses: host port, DRAM port, records -/

theorem test_witness_host_port :
    work.boot.ready = .released ∧ State.reset.boot.ready ≠ .released ∧ work.boot.stage = .ready ∧
      work.host.cycle = none ∧ work.port.mode = .running ∧ State.reset.port.mode ≠ .running ∧
      work.page.geo.dramSize ≤ 2 * (0x80000 : BitVec 21).toNat ∧
      2 * (0x7FFFF : BitVec 21).toNat < guarded.page.geo.dramSize ∧
      guarded.page.geo.guard = true ∧ guarded.host.cycle = none ∧ guarded.port.mode = .running ∧
      guarded.page.geo.inBands (2 * (0x40000 : BitVec 21).toNat) = true ∧
      guarded.page.geo.inBands (2 * (0x3FFFF : BitVec 21).toNat) = false ∧
      work.page.geo.guard = false := by decide

theorem test_witness_dram_port :
    MemoryOk bounded ∧ bounded.port.busy = some .hostWord ∧
      bounded.host.cycle = some { addr := 0x200, write := some 0x1234, asked := true } ∧
      (let s := { bounded with host := { bounded.host with
          cycle := some { addr := 0xFFFFE, write := none, asked := true } } }
       s.port.busy = some .hostWord ∧ s.host.cycle.isSome = true) ∧
      work.port.mode = .running ∧ work.port.refreshDue = false ∧
      (busy work .refresh).port.busy = some .refresh := by
  unfold MemoryOk; decide

theorem test_witness_arbiter :
    (let s := work.setChan .print
        { Chan.reset with fetch := some { addr := 0x10000, asCurrent := true, viaJump := false } }
     s.port.refreshDue = false ∧ s.print.queue.length < 2 ∧
       s.chanWants .print = some (.entryFetch .print)) ∧
      { work.port with refreshDue := true }.refreshDue = true ∧ work.chanWants .print = none ∧
      bounded.hostWaits = true ∧ work.hostWaits = false ∧ 2 ≤ bounded.print.queue.length ∧
      (let s := work.startWriting .event []
       rotationAfter s.port.rotation =
           [] ++ .recUnit :: [.chan .scan, .chan .print, .chan .codeOut, .chan .codeIn, .loader] ∧
         s.wants .recUnit = some .reportWrite) ∧
      (work.port.mode = .running ∧ work.port.busy = none ∧ work.port.suspended = none) ∧
      { work.port with suspended := some (.lineRead .print 0) }.suspended =
        some (.lineRead .print 0) ∧
      (busy work (.lineRead .print 0)).port.busy = some (.lineRead .print 0) ∧
      (Job.lineRead .print 0).burstWords = some 128 ∧ Job.refresh.burstWords = none ∧
      (State.reset.port.mode ≠ .running ∧ State.reset.port.mode ≠ .entering) ∧
      work.wants .recUnit = none ∧ work.wants (.chan .scan) = none ∧ work.wants .loader = none := by
  decide

/-- A page query under way. -/
def querying (second : Bool) : State :=
  busy
    { work with recUnit :=
        { RecordUnit.reset with
          state := .executing
          work := some (.query
            { dest := 0x10000, data := queryBytes 15 Page.reset, result := [0, 32, 0], second }) } }
    (.queryWrite second)

/-- A store operation of one word of two. -/
def storing (p : StorePhase) : StoreOp :=
  { addr := 1022, count := 2, source := 0x10000, next := 0, words := [7, 8], phase := p }

/-- A line buffer in a state, with its page. -/
def buffered (b : BufId) (st : BufState) : State :=
  work.setBuf b { LineBuf.reset with state := st, dots := List.replicate 216 0 }

/-- A reader at a line of a page, in its LINES entry. -/
def reading (ch : Channel) (p : Page) (n : Nat) : State :=
  (work.setSlot 0 p).setChan ch
    { Chan.reset with
      state := .running, phase := .begun, remaining := 2, openPage := some ⟨0, 1⟩, position := n
      current := some { addr := 0, entry := .lines 100 none 0 } }

/-- What the record unit, the loader and the channels ask for, one state for each line of the statement. -/
theorem test_witness_wants :
    (let u := fun st : RecState => { work with recUnit := { work.recUnit with state := st } }
     work.recUnit.writing = none ∧ work.recUnit.producerAsk = false ∧
       work.boot.ready ≠ .consumerWord ∧ (u .fetching).recUnitWants = some .commandFetch ∧
       (u .advancing).recUnitWants = some (.consumerWord 0) ∧
       (u .executing).recUnitWants = none ∧ work.recUnit.state = .waiting ∧
       (u .completing).recUnitWants = none ∧
       (work.startWriting .event []).recUnitWants = some .reportWrite ∧
       { work with recUnit := { work.recUnit with producerAsk := true } }.recUnitWants =
         some (.producerWord 0) ∧
       { work with boot := { work.boot with ready := .consumerWord } }.recUnitWants =
         some (.consumerWord 0)) ∧
      (querying true).recUnitWants = some (.queryWrite true) ∧
      (loading (.shading false) 2).loaderWants = some (.tableBurst 0 2) ∧
      (loading .strobe 1).loaderWants = some (.tableBurst 0 1) ∧
      (work.setStore (some (storing .source))).loaderWants = some (.storeBurst 0x10000 2) ∧
      (work.setStore (some (storing .waiting))).loaderWants = none ∧
      (let f : Fetch := { addr := 0x10000, asCurrent := false, viaJump := false }
       let s := reading .print { complete 1 with chain := [5], stored := 1 } 1
       let r := s.setChan .print { s.chan .print with reading := true, fetch := some f }
       r.lineJob .print = some (.lineRead .print 0x94000) ∧ (r.chan .print).fetch = some f ∧
         s.lineJob .print = none ∧ (s.chan .print).fetch = none ∧
         (s.setChan .print { s.chan .print with fetch := some f }).chanWants .print =
           some (.entryFetch .print)) ∧
      (∀ b ∈ [BufId.bufA, .bufB], ((buffered b .ready).buf b).state = .ready ∧
        ((buffered b .ready).buf b.other).state = .free ∧
        (buffered b .ready).lineJob .scan = some (.scanWrite b ((buffered b .ready).buf b).addr) ∧
        ((buffered b .ready).grant (.scanWrite b 0)).port.busy = some (.scanWrite b 0)) ∧
      work.lineJob .scan = none ∧
      (let s := reading .codeIn { filling .codeIn 1 with chain := [31] } 1
       let r := { s with coder := { s.coder with recv := .storing } }.setChan .codeIn
         { s.chan .codeIn with held := some 64 }
       r.lineJob .codeIn = some (.codeInWrite (0x80000 + 16384 * 31 + 256 * 63)) ∧
         s.lineJob .codeIn = none) := by decide

/-- 08 R163: with requests waiting from before the wake, the grants of the index words leave them served. -/
theorem test_witness_backlog :
    let s := { work with
      port := { work.port with backlog := true }
      recUnit := { work.recUnit with producerAsk := true, state := .advancing } }
    s.port.backlog = true ∧ work.port.backlog = false ∧
      (s.grant (.producerWord 0)).port.backlog = true ∧
        (s.grant (.consumerWord 0)).port.backlog = false ∧
          (s.grant .hostWord).port.backlog = true := by decide

/-- Print's burst with a host word that waited when it was granted, and with one that came in it. -/
def bursting (held : Bool) : State :=
  let s := busy work (.lineRead .print 0x80000)
  { s with
    port := { s.port with hostHeld := held }
    host := { s.host with cycle := some { addr := 0x200, write := none, asked := true } } }

/-- 01 R23: a host word that waited at the grant does not suspend the burst; one that came in it does. -/
theorem test_held_word_waits :
    (bursting true).hostWaits = true ∧ (bursting true).port.hostHeld = true ∧
      (bursting true).arbitrate = bursting true ∧
      (bursting false).arbitrate.port.busy = some .hostWord ∧
      ((bursting false).grant (.lineRead .print 0x80000)).port.hostHeld = true := by decide +kernel

theorem test_witness_commands :
    (busy work .commandFetch).port.busy = some .commandFetch ∧
      InHand (give work (record 0 [])) 0 (record 0 []) ∧
        InHand (give work (record 21 [])) 21 (record 21 []) ∧
          (give work (record 21 [])).recUnit.command = some (record 21 []) :=
  ⟨rfl, inHand_give _ _ _ (by decide), inHand_give _ _ _ (by decide), rfl⟩

/-- 11 R196: the bytes of a completion, of a CHAIN_FAULT notice and of a halted motor's event. -/
theorem test_record_bytes :
    ({ kind := 0x1234, tag := 7, code := .badTarget, result := [1, 2] } : Completion).bytes =
        [1, 0x34, 7, 0, 3, 0, 0, 0, 1, 0, 2, 0, 0, 0, 0, 0] ∧
      ({ body := .chainFault .pageState 0x123450, page := some ⟨5, 9⟩ } : Notice).bytes .codeOut Chan.reset =
        [2, 2, 8, 0, 5, 9, 6, 0, 0x50, 0x34, 0x12, 0, 0, 0, 0, 0] ∧
      eventBytes 17 4 { kind := .halted, data := .motor (-2) (.halt (.line 15)), repeated := true } =
        [3, 17, 5, 0, 4, 1, 0xFE, 0xFF, 0xFF, 0xFF, 3, 15, 0, 0, 0, 0] := by decide

/-- 11 R196 (log 62): a PAUSED notice shows the entry and the lines remaining that its channel has at the grant. -/
theorem test_paused_shows_the_grant :
    (let c := { Chan.reset with entryAddr := 0x123450, remaining := 7 }
     let n : Notice := { body := .paused (.line 3), page := none }
     n.bytes .print c = [2, 1, 6, 0, 255, 255, 3, 0, 0x50, 0x34, 0x12, 0, 7, 0, 0, 0] ∧
       (n.bytes .print { c with remaining := 6 })[12]? = some 6) := by decide

/-- 11 section 11.6: the copy of a consume page that Print reads. -/
theorem test_query_bytes :
    queryBytes 3 { filling .codeIn 200 with
        consume := true, readPrint := true, limit := 1000, assigned := 70, stored := 69, freed := 64
        chain := [4, 31] } =
      [1, 200, 3, 3, 2, 0, 0xE8, 3, 70, 0, 69, 0, 64, 0, 0, 0, 4, 31, 2, 0, 3, 0] ++
        List.replicate 10 0 ∧
      (complete 1).chain = [] ∧ (complete 1).writer = none ∧ (filling .scan 1).writer = some .scan ∧
        [4, 31].head? = some 4 ∧ [4, 31].getLast? = some 31 := by decide

/-- A report in writing. -/
def reporting (who : Producer) : State :=
  busy
    { work with recUnit :=
        { RecordUnit.reset with
          producer := 63, writing := some ⟨who, List.replicate 16 0x5A⟩ } }
    .reportWrite

theorem test_witness_reports :
    (∀ who ∈ [Producer.completion, .event, .notice .print true, .notice .codeIn false, .boot],
      MemoryOk (reporting who) ∧ (reporting who).port.busy = some .reportWrite ∧
        (reporting who).recUnit.writing = some ⟨who, List.replicate 16 0x5A⟩) ∧
      (List.replicate 16 (0x5A : Byte)).length = 16 ∧
      (busy work (.producerWord 63)).port.busy = some (.producerWord 63) ∧
      (busy work (.consumerWord 63)).port.busy = some (.consumerWord 63) ∧ MemoryOk work ∧
      work.boot.ready ≠ .consumerWord ∧
      { work.boot with ready := .consumerWord }.ready = .consumerWord ∧
      (let c := { Chan.reset with notices := [note, note] }
       { c with notices := c.notices.drop 1 }.notices ≠ []) ∧
      (let c := { Chan.reset with notices := [note], phase := .ending }
       c.notices.drop 1 = [] ∧ c.phase = .ending ∧ c.atLines = false ∧
         Chan.reset.phase ≠ .ending) := by
  unfold MemoryOk; decide

theorem test_witness_page_query :
    (let bs := record 10 [15, 0, 0, 1]
     InHand (give work bs) 10 bs ∧ wordAt bs 4 = (15 : Fin 16).val ∧ wordAt bs 6 = 0 ∧
       (give work bs).page.geo.goodSource (dwordAt bs 8) 32 = true) ∧
      (let bs := record 10 [0, 255, 0xFFE0, 7]
       let s := give (work.setSlot 0 (complete 255)) bs
       InHand s 10 bs ∧ wordAt bs 4 = (0 : Fin 16).val ∧ (s.slot 0).state ≠ .empty ∧
         (s.slot 0).gen = wordAt bs 6 ∧ s.page.geo.goodSource (dwordAt bs 8) 32 = true) ∧
      (let bs := record 10 [16]
       InHand (give work bs) 10 bs ∧ 15 < wordAt bs 4) ∧
      (let bs := record 10 [0, 1, 0, 1]
       let t := give (work.setSlot 0 (complete 2)) bs
       InHand t 10 bs ∧ wordAt bs 4 = (0 : Fin 16).val ∧ wordAt bs 6 ≠ 0 ∧
         (give work bs).page.geo.goodSource (dwordAt bs 8) 32 = true ∧
         ((give work bs).slot 0).state = .empty ∧ (t.slot 0).state ≠ .empty ∧
         (t.slot 0).gen ≠ wordAt bs 6) ∧
      (let bs := record 10 [0, 0, 1, 1]
       work.page.geo.goodSource (dwordAt bs 8) 32 = false) ∧
      (queryBytes 15 Page.reset).length = 32 ∧ MemoryOk (querying false) ∧
      (querying false).port.busy = some (.queryWrite false) ∧
      (querying true).port.busy = some (.queryWrite true) ∧
      (querying true).recUnit.work.isSome = true := by
  unfold InHand MemoryOk; decide

/-! ## Witnesses: channel and motor commands -/

theorem test_witness_start_chain :
    (let bs := record 1 [4, 0, 1]
     InHand (give work bs) 1 bs ∧ chanOf (wordAt bs 4) = none) ∧
      (let bs := record 1 [3, 0, 1]
       InHand (give work bs) 1 bs ∧ chanOf (wordAt bs 4) = some .codeIn ∧
         work.power.state ≠ .drain ∧ (powered .drain).power.state = .drain ∧
         (powered .doze).power.state = .doze ∧ ((give work bs).chan .codeIn).state = .idle ∧
         ((chanIn work .codeIn .paused).chan .codeIn).state ≠ .idle ∧
         work.page.geo.goodSource (dwordAt bs 6) 16 = true ∧
         work.page.geo.goodSource (dwordAt bs 6 + 1) 16 = false) := by
  unfold InHand; decide

/-- The channel Print linked to its motor, which runs. -/
def linkedPrint : State := (chanIn work .print .running).setMotor .m1 (linked (running 1 0))

theorem test_witness_stop_channel :
    (let bs := record 2 [1, 0]
     InHand (give work bs) 2 bs ∧ chanOf (wordAt bs 4) = some .print ∧ wordAt bs 6 = 0) ∧
      (let bs := record 2 [0, 1]
       InHand (give work bs) 2 bs ∧ chanOf (wordAt bs 4) = some .scan ∧ wordAt bs 6 = 1) ∧
      (let bs := record 2 [0, 2]
       InHand (give work bs) 2 bs ∧ wordAt bs 6 ≠ 0 ∧ wordAt bs 6 ≠ 1) ∧
      (let bs := record 2 [4, 0]
       InHand (give work bs) 2 bs ∧ 3 < wordAt bs 4 ∧ wordAt bs 6 ≠ 1) ∧
      (let bs := record 2 [4, 1]
       InHand (give work bs) 2 bs ∧ 3 < wordAt bs 4 ∧ wordAt bs 6 ≠ 0) ∧
      (work.chan .print).state = .idle ∧
      ((linkedPrint.chan .print).state ≠ .idle ∧ (linkedPrint.chan .print).state ≠ .paused ∧
        (linkedPrint.chan .print).pauseReq = none ∧ linkedPrint.finalPending .print = false ∧
        (linkedPrint.motor .m1).link.isSome = true) ∧
      (let s := (chanIn work .scan .running).setMotor .m0 (linked (running 1 0))
       (s.chan .scan).state ≠ .idle ∧ s.finalPending .scan = false ∧
         (s.motor .m0).link.isSome = true) := by
  unfold InHand; decide

/-- A channel with a request. -/
def asked (ch : Channel) (r : PauseReq) : State :=
  work.setChan ch { Chan.reset with state := .running, pauseReq := some r }

theorem test_witness_resume_channel :
    (let bs := record 3 [4]
     InHand (give work bs) 3 bs ∧ chanOf (wordAt bs 4) = none) ∧
      (let bs := record 3 [3]
       InHand (give work bs) 3 bs ∧ chanOf (wordAt bs 4) = some .codeIn) ∧
      (∀ r ∈ [some PauseReq.abort, some (.pause .command)],
        ((work.setChan .codeIn { Chan.reset with state := .running, pauseReq := r }).chan
          .codeIn).pauseReq = r) ∧
      ((work.chan .codeIn).pauseReq = none ∧ (work.chan .codeIn).state ≠ .paused) ∧
      ((chanIn work .codeIn .paused).chan .codeIn).pauseReq = none ∧
        ((chanIn work .codeIn .paused).chan .codeIn).state = .paused ∧
      ((asked .scan (.pause .command)).chan .scan).pauseReq.isSome = true ∧
      (running 1 5).committed = some 0 ∧ Motor.reset.committed = none ∧ motorFor .codeIn = none ∧
      motorFor .scan = some .m0 ∧
      (let s := work.setMotor .m0 { linked (running 1 0) with budget := some 1 }
       (s.motor .m0).link.isSome = true ∧ (s.motor .m0).rampPath = none ∧
         ((s.freeBudget .scan).motor .m0).budget = none ∧
         ((s.setMotor .m0 { s.motor .m0 with rampPath := some .command }).freeBudget .scan
           |>.motor .m0).budget = some 1) := by
  unfold InHand; decide

theorem test_witness_motor_move :
    (let bs := record 4 [3, 0, 1]
     InHand (give work bs) 4 bs ∧ motorOf (wordAt bs 4) = none) ∧
      (let bs := record 4 [2, 2, 1]
       InHand (give work bs) 4 bs ∧ motorOf (wordAt bs 4) = some .m2 ∧ 1 < wordAt bs 6) ∧
      (let bs := record 4 [2, 1, 0xFFFF, 0xFF, 3, 1]
       InHand (give work bs) 4 bs ∧ motorOf (wordAt bs 4) = some .m2 ∧
         dirOf (wordAt bs 6) = some .reverse ∧ rampOf (wordAt bs 12) = some 3 ∧
         1 ≤ dwordAt bs 8 ∧ dwordAt bs 8 = 16777215) ∧
      (powered .drain).power.state = .drain ∧
      (let s := work.setMotor .m1 (linked Motor.reset)
       s.power.state ≠ .drain ∧ (s.motor .m1).link.isSome = true) ∧
      (let s := work.setMotor .m2 (running 0 1)
       (s.motor .m2).link = none ∧ (s.motor .m2).moving = true) ∧
      ((work.motor .m2).link = none ∧ (work.motor .m2).moving = false ∧
        (work.motor .m2).halted = none ∧ (work.motor .m2).budget = none) := by
  unfold InHand; decide

theorem test_witness_motor_stop :
    (let bs := record 5 [0, 0]
     InHand (give work bs) 5 bs ∧ motorOf (wordAt bs 4) = some .m0 ∧ wordAt bs 6 = 0) ∧
      (let bs := record 5 [2, 1]
       InHand (give work bs) 5 bs ∧ motorOf (wordAt bs 4) = some .m2 ∧ wordAt bs 6 = 1) ∧
      (linked Motor.reset).link.isSome = true ∧
      ((running 1 5).link = none ∧ (running 1 5).move.isSome = true ∧
        (running 1 5).committed = some 0 ∧ (running 1 5).moving = true ∧
        (running 1 5).halted = none) ∧
      (∀ n ∈ [0, 1], let bs := record 5 [3, n]
        InHand (give work bs) 5 bs ∧ 2 < wordAt bs 4 ∧ wordAt bs 6 = n) ∧
      (let bs := record 5 [2, 2]
       InHand (give work bs) 5 bs ∧ wordAt bs 4 ≤ 2 ∧ 1 < wordAt bs 6) ∧
      (Motor.reset.move = none ∧ Motor.reset.moving = false) := by
  unfold InHand; decide

theorem test_witness_motor_rest :
    (let bs := record 6 [2]
     InHand (give work bs) 6 bs ∧ motorOf (wordAt bs 4) = some .m2) ∧
      (let bs := record 7 [2]
       InHand (give work bs) 7 bs ∧ motorOf (wordAt bs 4) = some .m2) ∧
      (∀ k ∈ [6, 7], InHand (give work (record k [3])) k (record k [3]) ∧
        2 < wordAt (record k [3]) 4) ∧
      (running 0 1).state = .moving ∧ Motor.reset.state = .off ∧
      (let x := Motor.hold (running 0 1) false
       x.state = .hold ∧ x.holdTimer.isSome = true) := by
  unfold InHand; decide

/-- 06 R113, R114: the outputs in OFF, before the first step from OFF, and in HOLD; a halt with a hold time of 0. -/
theorem test_witness_outputs :
    Motor.reset.phaseOut = 0 ∧ { running 0 1 with dark := true }.phaseOut = 0 ∧
      { Motor.reset with state := .hold, phase := 1 }.phaseOut = 6 ∧
      { Motor.reset with state := .hold }.reduced = true ∧ (running 0 1).reduced = false ∧
      (let x := Motor.hold { running 0 1 with holdTime := 0, autoRelease := true } false
       x.state = .off ∧ x.holdTimer = none) := by decide

theorem test_witness_motor_step :
    (let s := work.setMotor .m2 (running 1 1)
     (s.motor .m2).state = .moving ∧ (s.motor .m2).committed = some 0 ∧
       (s.motor .m2).heldStep = false ∧ s.stepHeld .m2 = false) ∧
      (let s := { linkedPrint with print := { linkedPrint.print with queue := [copy] } }
       (s.motor .m1).state = .moving ∧ (s.motor .m1).committed = some 0 ∧
         (s.motor .m1).heldStep = false ∧ s.stepHeld .m1 = true) := by decide

theorem test_witness_decisions :
    (work.motor .m0).link = none ∧
      (let s := opened (work.setMotor .m0 (linked (running 1 0))) .scan 0 1
       (s.motor .m0).link.isSome = true ∧
         (s.afterDecision .m0 (some 1)).page.r = 1) ∧
      { running 0 0 with rampPath := some .command }.rampPath.isSome = true ∧
      ((running 0 0).rampPath = none ∧ (running 0 0).move.isSome = true) ∧
      Motor.reset.move = none := by decide

/-! ## Witnesses: tables, pages, gateways -/

theorem test_witness_load_table :
    (let bs := record 8 [0, 1727, 2]
     InHand (give work bs) 8 bs ∧ tableOf (wordAt bs 4) = some (.shading false) ∧
       (Table.shading false).rangeOk (wordAt bs 6) (wordAt bs 8) = false) ∧
      (let bs := record 8 [11, 0, 8, 8, 1]
       InHand (give work bs) 8 bs ∧ tableOf (wordAt bs 4) = some (.phase .m2) ∧
         (Table.phase .m2).rangeOk (wordAt bs 6) (wordAt bs 8) = true ∧
         work.page.geo.goodSource (dwordAt bs 10) (2 * (Table.phase .m2).entryWords * wordAt bs 8)
           = false) ∧
      (let bs := record 8 [0, 1727, 1, 0, 1]
       let s := chanIn work .scan .running
       InHand (give s bs) 8 bs ∧ tableOf (wordAt bs 4) = some (.shading false) ∧
         (Table.shading false).rangeOk (wordAt bs 6) (wordAt bs 8) = true ∧
         s.page.geo.goodSource (dwordAt bs 10)
           (2 * (Table.shading false).entryWords * wordAt bs 8) = true ∧
         (let bs := record 8 [12]; InHand (give work bs) 8 bs ∧ 11 < wordAt bs 4) ∧
         (give s bs).tableBusy (.shading false) = true ∧
         (give work bs).tableBusy (.shading false) = false) ∧
      (∀ b ∈ [BufId.bufA, .bufB], (buffered b .ready).tableBusy (.tone false) = true ∧
        (buffered b .ready).tableBusy (.tone true) = false) ∧
      (let s := work.setMotor .m2 (running 0 1)
       s.tableBusy (.ramp 0) = true ∧ s.tableBusy (.ramp 1) = false ∧
         s.tableBusy (.phase .m2) = true ∧ s.tableBusy (.phase .m0) = false) ∧
      (let s := work.setMotor .m0 { linked (running 0 1) with move := none }
       s.tableBusy (.ramp 0) = true ∧ (s.motor .m0).state = .moving) := by
  unfold InHand; decide

theorem test_witness_table_bursts :
    (∀ t ∈ [Table.shading true, .tone false, .strobe, .ramp 3, .phase .m1],
      (loading t 2).port.busy = some (.tableBurst 0 2) ∧ (loading t 2).port.done = 0 ∧
        (loading t 2).port.partialData = [] ∧
        (loading t 2).recUnit.work = some (.load
          { table := t, first := 0, count := 1, source := 0, got := 0, clamped := 0 })) ∧
      (let s := await (loading (.shading true) 2) .scan .table (.setProcessing true false 1 255)
       AtWait s .scan .table (.setProcessing true false 1 255) ∧
         s.port.busy = some (.tableBurst 0 2)) ∧
      (work.chan .scan).state ≠ .waiting .table ∧
      firstRise 0 [100, 50, 60] = some 2 ∧ firstRise 0 [100, 50, 50] = none ∧
      ((work.setMotor .m1 (linked Motor.reset)).motor .m1).link.isSome = true ∧
      { linkedPrint.print with queue := [copy] }.queue[0]? = some copy ∧ copy.ended = false :=
  ⟨by decide, ⟨atWait_await _ _ _ _, rfl⟩, by decide, by decide, by decide, by decide, by decide,
    by decide⟩

theorem test_witness_small_values :
    InHand (give work (record 9 [0xFFFF])) 9 (record 9 [0xFFFF]) ∧
      (let bs := record 13 [24, 0]
       InHand (give work bs) 13 bs ∧ 23 < wordAt bs 4) ∧
      (let bs := record 13 [23, 8]
       InHand (give work bs) 13 bs ∧ wordAt bs 4 = (23 : Fin 24).val) ∧
      InHand (give work (record 14 [7])) 14 (record 14 [7]) := by
  unfold InHand; decide

theorem test_witness_page_release :
    (let bs := record 11 [16, 1]
     InHand (give work bs) 11 bs ∧ 15 < wordAt bs 4) ∧
      (let bs := record 11 [15, 1]
       let s := work.setSlot 15 (complete 1)
       let r := work.setSlot 15 { complete 1 with readPrint := true }
       InHand (give s bs) 11 bs ∧ wordAt bs 4 = (15 : Fin 16).val ∧
         ((give work bs).slot 15).state = .empty ∧
         ((give s bs).slot 15).state = .complete ∧ ((give s bs).slot 15).gen = wordAt bs 6 ∧
         ((give s bs).slot 15).readers = 0 ∧ ((give r bs).slot 15).readers ≠ 0 ∧
         ((work.setSlot 15 (complete 2)).slot 15).gen ≠ wordAt bs 6) := by
  unfold InHand; decide

/-- 01 R2, R17, R19: a release of a page of two bands returns them with no line used, and the pool is tested. -/
theorem test_release_returns_and_tests :
    (let p := { complete 1 with chain := [5, 6], stored := 65, assigned := 65 }
     let u := work.setSlot 15 p
     let s := { u with page := { u.page with
       free := [0, 1, 2], used := (List.replicate 32 0).set 5 64, low := true } }
     s.bandUsed 5 = 64 ∧ 5 ∈ (s.slot 15).chain ∧ s.page.lowMark ≤ 5 ∧
       after .pageRelease (give s (record 11 [15, 1])) (fun t =>
         t.page.free == [0, 1, 2, 5, 6] && t.bandUsed 5 == 0 && !t.page.low &&
           (t.source 19).entry.isSome) = true) := by decide +kernel

theorem test_witness_sensor_config :
    (let bs := record 12 [16]
     InHand (give work bs) 12 bs ∧ 15 < wordAt bs 4) ∧
      (let bs := record 12 [15, 5]
       InHand (give work bs) 12 bs ∧ wordAt bs 4 = (15 : Fin 16).val ∧ 4 < wordAt bs 6) ∧
      (let bs := record 12 [15, 4, 16, 0x107, 15, 1]
       InHand (give work bs) 12 bs ∧ wordAt bs 4 = (15 : Fin 16).val ∧
         gateModeOf (wordAt bs 6) = some .levelLow) := by
  unfold InHand; decide

/-- 07 R143, R140: active under the new mode while disarmed, or not active under the old one, gives an occurrence;
armed and active under both, or not active, none. -/
theorem test_witness_config_gate :
    (∀ high armed, ∀ m ∈ [GateMode.levelHigh, .levelLow, .edgeBoth],
      ∀ n ∈ [GateMode.levelHigh, .levelLow, .edgeBoth],
        let u := (work.setSource 15 { priority := 4, entry := none }).setGate 15
          { Gateway.reset with cfg := { GateCfg.default with mode := m }, high, armed }
        let on := fun k : GateMode => k == .levelHigh && high || k == .levelLow && !high
        ((u.configGate 15 { GateCfg.default with mode := n }).source 15).entry.isSome =
          (on n && (!armed || !on m))) := by decide +kernel

theorem test_witness_levels :
    (work.sensor.sampling = true ∧
        ∀ g, work.sampled g = true ∧ (work.gate g).run + 1 < (work.gate g).cfg.debounce) ∧
      (let s := gated .edgeBoth false 2
       s.sensor.sampling = true ∧ s.sampled 15 = true ∧
         (0x8000 : BitVec 16).getLsbD 15 ≠ (s.gate 15).high ∧
         (s.gate 15).cfg.debounce ≤ (s.gate 15).run + 1 ∧
         ∀ h : Fin 16, h ≠ 15 →
           (0x8000 : BitVec 16).getLsbD h.val = (s.gate h).high ∧ (s.gate h).run = 0) ∧
      (let s := { powered .sleep with
          sensor := { work.sensor with groups := 1 }, port := { work.port with mode := .selfRefresh } }
       s.sampled 3 = true ∧ s.sampled 4 = false) ∧
      (∀ m ∈ [GateMode.edgeRise, .edgeFall, .edgeBoth, .levelHigh, .levelLow],
        ((gated m true 0).gate 15).cfg.mode = m ∧ ((gated m true 0).gate 15).high = true) ∧
      ((gated .levelHigh false 0).gate 15).high = false ∧
      (((gated .levelHigh false 0).setSource 15
        { priority := 4, entry := some { kind := .active, data := .level true, repeated := false } }
          ).source (lineSource 15)).entry.isSome = true := by decide

/-- Scan's LINES entry with a trailing edge of line 5 going HIGH and a tail of 3, motor 0's path being committed. -/
def edging : State :=
  let s := (scanning 1).setMotor .m0 { linked (running 1 0) with committed := some 4 }
  s.setChan .scan { s.chan .scan with
    current := some { addr := 0, entry := .lines 100 (some { line := 5, high := true, tail := 3 }) 0 } }

/-- 02 R40, 06 R131: the named edge, once, with the lines committed above the tail; any other edge is none. -/
theorem test_witness_edges :
    edging.committedLines = 5 ∧ (scanning 1).committedLines = 0 ∧
      ((edging.chan .scan).phase = .begun ∧ (edging.chan .scan).edge = none) ∧
      ((edging.edgeEvent .scan 5 true).chan .scan).edge = some 0 ∧
      ((edging.edgeEvent .scan 5 true).chan .scan).remaining = 5 ∧
      ∀ x ∈ [(5, false), (4, true)], edging.edgeEvent .scan x.1 x.2 = edging := by
  decide +kernel

/-- A gateway that halts every motor and pauses Scan and Print, motor 0 linked and moving, motor 1 halted. -/
def struck (mode : HaltMode) : State :=
  let s := chanIn (chanIn work .scan .running) .print .running
  ((s.setMotor .m0 (linked (running 1 0))).setMotor .m1
    { linked Motor.reset with halted := some { mode := .ramp, cause := .command } }).setGate 0
      { Gateway.reset with
        cfg := { GateCfg.default with haltSet := 7, haltMode := mode, pauseSet := 3 } }

theorem test_witness_halts :
    (∀ h ∈ [HaltMode.ramp, .immediate],
      (((struck h).gate 0).cfg.haltSet.getLsbD (motorNumber .m0) = true ∧
        ((struck h).motor .m0).moving = true ∧ ((struck h).motor .m0).committed = some 0 ∧
        ((struck h).motor .m1).moving = false ∧ ((struck h).motor .m1).halted.isSome = true ∧
        ((struck h).chan .print).state ≠ .idle ∧ (struck h).finalPending .print = false)) ∧
      (((struck .ramp).occur 0 .active).motor .m0).rampPath = some (.line 0) ∧
      (((struck .immediate).occur 0 .active).motor .m0).moving = false ∧
      (((struck .ramp).occur 0 .active).motor .m1).halted =
        some { mode := .ramp, cause := .command } ∧
      (((struck .immediate).occur 0 .active).motor .m1).halted =
        some { mode := .immediate, cause := .line 0 } ∧
      (((struck .ramp).occur 0 .active).chan .scan).pauseReq = some (.pause (.line 0)) := by
  decide

theorem test_witness_occurrences :
    (let c := { GateCfg.default with haltSet := 7, pauseSet := 15 }
     c.haltSet.getLsbD (motorNumber .m2) = true ∧ c.pauseSet.getLsbD (chanNumber .codeIn) = true) ∧
      ((work.gate 0).cfg.haltSet = 0 ∧ (work.gate 0).cfg.pauseSet = 0 ∧
        work.power.state ≠ .sleep) ∧
      (let s := (powered .sleep).setGate 0
        { Gateway.reset with cfg := { GateCfg.default with wake := true } }
       s.power.state = .sleep ∧ (s.gate 0).cfg.wake = true ∧ (s.gate 0).cfg.haltSet = 0) ∧
      (let s := (chanIn work .codeIn .running).setGate 0
        { Gateway.reset with cfg := { GateCfg.default with pauseSet := 8 } }
       (s.gate 0).cfg.haltSet = 0 ∧ (s.gate 0).cfg.pauseSet.getLsbD (chanNumber .codeIn) = true ∧
         (s.chan .codeIn).state ≠ .idle ∧ (s.chan .codeIn).state ≠ .paused ∧
         (s.chan .codeIn).pauseReq = none ∧ s.finalPending .codeIn = false) := by decide

/-! ## Witnesses: power, status, the configuration store -/

theorem test_witness_power :
    (∀ t ∈ [0, 1, 2, 3, 4], InHand (give work (record 15 [t, 0xFFFF])) 15 (record 15 [t, 0xFFFF]) ∧
      wordAt (record 15 [t, 0xFFFF]) 4 = t) ∧
      (∀ p ∈ [PowerState.run, .drain, .doze], (powered p).power.state = p) := by
  unfold InHand; decide

/-- A drain toward a target. -/
def draining (t : Quiet) (s : State) : State :=
  { s with power :=
      { PowerUnit.reset with state := .drain, target := some t, drainTimer := some 1000 } }

theorem test_witness_drain :
    (let s := draining .doze (chanIn work .print .running)
     s.power.state = .drain ∧ s.power.target = some .doze ∧ s.power.drainTimer.isSome = true ∧
       s.unmet .doze = some 1) ∧
      (let s := draining .sleep (work.raise 16 .done (.word 0))
       s.power.target = some .sleep ∧ s.unmet .sleep = some 6) ∧
      ((draining .doze work).unmet .doze = none ∧ (255 : Nat) ≤ 255) ∧
      ((draining .sleep work).power.state = .drain ∧
        (draining .sleep work).unmet .sleep = none) ∧
      (let s := { work with port := { work.port with mode := .entering } }
       s.port.mode = .entering ∧ s.port.busy = none ∧ s.port.suspended = none ∧
         (busy s .reportWrite).port.busy.isSome = true) := by decide

/-- 08 R157: each entry condition holds on the part at rest, and fails for its own reason. -/
theorem test_witness_conditions :
    (∀ n ∈ [1, 2, 3, 4, 5, 6], work.entryCondition n = true) ∧
      (chanIn work .print .running).entryCondition 1 = false ∧
      (work.setMotor .m2 (running 0 1)).entryCondition 2 = false ∧
      { work with coder := { work.coder with recv := .ready } }.entryCondition 3 = false ∧
      (work.setStore (some (storing .source))).entryCondition 4 = false ∧
      (work.refuse .badKind).entryCondition 5 = false ∧
      (work.raise 16 .done (.word 0)).entryCondition 6 = false := by decide

theorem test_witness_wake :
    (let s := { work with power :=
        { PowerUnit.reset with state := .sleep, sleepTimer := some 1 } }
     s.power.state = .sleep ∧ s.power.sleepTimer.isSome = true) ∧
      (let s := { powered .wake with port := { DramPort.reset with mode := .leaving } }
       s.power.state = .wake ∧ s.port.mode = .leaving) ∧
      (∀ a ∈ [0xFFFFE, 0x100000, 0x80000, 0x7FFFE],
        let s := { guarded with host := { guarded.host with
          cycle := some { addr := a, write := some 1, asked := false } } }
        s.port.mode = .running ∧ s.host.cycle.isSome = true ∧
          s.judgeCycle.host.unmapped = (a == 0x100000) ∧
          s.judgeCycle.host.guardDrop = (a == 0x80000 || a == 0xFFFFE) ∧
          s.judgeCycle.host.cycle.isSome = (a == 0x7FFFE)) := by decide

/-- The wake's last step with a host word and a consumer index word that waited through SLEEP. -/
def waking (cycle : Option HostCycle) : State :=
  { powered .wake with
    port := { DramPort.reset with mode := .leaving }
    recUnit := { work.recUnit with state := .advancing }
    host := { work.host with cycle } }

/-- 08 R163: the consumer index word is granted before WAKE's report is put in writing, and the report follows
within the step that ends that grant. -/
theorem test_wake_serves_what_waited_first :
    after .selfRefreshExitEnd (waking none) (fun t =>
      t.port.busy == some (.consumerWord 0) && t.recUnit.writing.isNone &&
        (t.source 22).entry.isSome &&
        after .consumerIndexWriteEnd t (fun u =>
          u.port.busy == some .reportWrite && (u.recUnit.writing.any fun w => w.who == .event)))
        = true ∧
      after .selfRefreshExitEnd
        (waking (some { addr := 0x200, write := none, asked := false })) (fun t =>
          t.port.busy == some .hostWord && t.recUnit.writing.isNone && t.port.backlog) = true := by
  decide +kernel

theorem test_witness_status :
    (∀ k ∈ [16, 17], ∀ b ∈ [0, 11, 12], InHand (give work (record k [b])) k (record k [b]) ∧
      wordAt (record k [b]) 4 = b) := by
  unfold InHand; decide

theorem test_witness_engine_reset :
    InHand (give work (record 18 [])) 18 (record 18 []) ∧ work.power.state ≠ .sleep ∧
      ((work.setSlot 3 (filling .scan 1)).slot 3).state = .filling ∧
      (∀ g, (work.gate g).cfg.haltSet = 0) ∧
      (∀ g, (work.gate g).armed = true ∨ (work.gate g).cfg.mode.active (work.gate g).high = false) ∧
      ((gated .levelLow false 0).gate 15).cfg.mode = .levelLow ∧
      (draining .sleep work).power.target = some .sleep ∧
      { CoderLink.reset with resetLow := true }.resetLow = true ∧ work.boot.ready = .released ∧
      (let s := busy work (.lineRead .print 0x80000)
       s.port.busy = some (.lineRead .print 0x80000) ∧
         (Job.lineRead .print 0x80000).lineWork.isSome = true ∧ Job.reportWrite.lineWork = none ∧
         work.port.busy = none ∧ work.port.suspended = none ∧
         (s.cutLineWork .print).port.busy = none) := by
  unfold InHand; decide

/-- Two disarmed level lines that halt motor 1, a MOVING motor 1, and a page of each kind. -/
def unruly : State :=
  let gate := fun (mode : HaltMode) => { Gateway.reset with
    cfg := { GateCfg.default with mode := .levelHigh, haltSet := 2, haltMode := mode }
    high := true, armed := false }
  let p := { filling .scan 1 with chain := [2, 3], assigned := 65, stored := 64 }
  let s := (((work.setGate 3 (gate .ramp)).setGate 9 (gate .immediate)).setMotor .m1 (running 1 0)).setSlot 1 p
  let t := ((s.setSlot 2 { complete 9 with release := true, readPrint := true, chain := [4] }).setSlot 3
    { filling .codeIn 7 with release := true, chain := [6], assigned := 1, stored := 1 }).setSource 9
      { priority := 4, entry := none }
  { t with page := { t.page with free := [0], used := (((List.replicate 32 0).set 2 64).set 3 1).set 6 1 } }

/-- 01 R25, 06 R134, 07 R151: what an engine reset leaves of pages, of a MOVING motor and of disarmed lines. -/
theorem test_engine_reset_leaves :
    ((unruly.slot 1).assigned - (unruly.slot 1).stored = unruly.bandUsed 3 ∧
      (unruly.slot 1).chain.getLast? = some 3 ∧ (unruly.slot 1).consume = false) ∧
      after .engineReset (give unruly (record 18 [])) (fun t =>
        t.slot 1 == { unruly.slot 1 with
          state := .complete, writer := none, assigned := 64, truncated := true, chain := [2] } &&
        t.slot 2 == { Page.reset with gen := 9 } && t.slot 3 == { Page.reset with gen := 7 } &&
        t.page.free == [0, 3, 4, 6] && t.page.returned == 3 && t.bandUsed 2 == 64 &&
        t.bandUsed 3 == 0 &&
        (t.motor .m1).halted == some { mode := .immediate, cause := .line 9 } &&
        (t.motor .m1).holdTimer == some 500 && (t.motor .m1).state == .hold &&
        t.motors.haltedByAction && t.sensor.raises == 2 && (t.gate 3).armed &&
        (t.source 3).entry.isNone &&
        (t.source 9).entry == some { kind := .active, data := .level true, repeated := false }) = true := by
  decide +kernel

theorem test_witness_reload :
    InHand (give work (record 19 [])) 19 (record 19 []) ∧
      ((chanIn work .scan .paused).chan .scan).state ≠ .idle ∧
      ((work.setMotor .m2 (running 0 1)).motor .m2).moving = true ∧
      (allChannels.all fun ch => (work.chan ch).state == .idle) = true ∧
      (allMotors.all fun m => !(work.motor m).moving) = true ∧ work.boot.store = none ∧
      (let s := (give work (record 19 [])).startWork .reload
       s.recUnit.state = .executing ∧ s.recUnit.work = some .reload ∧
         (readImage [] fun _ => s.page.geo.bands).status ≠ .valid ∧
         (readImage image fun _ => s.page.geo.bands).status = .valid) := by
  unfold InHand; decide

/-- 09 R176: a reload of an image with ramp 0 takes it into Scan's link, its top index and its k_line. -/
theorem test_reload_takes_a_ramp :
    (let u := { work.setMotor .m0 (linked Motor.reset) with eeprom := image }
     let s := (give u (record 19 [])).startWork .reload
     s.recUnit.state = .executing ∧
       after .reloadReadEnd s (fun t =>
         t.ramp 0 == [5000, 4000] && t.boot.version == 7 && t.boot.rom == .valid &&
           (t.motor .m0).link == some { spl := 1, ramp := 0, top := 1, kLine := 1 } &&
           t.recUnit.completion.isSome) = true) := by decide +kernel

/-- An image of a CONSTANTS, a PRIORITIES and a PHASE section. -/
def fuller : List Word :=
  [0xE416, 48, 9, 0x0207, 2500, 432, 100, 40, 50, 0x8032, 7, 0x0718] ++ List.replicate 24 3 ++
    [0x040A, 1, 8, 1, 2, 3, 4, 5, 6, 7, 8, 0x81A8]

/-- 09 R176, R167: its low mark is held to the 32 bands and, above F, changes the condition at once; its priorities and
its phase table are in force. -/
theorem test_reload_takes_constants :
    (let u := { work.setMotor .m1 { Motor.reset with phase := 9 } with eeprom := fuller }
     let v := { u with page := { u.page with free := List.range 31 } }
     let s := (give v (record 19 [])).startWork .reload
     after .reloadReadEnd s (fun t =>
       t.page.lowMark == 32 && t.page.low && t.sensor.raises == 1 &&
         (t.source 0).priority == 3 && (t.motor .m1).phaseLen == 8 && (t.motor .m1).phase == 1 &&
         (t.motor .m1).holdTime == 50 && (t.motor .m1).autoRelease && !(t.motor .m0).autoRelease)) = true := by
  decide +kernel

theorem test_witness_store :
    (let bs := record 20 [1023, 2]
     InHand (give work bs) 20 bs ∧ 1024 < wordAt bs 4 + wordAt bs 6) ∧
      (let bs := record 20 [1023, 1, 8, 1]
       InHand (give work bs) 20 bs ∧ 1 ≤ wordAt bs 6 ∧ wordAt bs 4 + wordAt bs 6 = 1024 ∧
         work.page.geo.goodSource (dwordAt bs 8) (2 * wordAt bs 6) = false) ∧
      (let bs := record 20 [0, 1024, 0, 1]
       InHand (give work bs) 20 bs ∧ wordAt bs 4 + wordAt bs 6 = 1024 ∧
         work.page.geo.goodSource (dwordAt bs 8) (2 * wordAt bs 6) = true) ∧
      (work.boot.store = none ∧ (work.setStore (some (storing .source))).boot.store.isSome = true) ∧
      (busy work (.storeBurst 0x10000 2)).port.busy = some (.storeBurst 0x10000 2) ∧
      (∀ p ∈ [StorePhase.shifting, .waiting, .readback],
        (storing p).phase = p ∧ (storing p).words = 7 :: [8] ∧ (storing p).next + 1 < 2) ∧
      { storing .readback with next := 1 }.next + 1 = (storing .readback).count := by
  unfold InHand; decide

/-! ## Witnesses: entries and waits -/

theorem test_witness_fetch :
    (∀ f ∈ [({ addr := 0, asCurrent := true, viaJump := false } : Fetch),
        { addr := 0, asCurrent := false, viaJump := false },
        { addr := 0, asCurrent := false, viaJump := true }],
      ((busy (work.setChan .print { Chan.reset with fetch := some f }) (.entryFetch .print)).chan
        .print).fetch = some f) ∧
      (busy work (.entryFetch .print)).port.busy = some (.entryFetch .print) ∧
      Entry.decode (le16 10 ++ le16 0 ++ le32 0x10000 ++ List.replicate 8 0) = .jump 0x10000 ∧
      Entry.decode (List.replicate 16 0) = .unknown ∧
      work.page.geo.goodSource 0x10000 16 = true ∧ work.page.geo.goodSource 0x10008 16 = false ∧
      (Entry.mark 0).hasNext = true ∧ Entry.finish.hasNext = false := by decide

/-- A writer or reader at the end of a LINES entry, another of `n` lines being next. -/
def chained (ch : Channel) (n : Nat) (o : Option EdgeOption) : State :=
  let s := (work.setMotor .m0 (linked Motor.reset)).setMotor .m1 (linked Motor.reset)
  s.setChan ch { Chan.reset with
    state := .running, phase := .begun, openPage := some ⟨0, 1⟩
    current := some { addr := 0, entry := .lines 1 none 0 }
    next := some { addr := 16, entry := .lines n o 9 } }

/-- 02 R31, R39, R40 (logs 19, 49, 58): LINES behind LINES begins, faults, or waits for the resume. -/
theorem test_lines_behind_lines :
    (∀ ch ∈ allChannels,
      let s := chained ch 5 none
      ((s.endEntry ch).chan ch).phase = .begun ∧ ((s.endEntry ch).chan ch).remaining = 5 ∧
        (s.endEntry ch).coder.burstLimit = (if ch = .codeIn then 9 else s.coder.burstLimit) ∧
        (((chained ch 0 none).endEntry ch).chan ch).chainFault = true ∧
        (((s.setChan ch { s.chan ch with openPage := none }).endEntry ch).chan ch).chainFault = true ∧
        (((s.setChan ch { s.chan ch with state := .paused }).endEntry ch).chan ch).phase = .fresh ∧
        (((s.setChan ch { s.chan ch with next := none }).endEntry ch).chan ch).current = none) ∧
      ((((chained .scan 5 none).setMotor .m0 Motor.reset).endEntry .scan).chan .scan).chainFault = true ∧
      (let s := chained .codeIn 5 (some { line := 0, high := false, tail := 3 })
       (s.gate 0).high = false ∧ ((s.endEntry .codeIn).chan .codeIn).edge = some 0 ∧
         ((s.endEntry .codeIn).chan .codeIn).remaining = 3) := by decide +kernel

theorem test_witness_jump (a : Nat) : AtEntry (enter work .codeIn (.jump a)) .codeIn (.jump a) :=
  atEntry_enter _ _ _

/-- All sixteen slots taken. -/
def fullSlots : State :=
  { work with page := { work.page with slots := Vector.replicate 16 (complete 1) } }

theorem test_witness_open_write :
    AtEntry (enter work .scan (.openWrite true true true 1)) .scan (.openWrite true true true 1) ∧
      (enter work .scan (.openWrite true true true 1)).emptySlot = some 0 ∧
      (enter work .scan (.openWrite true true true 1)).page.slotWait = [] ∧
      isWriter .scan = true ∧ isWriter .print = false ∧ fullSlots.emptySlot = none ∧
      ((opened work .scan 0 1).chan .scan).openPage.isSome = true ∧
      ((enter work .scan (.openWrite true true true 1)).chan .scan).openPage = none ∧
      AtWait (await work .codeIn .slot (.openWrite true true true 1)) .codeIn .slot
        (.openWrite true true true 1) ∧
      { work.page with slotWait := [.codeIn] }.slotWait = .codeIn :: [] :=
  ⟨atEntry_enter _ _ _, by decide, by decide, rfl, rfl, by decide, by decide, by decide,
    atWait_await _ _ _ _, rfl⟩

theorem test_witness_open_read :
    AtEntry (enter work .print (.openRead true true true 3 0 64)) .print
        (.openRead true true true 3 0 64) ∧
      AtEntry (enter work .scan (.openRead true true false 15 0 64)) .scan
        (.openRead true true false 15 0 64) ∧
      (enter work .print (.openRead true true true 3 0 64)).pageOf .codeIn = none ∧
      (work.setSlot 15 (filling .codeIn 255)).pageOf .codeIn = some 15 ∧
      ((enter work .print .close).chan .print).openPage = none ∧
      ((enter work .print .close).chan .print).resolved = none ∧
      AtWait (await work .print .page (.openRead true true true 0 0 64)) .print .page
        (.openRead true true true 0 0 64) ∧
      AtWait (await work .codeOut .complete (.openRead false true false 2 1 64)) .codeOut .complete
        (.openRead false true false 2 1 64) :=
  ⟨atEntry_enter _ _ _, atEntry_enter _ _ _, by decide, by decide, by decide, by decide,
    atWait_await _ _ _ _, atWait_await _ _ _ _⟩

theorem test_witness_open_checks :
    (work.slot 0).state = .empty ∧ (work.chan .print).atLines = false ∧
      (let p := (work.setSlot 0 (complete 255)).slot 0
       p.state ≠ .empty ∧ p.gen = 255 ∧ p.permits .print = true ∧ p.consume = false ∧
         p.readers < 2 ∧ p.state = .complete) ∧
      { complete 1 with permitPrint := false }.permits .print = false ∧
      (let p := { complete 1 with consume := true, readPrint := true }
       p.consume = true ∧ p.readers ≠ 0) ∧
      2 ≤ { complete 1 with readPrint := true, readCodeOut := true }.readers ∧
      (filling .scan 1).state = .filling ∧ (filling .scan 1).permits .print = true ∧
      (filling .scan 1).readers = 0 := by decide

/-- 02 R55, R38 (log 63): a reader resumed out of a pause in WAIT_COMPLETE enters the wait again while the page is
being written, though two readers are in it by then; once it is COMPLETE the checks are made. -/
theorem test_resumed_reader_waits_again :
    (∀ st ∈ [PageState.filling, .complete],
      let p := { complete 1 with state := st, readPrint := true, consume := true }
      let u := enter (work.setSlot 4 p) .codeOut (.openRead false true false 4 1 64)
      let s := u.setChan .codeOut { u.chan .codeOut with resolved := some ⟨4, 1⟩ }
      after (.openRead .codeOut) s (fun t =>
        (t.chan .codeOut).chainFault == (st == .complete) &&
          ((t.chan .codeOut).state == .waiting .complete) == (st == .filling)) = true) := by
  decide +kernel

theorem test_witness_lines :
    (∀ n o, AtEntry (enter work .scan (.lines n o 0)) .scan (.lines n o 0)) ∧
      AtEntry (enter work .codeIn (.lines 65535 none 255)) .codeIn (.lines 65535 none 255) ∧
      motorFor .scan = some .m0 ∧ (work.motor .m0).link = none ∧
      ((work.setMotor .m0 (linked Motor.reset)).motor .m0).link.isSome = true ∧
      ((opened work .scan 0 1).chan .scan).openPage.isSome = true ∧ motorFor .codeIn = none ∧
      ((gated .edgeBoth true 0).gate 15).high = true ∧ ((gated .edgeBoth true 0).gate 0).high ≠ true :=
  ⟨fun _ _ => atEntry_enter _ _ _, atEntry_enter _ _ _, rfl, rfl, rfl, rfl, rfl, by decide,
    by decide⟩

theorem test_witness_set_processing :
    (∀ m, AtEntry (enter work .scan (.setProcessing true false m 255)) .scan
      (.setProcessing true false m 255)) ∧
      AtWait (await work .scan .table (.setProcessing true false 1 255)) .scan .table
        (.setProcessing true false 1 255) ∧
      (loading (.shading true) 2).bankLoading true false = true ∧
      (loading (.tone false) 2).bankLoading true false = true ∧
      (loading (.tone true) 2).bankLoading true false = false ∧ work.bankLoading true false = false :=
  ⟨fun _ => atEntry_enter _ _ _, atWait_await _ _ _ _, by decide, by decide, by decide, by decide⟩

theorem test_witness_link :
    (∀ ch, AtEntry (enter work ch (.linkMotor 8 3 63)) ch (.linkMotor 8 3 63)) ∧
      motorFor .codeOut = none ∧ motorFor .print = some .m1 ∧
      (running 0 1).moving = true ∧ (running 0 1).link = none ∧
      (enter work .scan (.linkMotor 8 3 63)).linkReady .scan .m0 = true ∧
      ¬(8 * (work.ramp 3).getD 0 0 < work.scan.tLine) ∧ work.scan.tLine ≤ 8 * (work.ramp 3).getD 0 0 ∧
      1 * ((work.setRamp 3 [2499, 2499]).ramp 3).getD 0 0 < work.scan.tLine :=
  ⟨fun _ => atEntry_enter _ _ _, rfl, rfl, rfl, rfl, by decide, by decide, by decide, by decide⟩

/-- 04 R85, 06 R122: a relink is ready with no link, or at rest with Print's path empty; no index keeps T_line. -/
theorem test_witness_link_ready :
    (linkedPrint.setMotor .m1 (linked Motor.reset)).linkReady .print .m1 = true ∧
      linkedPrint.linkReady .print .m1 = false ∧
      { linkedPrint.setMotor .m1 (linked Motor.reset) with print :=
        { work.print with queue := [copy] } }.linkReady .print .m1 = false ∧
      lineCap [100, 99] 1 101 = 0 ∧ (∀ k, k < 2 → 1 * [100, 99].getD k 0 < 101) := by decide

theorem test_witness_unlink :
    (∀ s ch, AtEntry (enter s ch .unlink) ch .unlink) ∧ (work.motor .m1).link = none ∧
      linkedPrint.print.queue = [] ∧ linkedPrint.chans.print.reading = false ∧
      (linkedPrint.motor .m1).moving = true ∧ (linkedPrint.motor .m1).committed = some 0 ∧
      (linked Motor.reset).moving = false ∧
      (2500 ≤ 1 * [5000, 2500].getD 0 0 ∧ [5000, 2500] ≠ [] ∧ lineCap [5000, 2500] 1 2500 = 1) :=
  ⟨fun _ _ => atEntry_enter _ _ _, by decide, by decide, by decide, by decide, by decide, by decide,
    by decide⟩

theorem test_witness_wait_line :
    (∀ h t, AtEntry (enter work .codeOut (.waitLine 15 h t)) .codeOut (.waitLine 15 h t)) ∧
      (∀ h t, AtWait (await work .codeOut .gate (.waitLine 15 h t)) .codeOut .gate
        (.waitLine 15 h t)) ∧
      (work.gate 15).high = false ∧
      0 < ((work.setChan .codeOut { Chan.reset with waitTimer := 1 }).chan .codeOut).waitTimer :=
  ⟨fun _ _ => atEntry_enter _ _ _, fun _ _ => atWait_await _ _ _ _, by decide, by decide⟩

theorem test_witness_waits :
    (let s := await work .scan .motor (.linkMotor 1 0 0)
     s.boundaryDue .scan = false ∧ (s.chan .scan).state = .waiting .motor ∧
       (s.chan .scan).atLines = false ∧ (s.motor .m0).moving = false) ∧
      (let s := await work .print .motor (.lines 1 none 0)
       s.boundaryDue .print = false ∧ (s.chan .print).atLines = true ∧ (s.motor .m1).halted = none) ∧
      (let s := opened ((await work .print .lines (.lines 1 none 0)).setSlot 0
        { filling .scan 1 with stored := 1 }) .print 0 1
       s.boundaryDue .print = false ∧ (s.chan .print).state = .waiting .lines ∧
         (s.chan .print).position = (s.slot 0).stored ∧ (s.slot 0).freed < (s.chan .print).position) ∧
      (let s := await work .codeIn .space (.lines 1 none 0)
       s.boundaryDue .codeIn = false ∧ (s.chan .codeIn).state = .waiting .space ∧
         s.page.r < s.page.free.length) := by decide

theorem test_witness_close :
    (∀ s ch, AtEntry (enter s ch .close) ch .close) ∧ isWriter .scan = true ∧
      isWriter .codeOut = false ∧ ((work.chan .scan).openPage = none) ∧
      ((opened work .scan 0 1).chan .scan).openPage = some ⟨0, 1⟩ ∧ work.writerQuiet .scan = true ∧
      ((complete 1).state = .complete ∧ (complete 1).stored < (Chan.reset).position ∧
        work.coder.sendBuf = none) ∧
      ((filling .scan 1).state ≠ .complete ∧ (filling .scan 1).release = false) ∧
      (let p := { complete 1 with readPrint := true, release := true }.setReader .print false
       (p.release || false) = true ∧ p.readers = 0) :=
  ⟨fun _ _ => atEntry_enter _ _ _, rfl, rfl, by decide, by decide, by decide, by decide, by decide,
    by decide⟩

theorem test_witness_writer_quiet :
    (∀ ch ∈ [Channel.scan, .codeIn], work.writerQuiet ch = true) ∧
      (buffered .bufB .writing).writerQuiet .scan = false ∧
      { work with coder := { work.coder with recv := .storing } }.writerQuiet .codeIn = false := by decide

/-- A page whose last band holds one line that was assigned and not stored, on two bands. -/
def closing (assigned : Nat) : State :=
  let s := work.setSlot 0
    { filling .scan 1 with chain := [30, 31], assigned, stored := 64 }
  { s with page := { s.page with
      free := List.range 30, used := s.page.used.set 30 64 |>.set 31 (assigned - 64) } }

/-- 01 R16: closing drops the unstored lines, and a last band left with none goes to the free list's tail. -/
theorem test_close_returns_an_empty_band :
    (let t := (closing 65).closePage 0 true
     (t.slot 0).chain = [30] ∧ t.page.free = List.range 30 ++ [31] ∧ (t.slot 0).truncated = true ∧
       (t.slot 0).state = .complete ∧ (t.slot 0).assigned = 64 ∧ t.page.returned = 1) ∧
      (let s := (closing 66).setSlot 0 { (closing 66).slot 0 with stored := 65 }
       let t := s.closePage 0 false
       (t.slot 0).chain = [30] ++ [31] ∧ s.bandUsed 31 = 2 ∧ t.bandUsed 31 = 1 ∧
         (31 : Nat) ∉ [30] ∧ [30] = [] ++ [30]) ∧
      (closing 65).bandUsed 31 = 1 := by decide

theorem test_witness_chain_ends :
    (∀ s ch e, AtEntry (enter s ch e) ch e) ∧
      (work.scan.bufA.state = .free ∧ work.scan.bufB.state = .free ∧ work.coder.recv = .idle ∧
        work.print.queue = [] ∧ work.chans.print.reading = false ∧ work.coder.sendBuf = none ∧
          work.chans.codeOut.reading = false) ∧
      Entry.decode (le16 12 ++ List.replicate 14 0) = .unknown :=
  ⟨fun _ _ _ => atEntry_enter _ _ _, by decide, by decide⟩

theorem test_witness_boundaries :
    (∀ ch ∈ allChannels,
      ((asked ch (.pause .command)).chan ch).pauseReq = some (.pause .command) ∧
        ((asked ch (.pause .command)).chan ch).state ≠ .idle ∧
        ((asked ch (.pause .command)).chan ch).state ≠ .paused ∧
        ((asked ch (.pause .command)).chan ch).notices = [] ∧
        (asked ch (.pause .command)).atBoundary ch false = true ∧
        ((asked ch .abort).chan ch).pauseReq = some .abort ∧
        (asked ch .abort).boundaryDue ch = true) ∧
      ((chanIn (asked .print .abort) .print .paused).boundaryDue .print = true ∧
        (asked .codeOut .abort).atBoundary .codeOut true = true) ∧
      ((opened work .scan 0 1).chan .scan).openPage = some ⟨0, 1⟩ ∧
      ((filling .scan 1).release = false ∧
        { filling .scan 1 with readPrint := true }.readers ≠ 0) := by decide

/-- 02 R51, 06 R123, 01 R13: the abort steps of Scan on a MOVING and on a resting motor end the reservation. -/
theorem test_abort_ends_the_link :
    (∀ x ∈ [linked (running 1 0), linked Motor.reset],
      let s := (asked .scan .abort).setMotor .m0 x
      let t := { s with page := { s.page with r := 30, low := true } }
      (t.motor .m0).link.isSome = true ∧ (x.moving = true → x.committed = some 0) ∧
        (t.abortSteps .scan).page.r = 0 ∧ (t.abortSteps .scan).page.low = false ∧
        ((t.abortSteps .scan).motor .m0).budget = (if x.moving then some 1 else none)) := by decide

/-- 02 R50: an entry that gives a fault stands before the boundary, and faults under a pause request. -/
theorem test_fault_comes_before_the_boundary :
    (let s := (enter work .scan .unknown).setChan .scan
        { (enter work .scan .unknown).chan .scan with pauseReq := some (.pause .command) }
     s.faultStands .scan = true ∧ s.atBoundary .scan false = true ∧ s.boundaryDue .scan = false ∧
       after (.unknownEntry .scan) s (fun t =>
         t.chans.scan.chainFault && t.chans.scan.pauseReq.isNone) = true) ∧
      (asked .scan .abort).faultStands .scan = false := by decide +kernel

/-- Code-out in WAIT_GATE with a request, a frame of it being sent. -/
def waitingFrame (r : PauseReq) : State :=
  let s := await work .codeOut .gate (.waitLine 0 true 1)
  let t := s.setChan .codeOut { s.chan .codeOut with pauseReq := some r }
  { t with coder := { t.coder with send := .sending, sendBuf := some .pageEnd } }

/-- 05 R101, 02 R53: Code-out that is WAITING aborts at once; the frame goes on, ends after IDLE and counts. -/
theorem test_abort_leaves_the_frame :
    (waitingFrame .abort).boundaryDue .codeOut = true ∧
      (waitingFrame (.pause .command)).atBoundary .codeOut false = true ∧
      after (.abortBoundaryReached .codeOut) (waitingFrame .abort) (fun t =>
        (t.chan .codeOut).pauseReq.isNone && t.coder.send == .sending &&
          t.coder.sendBuf == some .pageEnd &&
          after .frameTaken t (fun u => u.coder.sent == 1 && u.coder.sendBuf.isNone)) = true := by
  decide +kernel

/-- 02 R28, R33: the CHAIN END of an ABORT behind the PAUSED notice in writing waits in WAIT_REPORT at once. -/
theorem test_second_notice_waits :
    (let s := chanIn (reporting (.notice .codeOut false)) .codeOut .paused
     let t := s.setChan .codeOut { s.chan .codeOut with notices := [note], pauseReq := some .abort }
     after (.abortBoundaryReached .codeOut) t (fun u =>
       u.chans.codeOut.state == .waiting .report && u.chans.codeOut.notices.length == 2 &&
         after .reportWriteEnd u (fun v => v.chans.codeOut.state == .waiting .report)) &&
       ((t.setChan .codeOut { t.chan .codeOut with state := .running }).waitReport .codeOut).chans.codeOut.state
         == .running) = true := by decide +kernel

/-- Scan in WAIT_REPORT under a request, its last notice being posted, a LINES entry next and motor 0 moving. -/
def pausingScan : State :=
  let s := (reporting (.notice .scan false)).setMotor .m0 (linked (running 1 0))
  s.setChan .scan { Chan.reset with
    state := .waiting .report, phase := .ending, notices := [note], pauseReq := some (.pause .command)
    openPage := some ⟨0, 1⟩, current := some { addr := 0, entry := .lines 1 none 0 }
    next := some { addr := 16, entry := .lines 5 none 0 } }

/-- 02 R53 (log 70): it is at its boundary at the post. -/
theorem test_boundary_when_the_notice_is_posted :
    pausingScan.boundaryDue .scan = false ∧
      after .reportWriteEnd pausingScan (fun t =>
        t.boundaryDue .scan && t.motors.m0.moving && t.chans.scan.atLines &&
          after (.pauseBoundaryReached .scan) t (fun u => u.chans.scan.state == .paused)) = true := by
  decide +kernel

/-- A channel whose MARK at 0x10000 has its notice in writing, a LINES entry being next, motor 0 linked and moving. -/
def marking (ch : Channel) (r : Option PauseReq) : State :=
  let s := (reporting (.notice ch false)).setMotor .m0 (linked (running 1 0))
  s.setChan ch { Chan.reset with
    state := .running, phase := .ending, notices := [note], pauseReq := r, openPage := some ⟨0, 1⟩
    entryAddr := 0x10000, current := some { addr := 0x10000, entry := .mark 7 }
    next := some { addr := 0x10010, entry := .lines 5 none 0 } }

/-- What a channel has called for once its ABORT has been carried out. -/
def ended (t : State) (ch : Channel) (ns : List Notice) : Bool :=
  after (.abortBoundaryReached ch) t fun u =>
    u.chan ch == { (u.chan ch) with
      state := .waiting .report, current := none, pauseReq := none, linkCut := false
      notices := ns ++ [{ body := .chainEnd true 0x10000, page := none }] }

/-- 02 R51, R53, R54: an ABORT finds a channel at a MARK at its boundary though the notice is in writing; CHAIN END
stands behind it and names the MARK, also when the write ends first (log 70), and Scan's ended link gives no fault. -/
theorem test_abort_at_a_notice_in_writing :
    (∀ ch ∈ [Channel.scan, .codeIn],
      let s := marking ch none
      let t := s.askAbort ch
      s.faultStands ch = false ∧ t.boundaryDue ch = true ∧ ended t ch [note] = true ∧
        (t.chan ch).linkCut = (ch == .scan) ∧
        after .reportWriteEnd t (fun u =>
          u.boundaryDue ch && (u.chan ch).entryAddr == 0x10000 && (u.chan ch).notices.isEmpty &&
            after (.abortBoundaryReached ch) u fun v =>
              (v.chan ch).notices == [{ body := .chainEnd true 0x10000, page := none }]) = true) := by
  decide +kernel

/-- 02 R33, R53, R55 (log 70): a PAUSE there is carried out behind the notice in writing, the window is kept, and the
MARK ends with the resume. -/
theorem test_pause_at_a_notice_in_writing :
    (let s := marking .codeIn (some (.pause .command))
     s.boundaryDue .codeIn = true ∧
       after (.pauseBoundaryReached .codeIn) s (fun t =>
         t.chans.codeIn.state == .paused && t.chans.codeIn.notices.length == 2 &&
           after .reportWriteEnd t (fun u =>
             u.chans.codeIn.notices.length == 1 && u.chans.codeIn.entryAddr == 0x10000)) = true) ∧
      (let s := chanIn (marking .codeIn none) .codeIn .paused
       let t := s.setChan .codeIn { s.chan .codeIn with notices := [] }
       (t.endPosted .codeIn).chans.codeIn.entryAddr = 0x10000 ∧
         (t.continueChain .codeIn).chans.codeIn.entryAddr = 0x10010 ∧
         (s.continueChain .codeIn).chans.codeIn.state = .waiting .report) := by decide +kernel

/-- 02 R39, R54 (log 67): a LINES entry at its turn whose link an ABORT has ended gives no fault; without one it does. -/
theorem test_the_ended_link_gives_no_fault :
    (let s := (enter (opened work .scan 0 1) .scan (.lines 5 none 0)).setMotor .m0 (linked Motor.reset)
     let t := s.askAbort .scan
     t.entryFault .scan (.lines 5 none 0) = none ∧ t.boundaryDue .scan = true ∧
       ((s.setMotor .m0 Motor.reset).askAbort .scan).faultStands .scan = true ∧
       ((t.askAbort .scan).chan .scan).linkCut = true) := by decide +kernel

/-- 05 R102, 02 R40: a LINES entry that begins with a tail of 0 behind one that is over ends in the same step. -/
theorem test_lines_over_at_once :
    (let s := chained .codeIn 5 (some { line := 0, high := false, tail := 0 })
     let c := (s.endOver .codeIn).chans.codeIn
     (s.chan .codeIn).remaining = 0 ∧ c.atLines = false ∧ c.phase = .fresh ∧
       ((s.endIfDone .codeIn).chans.codeIn.inLines = true)) := by decide +kernel

/-- 05 R102: the assignment that brings the page to its limit with lines remaining is kept for the end of the
line's frame; an edge that leaves none remaining meanwhile does not drop PAGE LIMIT. -/
theorem test_limit_goes_by_the_assignment :
    (let s := reading .codeIn { filling .codeIn 1 with chain := [31], assigned := 62, limit := 63 } 1
     let t := s.askCodeIn
     let u := t.setChan .codeIn { t.chan .codeIn with remaining := 0, held := none }
     s.chans.codeIn.limitDue = false ∧ t.chans.codeIn.held = some 63 ∧ t.chans.codeIn.limitDue = true ∧
       u.limitIfFull.chans.codeIn.notices = [{ body := .pageLimit 63, page := some ⟨0, 1⟩ }] ∧
       (s.setChan .codeIn { s.chan .codeIn with remaining := 1 }).askCodeIn.chans.codeIn.limitDue = false) := by
  decide +kernel

/-- Print in a wait or PAUSED with a request, its line read under way. -/
def midRead (st : ChState) (r : PauseReq) : State :=
  work.setChan .print
    { Chan.reset with
      state := st, pauseReq := some r, reading := true
      current := some { addr := 0, entry := .lines 1 none 0 } }

/-- 04 R94, 02 R53: a PAUSE of a WAITING Print channel is at the request, its ABORT at the end of the read (log
49), and so is the ABORT of one that is PAUSED. -/
theorem test_print_read_holds_the_abort_alone :
    (midRead (.waiting .motor) (.pause .command)).atBoundary .print false = true ∧
      (midRead (.waiting .motor) .abort).atBoundary .print true = false ∧
      (midRead .paused .abort).boundaryDue .print = false ∧
      (midRead .running (.pause .command)).atBoundary .print false = false := by decide

/-! ## Witnesses: lines on the three paths -/

theorem test_witness_dots :
    (List.replicate 1728 true).length = 1728 ∧ (1727 : Nat) < 1728 ∧
      (List.replicate 216 (0x81 : Byte)).length = 216 ∧
        packDots [true, false, false, false, false, false, false, true] = [0x81] ∧
          unpackDots [0x81] = [true, false, false, false, false, false, false, true] := by
  decide +kernel

theorem test_witness_captures :
    (∀ b ∈ [BufId.bufA, .bufB], ((buffered b .capturing).buf b).state = .capturing ∧
      ((buffered b .capturing).buf b.other).state ≠ .capturing ∧
      ((buffered b .capturing).buf b.other).state ≠ .armed ∧
      (((buffered b .capturing).setBuf b.other { LineBuf.reset with state := .armed }).buf
        b.other).state = .armed ∧
      (busy (buffered b .writing) (.scanWrite b 0x80000)).port.busy = some (.scanWrite b 0x80000) ∧
      MemoryOk (busy (buffered b .writing) (.scanWrite b 0x80000)) ∧
      ((buffered b .writing).buf b).dots.length = 216) ∧
      (List.replicate 1728 (0 : Byte)).length = 1728 ∧ work.port.done = 0 := by
  unfold MemoryOk; decide +kernel

theorem test_witness_triggers :
    (let s := scanning 64
     s.chans.scan.openPage = some ⟨0, 1⟩ ∧ (s.chan .scan).state = .running ∧
       (s.chan .scan).inLines = true ∧ s.scan.bufA.state = .free ∧
       (s.slot 0).assigned ≠ (s.slot 0).limit ∧ (s.slot 0).assigned % 64 = 0 ∧
       s.page.free ≠ [] ∧ (s.chan .scan).remaining = 2) ∧
      (let s := (scanning 1).setChan .scan { (scanning 1).chans.scan with remaining := 1 }
       (s.chan .scan).remaining ≤ 1 ∧ (s.chan .scan).inLines = true) ∧
      ((scanning 65534).slot 0).assigned + 1 = ((scanning 65534).slot 0).limit ∧
      ((scanning 65535).slot 0).assigned = ((scanning 65535).slot 0).limit ∧
      work.chans.scan.openPage = none ∧
      ((scanning 63).slot 0).assigned % 64 ≠ 0 ∧
      (let s := (scanning 1).setBuf .bufA { LineBuf.reset with state := .armed }
       s.scan.bufA.state ≠ .free ∧ s.scan.bufB.state = .free) ∧
      { (scanning 64).page with free := [] }.free = [] ∧ (work.chan .scan).inLines = false := by decide

theorem test_witness_assign :
    ((scanning 65535).slot 0).assigned = ((scanning 65535).slot 0).limit ∧
      ((scanning 0).slot 0).assigned ≠ ((scanning 0).slot 0).limit ∧
      ((scanning 0).slot 0).assigned % 64 = 0 ∧ ((scanning 0).slot 0).consume = false ∧
      (∃ rest, (scanning 0).page.free = 0 :: rest) ∧
      (scanning 0).page.r < (scanning 0).page.free.length ∧
      bounded.page.free.length ≤ bounded.page.r ∧ ((scanning 63).slot 0).assigned % 64 ≠ 0 :=
  ⟨by decide, by decide, by decide, by decide, ⟨_, rfl⟩, by decide, by decide, by decide⟩

/-- 01 R2: the lines used of a band's first line, and of one more. -/
theorem test_witness_used :
    ((scanning 0).page.used.length = 32 ∧ (scanning 0).bandUsed 0 = 0 ∧
        ((scanning 0).assignLine 0 true).1.bandUsed 0 = 1) ∧
      (let s := oneBand.setSlot 0 { oneBand.slot 0 with assigned := 63 }
       (s.slot 0).chain.getLast? = some 0 ∧ (s.assignLine 0 true).1.bandUsed 0 = s.bandUsed 0 + 1) := by
  decide

/-- A consume page of 64 lines, its band read through by Print, at the turn of a second band. -/
def consumed : State :=
  let s := work.setSlot 0
    { filling .scan 1 with
      consume := true, assigned := 64, stored := 64, chain := [31], readPrint := true }
  { s.setChan .print { Chan.reset with position := 65 } with
    page := { s.page with free := List.range 31 } }

theorem test_witness_consume :
    (let p := consumed.slot 0
     p.assigned ≠ p.limit ∧ p.assigned % 64 = 0 ∧ p.consume = true ∧ p.state = .filling ∧
       consumed.readerPosition p = some 65 ∧ p.freed + 64 < 65 ∧ p.chain = 31 :: [] ∧
       { p with freed := 64 }.freed + 64 ≥ 65 ∧ Page.reset.chain = []) ∧
      (∃ rest, consumed.page.free = 0 :: rest) ∧
      consumed.page.r < consumed.page.free.length := ⟨by decide, ⟨_, rfl⟩, by decide⟩

/-- Print or Code-out, at the last line of a consume page's first band or past it, its read under way. -/
def consuming (ch : Channel) (p : Page) (n : Nat) : State :=
  let s := reading ch { p with consume := true, chain := [30, 31], stored := 128, assigned := 128 } n
  let t := s.setChan ch { s.chan ch with reading := true }
  busy { t with page := { t.page with free := List.range 30 } } (.lineRead ch 0)

theorem test_witness_consume_reads :
    (∀ ch ∈ [Channel.print, .codeOut], ∀ n ∈ [64, 65],
      let s := consuming ch ((complete 1).setReader ch true) n
      s.port.busy = some (.lineRead ch 0) ∧ (s.chan ch).openPage = some ⟨0, 1⟩ ∧
        (s.slot 0).chain = 30 :: [31] ∧ (s.slot 0).consume = true ∧ (s.chan ch).position = n) ∧
      (let s := busy (reading .print (complete 1) 1) (.lineRead .print 0)
       ({ s.chan .print with openPage := none }).openPage = none ∧ (s.slot 0).consume = false) := by
  decide

/-- 01 R18: the end of the read of a consume page's 64th line frees its first band, that of the 63rd does not. -/
theorem test_read_frees_a_consumed_band :
    (∀ n ∈ [63, 64],
      after .lineReadEnd (consuming .print ((complete 1).setReader .print true) n) (fun t =>
        (t.slot 0).chain == (if n = 64 then [31] else [30, 31]) &&
          (t.slot 0).freed == (if n = 64 then 64 else 0) &&
          t.page.free == (if n = 64 then List.range 31 else List.range 30)) = true) := by
  decide +kernel

/-- 01 R13, R18, R19: with the low mark at the free count, the taking of a band and the freeing of another
in one step report LOW and then OK. -/
theorem test_take_band_tests_twice :
    (let s := { consumed with page := { consumed.page with lowMark := 31 } }
     let t := s.takeBand 0 true
     t.sensor.raises = 2 ∧ t.page.low = false ∧ t.sensor.merged = true) := by decide

theorem test_witness_asks :
    (∀ ch ∈ [Channel.print, .codeOut],
      let s := reading ch { complete 1 with stored := 1 } 1
      (s.chan ch).state = .running ∧ (s.chan ch).pauseReq = none ∧ (s.chan ch).notices = [] ∧
        (s.chan ch).reading = false ∧ 0 < (s.chan ch).remaining ∧
        s.print.queue.length + ((s.chan ch).scaleAcc + (s.chan ch).scale) / 256 ≤ 16 ∧
        s.coder.sendBuf = none ∧ s.coder.send = .idle ∧
        (s.chan ch).position ≤ (s.slot 0).stored ∧ (s.slot 0).freed < (s.chan ch).position) ∧
      (let p := { filling .scan 1 with stored := 1 }
       p.stored < 2 ∧ p.state = .filling ∧ (complete 1).stored < 1 ∧ (complete 1).state ≠ .filling) ∧
      (∀ n ∈ [63, 64, 65535],
        let s := reading .codeIn { filling .codeIn 1 with assigned := n } 1
        s.chans.codeIn.openPage = some ⟨0, 1⟩ ∧ s.chans.codeIn.inLines = true ∧
          s.chans.codeIn.held = none ∧ s.coder.recv = .idle ∧ (s.slot 0).assigned = n ∧
          (s.slot 0).limit = 65535 ∧ s.page.r < s.page.free.length) ∧
      (let s := linkedPrint.setMotor .m1 { linked Motor.reset with halted := some ⟨.ramp, .command⟩ }
       (s.motor .m1).link.isSome = true ∧ (s.motor .m1).halted.isSome = true ∧
         (s.motor .m1).moving = false) ∧
      { work.host with producer := 1 }.producer ≠ work.recUnit.consumer := by decide

theorem test_witness_line_reads :
    (∀ ch ∈ [Channel.print, .codeOut],
      let s := busy (work.setChan ch { Chan.reset with state := .running, reading := true })
        (.lineRead ch 0x80000)
      s.port.busy = some (.lineRead ch 0x80000) ∧ (s.chan ch).reading = true ∧
        (s.chan ch).pauseReq ≠ some .abort ∧ s.port.done = 0 ∧ s.port.partialData = [] ∧
        (s.chan ch).inLines = false) ∧
      ((asked .print .abort).chan .print).pauseReq = some .abort := by decide

/-- 04 R84: a copy's cap under a link, at a burn its ramp allows and at one that it does not; 02 R41 (log 68): the
last line of a LINES entry, read in WAIT_MOTOR. -/
theorem test_witness_caps :
    (linkedPrint.motor .m1).link.isSome = true ∧
      (linkedPrint.newCopy 1 0 (List.replicate 256 0)).cap = some 1 ∧
      ((linkedPrint.setRamp 0 [50, 40]).newCopy 1 0 (List.replicate 256 0)).cap = none ∧
      (let s := (reading .print (complete 1) 1).setChan .print
         { (reading .print (complete 1) 1).chan .print with state := .waiting .motor, remaining := 0 }
       (s.chan .print).inLines = true ∧ (s.chan .print).remaining = 0 ∧
         ((s.endIfRead .print).chan .print).state = .running ∧
         ((s.endIfRead .print).chan .print).current = none) := by decide

/-- A head copy in a state of its burn. -/
def burning (h : HeadSeq) : State :=
  { work with print := { work.print with queue := [copy], head := h } }

theorem test_witness_burns :
    (burning .shifting).print.head = .shifting ∧ (burning (.strobing 1)).print.head = .strobing 1 ∧
      { copy with dots := List.replicate 216 (0x80 : Byte) }.dots.length = 216 ∧
      (burning (.strobing 1)).print.queue = copy :: [] ∧ copy.phases ≤ 1 ∧
      1 < { copy with phases := 4 }.phases ∧ (burning (.strobing 1)).print.clearing = none ∧
      (burning (.strobing 1)).motors.m1.heldStep = false ∧
      ((burning (.strobing 1)).setMotor .m1 { linked (running 0 0) with heldStep := true }
        ).motors.m1.heldStep = true ∧
      { (burning (.strobing 1)).print with clearing := some note }.clearing = some note ∧
      (∀ p ∈ [1, 2, 4],
        let c := { copy with phases := p, counts := ⟨1, 0, 1, 1⟩ }
        let s := { burning (.strobing p) with
          print := { (burning (.strobing p)).print with queue := [c] } }
        s.strobeOut 3 = true ∧ s.strobeOut 1 = false) ∧
      (∀ k, (burning .shifting).print.head ≠ .strobing k) := by
  refine ⟨?_, ?_, ?_, ?_, ?_, ?_, ?_, ?_, ?_, ?_, ?_, fun k h => nomatch h⟩ <;> decide +kernel

/-- The coder link on an offer, or in a frame. -/
def sending (d : SendDir) (f : Frame) : State :=
  let s := chanIn work .codeOut .running
  { s with coder := { s.coder with send := d, sendBuf := some f } }

theorem test_witness_send :
    (let s := sending .offering .pageEnd
     s.coder.send = .offering ∧ s.coder.resetLow = false ∧ (s.chan .codeOut).state ≠ .idle ∧
       (s.chan .codeOut).state ≠ .paused ∧ (s.chan .codeOut).pauseReq = none ∧
       s.coder.recv ≠ .receiving ∧ s.coder.recv ≠ .discard ∧ s.mayReceive true = true ∧
       { s with coder := { s.coder with lastReceive := true } }.coder.lastReceive = true ∧
       { s with coder := { s.coder with recv := .storing } }.mayReceive true = false ∧
       { s with coder := { s.coder with recv := .storing } }.mayReceive false = false) ∧
      (let s := sending .sending (.line false false (List.replicate 216 0))
       s.coder.send = .sending ∧ s.coder.sendBuf = some (.line false false (List.replicate 216 0))) ∧
      (let s := sending .sending .pageEnd
       s.coder.sendBuf = some .pageEnd ∧ (s.chan .codeOut).openPage = none) ∧
      (let s := (sending .sending .pageEnd).setChan .codeOut
        { Chan.reset with
          state := .running, phase := .begun, openPage := some ⟨0, 1⟩
          current := some { addr := 0, entry := .close } }
       s.coder.send = .sending ∧ (s.chan .codeOut).openPage = some ⟨0, 1⟩ ∧
         (s.chan .codeOut).phase = .begun ∧
         (s.chan .codeOut).current = some { addr := 0, entry := .close }) := by decide +kernel

/-- A frame offered outside LINES takes its turn ahead of a send (05 R99). -/
theorem test_send_gives_way :
    (match exec (.frameSendStart .outside) (sending .offering .pageEnd) with
     | .next t => decide (t.coder.send = .offering)
     | _ => false) = true ∧
      (match exec (.frameSendStart .nothing) (sending .offering .pageEnd) with
       | .next t => decide (t.coder.send = .sending)
       | _ => false) = true := by decide +kernel

/-- The receive direction in a state with a header. -/
def receiving (d : RecvDir) (h : Byte) : State :=
  { work with coder := { work.coder with recv := d, header := h } }

theorem test_witness_receive :
    (let s := receiving .ready 0
     s.coder.resetLow = false ∧ s.power.state = .run ∧ s.coder.recv = .ready ∧
       s.coder.send ≠ .sending ∧ s.maySend = false) ∧
      (work.coder.recv = .idle ∧ (work.chan .codeIn).atLines = false) ∧
      (∀ h ∈ [(0x10 : Byte), 0x2F, 0x30], (receiving .receiving h).coder.recv = .receiving ∧
        (h.toNat / 16 = 1 ∨ h.toNat / 16 = 2 ∨ h.toNat / 16 = 3)) ∧
      (List.replicate 216 (0 : Byte)).length = 216 ∧
      (let h : Byte := 0x1F
       ∀ n ∈ [1, 216, 218, 65536], 1 ≤ n ∧ ¬(h.toNat / 16 = 1 ∧ n = 217) ∧
         ¬(h.toNat / 16 = 2 ∧ n = 1) ∧ ¬(h.toNat / 16 = 3 ∧ n = 1)) ∧
      (scanning 1).chans.scan.inLines = true ∧ (work.chan .codeIn).inLines = false ∧
      (receiving .discard 0).coder.recv = .discard ∧
      (receiving .discard 0).coder.cutShort = false ∧
      { (receiving .discard 0).coder with cutShort := true }.cutShort = true := by decide +kernel

theorem test_witness_code_in :
    (let s := busy ((work.setSlot 0 (filling .codeIn 1)).setChan .codeIn
        { Chan.reset with state := .running, openPage := some ⟨0, 1⟩, held := some 1 })
        (.codeInWrite 0x80000)
     s.port.busy = some (.codeInWrite 0x80000) ∧ MemoryOk s ∧
       (s.chan .codeIn).openPage = some ⟨0, 1⟩ ∧ (s.chan .codeIn).held = some 1 ∧
       s.port.done = 0 ∧ s.coder.conceal = false ∧ s.coder.copyDots.length = 216) ∧
      (let c := (reading .codeIn (filling .codeIn 1) 1).chan .codeIn
       c.inLines = true ∧ c.limitDue = false ∧ { c with limitDue := true }.inLines = true) ∧
      { work.coder with conceal := true }.conceal = true ∧
      (List.replicate 216 (0 : Byte)).length = 216 ∧
      (0 < { work.coder with burstLimit := 1 }.burstLimit ∧
        { work.coder with burstLimit := 1 }.burstLimit ≤ min 65535 ((work.chan .codeIn).badRun + 1) ∧
        work.coder.burstReported = false) := by
  unfold MemoryOk; decide +kernel

/-! ## Single steps on small states -/

/-- 09 R168, R173: with CFGSKIP low start-up comes to READY with its BOOT report in writing. -/
theorem test_probe_comes_to_ready :
    after (.probe false 0) State.reset (fun t =>
      t.boot.stage == .ready && t.boot.rom == .skipped && t.recUnit.writing.isSome &&
        t.port.busy == some .reportWrite) = true := by decide +kernel

/-- 10 R182, 02 R52, R30: a START CHAIN in hand sets its channel running, and its completion is written
first. -/
theorem test_start_chain_step :
    after .startChain (give work (record 1 [2, 0, 1])) (fun t =>
      t.chans.codeOut.state == .running && t.chans.codeOut.entryAddr == 0x10000 &&
        t.port.busy == some .reportWrite) = true := by decide +kernel

/-- 06 R125, R121: the last step of a host move brings the motor to HOLD, and its event is reported. -/
theorem test_motor_step_comes_to_rest :
    after (.motorStep .m2) (work.setMotor .m2 (running 0 1)) (fun t =>
      t.motors.m2.state == .hold && t.motors.m2.position == 1 && t.motors.m2.k.isNone &&
        t.recUnit.writing.any fun w => w.who == .event) = true := by decide +kernel

/-- 01 R24: a host write stores its low byte first. -/
theorem test_host_word_step :
    after .hostWordServed bounded (fun t =>
      Memory.read t.mem 0x200 == 0x34 && Memory.read t.mem 0x201 == 0x12 && t.host.cycle.isNone)
      = true := by decide +kernel

/-- 02 R35, 01 R7: OPEN WRITE takes slot 0 with instance 1. -/
theorem test_open_write_step :
    after (.openWrite .scan) (enter work .scan (.openWrite false true true 100)) (fun t =>
      (t.slot 0).state == .filling && (t.slot 0).gen == 1 &&
        t.chans.scan.openPage == some ⟨0, 1⟩) = true := by decide +kernel

/-- 05 R97, R103: a good line frame of 216 bytes is to be stored. -/
theorem test_line_received_step :
    after (.lineReceived (List.replicate 216 0xFF)) (receiving .receiving 0x10) (fun t =>
      t.coder.recv == .storing && t.coder.rxCounts == ⟨432, 432, 432, 432⟩) = true := by
  decide +kernel

/-- 07 R137: the sample that brings a run count to its debounce changes the level in the same step. -/
theorem test_sample_changes_the_level :
    after (.sensorSample 0x8000) (gated .edgeBoth false 2) (fun t =>
      (t.gate 15).high && (t.gate 15).run == 0) = true := by decide +kernel

/-- 05 R100, R101 (log 71): a PAGE END whose header has passed is SENDING with no byte left until FRAME_TAKEN. -/
theorem test_page_end_between_its_rows :
    after (.frameSendStart .nothing) (sending .offering .pageEnd) (fun t =>
      t.coder.send == .sending && t.coder.bytesSent == 1 && t.cdOut.isNone &&
        after .frameTaken t (fun u => u.coder.sent == 1 && u.coder.send == .idle)) = true := by
  decide +kernel

/-- 05 R97, R98: the header of a frame, and the byte on CD0 to CD7. -/
theorem test_frame_bytes :
    (Frame.line true true [0xAA]).bytes = [0x13, 0xAA] ∧ Frame.pageEnd.header = 0x30 ∧
      (let s := sending .sending (.line false true [0xAA])
       { s with coder := { s.coder with bytesSent := 1 } }.cdOut = some 0xAA) := by decide

/-- 04 R86: PDAT1 carries the second section's dots, and PLATN is pulsed at the end of the shifting. -/
theorem test_print_outputs :
    (let c := { copy with dots := List.replicate 54 0 ++ List.replicate 162 0xFF }
     let s := { burning .shifting with print := { (burning .shifting).print with queue := [c] } }
     s.pclk = true ∧ (s.pdat 0)[431]? = some false ∧ (s.pdat 1)[0]? = some true ∧
       after .shiftLatchEnd s (fun t => platn s t && !t.pclk) = true) := by decide +kernel

/-- 03 R59, 04 R86: a reset pulses neither SSTART nor PLATN, whatever the model's counts stood at. -/
theorem test_reset_pulses_nothing :
    (let s := { work with
        scan := { work.scan with starts := 5 }, print := { work.print with latches := 5 } }
     after (.hardReset .pin none) s (fun t => !sstart s t && !platn s t) = true) := by
  decide +kernel

/-- A command that is not due leaves the state as it is (log 1). -/
theorem test_not_due : exec .refreshEnd work = .next work := rfl

end Sys2Proof.Tests
end

section
/-! PROOFS. Page memory: what moves a band (01 R4). -/

namespace Sys2Proof.Machine

/-! ## The assignment of a line, case by case (01 R9, R10, R11) -/

/-- The taking of a band, before the tests that follow it (01 R10, R11). -/
def State.withBand (s : State) (i : Fin 16) (b : Nat) (rest : List Nat) (scan : Bool) : State :=
  let s1 := s.setSlot i
    { s.slot i with assigned := (s.slot i).assigned + 1, chain := (s.slot i).chain ++ [b] }
  { s1 with page :=
      { s1.page with
        free := rest
        used := s.page.used.set b 1
        r := if scan then s.page.r - 1 else s.page.r
        taken := s.page.taken + 1 } }

/-- The next slot of the last band is assigned (01 R9). -/
def State.withLine (s : State) (i : Fin 16) : State :=
  let last := (s.slot i).chain.getLastD 0
  let s1 := s.setSlot i { s.slot i with assigned := (s.slot i).assigned + 1 }
  { s1 with page := { s1.page with used := s.page.used.set last (s.bandUsed last + 1) } }

section
variable (s : State) {i : Fin 16} {b : Nat} {rest : List Nat} {scan : Bool}

theorem takeBand_of_nil (h : s.page.free = []) : s.takeBand i scan = s := by
  simp only [State.takeBand, h]

theorem takeBand_of_cons (h : s.page.free = b :: rest) :
    s.takeBand i scan = (s.withBand i b rest scan).poolTest.freeBehind i := by
  unfold State.takeBand
  rw [h]
  rfl

theorem assignLine_at_limit (h : (s.slot i).assigned = (s.slot i).limit) :
    s.assignLine i scan = (s, .limit) := by
  unfold State.assignLine
  exact if_pos h

theorem assignLine_without_band (hl : (s.slot i).assigned ≠ (s.slot i).limit)
    (hm : (s.slot i).assigned % 64 = 0)
    (hb : (if scan then s.freeCount else s.unreserved) = 0) :
    s.assignLine i scan = (s, .noBand) := by
  unfold State.assignLine
  exact (if_neg hl).trans ((if_pos hm).trans (if_pos hb))

theorem assignLine_at_band (hl : (s.slot i).assigned ≠ (s.slot i).limit)
    (hm : (s.slot i).assigned % 64 = 0)
    (hb : (if scan then s.freeCount else s.unreserved) ≠ 0) :
    s.assignLine i scan =
      (s.takeBand i scan, .line ((s.slot i).assigned + 1)
        ((s.takeBand i scan).lineAddr i ((s.slot i).assigned + 1))) := by
  unfold State.assignLine
  exact (if_neg hl).trans ((if_pos hm).trans (if_neg hb))

theorem assignLine_in_band (hl : (s.slot i).assigned ≠ (s.slot i).limit)
    (hm : (s.slot i).assigned % 64 ≠ 0) :
    s.assignLine i scan =
      (s.withLine i, .line ((s.slot i).assigned + 1)
        ((s.withLine i).lineAddr i ((s.slot i).assigned + 1))) := by
  unfold State.assignLine
  exact (if_neg hl).trans (if_neg hm)

variable (i b rest scan)

@[simp] theorem returnBands_free' (bs : List Nat) :
    (s.returnBands bs).page.free = s.page.free ++ bs := rfl

@[simp] theorem withLine_slot_self :
    (s.withLine i).slot i = { s.slot i with assigned := (s.slot i).assigned + 1 } :=
  slot_setSlot_self s i _

@[simp] theorem withBand_slot_self : (s.withBand i b rest scan).slot i =
    { s.slot i with assigned := (s.slot i).assigned + 1, chain := (s.slot i).chain ++ [b] } :=
  slot_setSlot_self s i _

@[simp] theorem withBand_free : (s.withBand i b rest scan).page.free = rest := rfl

variable {i}

theorem withLine_slot_of_ne {j : Fin 16} (h : j ≠ i) : (s.withLine i).slot j = s.slot j :=
  slot_setSlot_of_ne s _ h

theorem withBand_slot_of_ne {j : Fin 16} (h : j ≠ i) :
    (s.withBand i b rest scan).slot j = s.slot j :=
  slot_setSlot_of_ne s _ h

end

/-! ## The bands of one page and those of the others -/

/-- The bands held by the pages other than one. -/
def bandsBut (s : State) (i : Fin 16) : List Nat := (ids16.erase i).flatMap fun j => (s.slot j).chain

theorem heldBands_perm (s : State) (i : Fin 16) :
    (heldBands s).Perm ((s.slot i).chain ++ bandsBut s i) := by
  have h : ids16.Perm (i :: ids16.erase i) := List.perm_cons_erase (List.mem_finRange i)
  simpa [heldBands, bandsBut] using h.flatMap_right fun j => (s.slot j).chain

theorem bandsBut_congr {s t : State} {i : Fin 16} (h : ∀ j, j ≠ i → t.slot j = s.slot j) :
    bandsBut t i = bandsBut s i := by
  have hm : ∀ j ∈ ids16.erase i, (t.slot j).chain = (s.slot j).chain := fun j hj => by
    rw [h j ((List.nodup_finRange 16).mem_erase_iff.mp hj).1]
  simp only [bandsBut, List.flatMap]
  rw [List.map_congr_left hm]

/-- Bands move between the free list and the chain of one page. -/
structure BandMove (i : Fin 16) (s t : State) : Prop where
  others : ∀ j, j ≠ i → t.slot j = s.slot j
  bands : t.page.geo.bands = s.page.geo.bands
  moved : (t.page.free ++ (t.slot i).chain).Perm (s.page.free ++ (s.slot i).chain)

theorem BandMove.refl (i : Fin 16) (s : State) : BandMove i s s :=
  ⟨fun _ _ => rfl, rfl, .refl _⟩

theorem BandMove.trans {i : Fin 16} {a b c : State} (h : BandMove i a b) (k : BandMove i b c) :
    BandMove i a c :=
  ⟨fun j hj => (k.others j hj).trans (h.others j hj), k.bands.trans h.bands, k.moved.trans h.moved⟩

/-- What moves between the free list and one chain is neither lost nor doubled. -/
theorem BandMove.conserved {i : Fin 16} {s t : State} (h : BandMove i s t) (hs : Conserved s) :
    Conserved t := by
  unfold Conserved at *
  rw [h.bands]
  refine .trans ?_ hs
  have ht := (heldBands_perm t i).append_left t.page.free
  rw [bandsBut_congr h.others, ← List.append_assoc] at ht
  have hs' := (heldBands_perm s i).append_left s.page.free
  rw [← List.append_assoc] at hs'
  exact ht.trans ((h.moved.append_right _).trans hs'.symm)

variable (s : State) (i : Fin 16)

/-- A record replaced by one of the same chain moves no band. -/
theorem setSlot_bandMove {p : Page} (h : p.chain = (s.slot i).chain) : BandMove i s (s.setSlot i p) :=
  ⟨fun _ hj => slot_setSlot_of_ne s p hj, rfl, by simp [h]⟩

theorem poolTest_bandMove : BandMove i s s.poolTest :=
  ⟨fun j _ => poolTest_slot s j, by simp, by simp⟩

/-- Bands that leave a chain for the free list. -/
theorem returnFrom_bandMove {p : Page} {bs : List Nat} (h : (p.chain ++ bs).Perm (s.slot i).chain) :
    BandMove i s ((s.setSlot i p).returnBands bs).poolTest := by
  have h1 : BandMove i s ((s.setSlot i p).returnBands bs) := by
    refine ⟨fun j hj => ?_, rfl, ?_⟩
    · rw [returnBands_slot, slot_setSlot_of_ne s p hj]
    · rw [returnBands_free', returnBands_slot, slot_setSlot_self, List.append_assoc]
      exact (List.perm_append_comm.trans h).append_left s.page.free
  exact h1.trans (poolTest_bandMove _ i)

theorem releaseTest_bandMove : BandMove i s (s.releaseTest i) := by
  unfold State.releaseTest
  dsimp only
  split
  · exact returnFrom_bandMove s i (.refl _)
  · exact .refl i s

theorem freeBehind_bandMove : BandMove i s (s.freeBehind i) := by
  unfold State.freeBehind
  dsimp only
  split
  · rename_i b rest n hc _
    split
    · exact returnFrom_bandMove s i (by simp [hc])
    · exact .refl i s
  · exact .refl i s

theorem leave_bandMove (ch : Channel) (release : Bool) : BandMove i s (s.leave i ch release) := by
  refine .trans (setSlot_bandMove s i ?_) (releaseTest_bandMove _ i)
  cases ch <;> rfl

theorem takeBand_bandMove (scan : Bool) : BandMove i s (s.takeBand i scan) := by
  cases hf : s.page.free with
  | nil =>
    rw [takeBand_of_nil s hf]
    exact .refl i s
  | cons b rest =>
    have h : BandMove i s (s.withBand i b rest scan) := by
      refine ⟨fun j hj => withBand_slot_of_ne s b rest scan hj, rfl, ?_⟩
      rw [withBand_slot_self, withBand_free, hf]
      simpa using List.perm_append_singleton b (rest ++ (s.slot i).chain)
    rw [takeBand_of_cons s hf]
    exact (h.trans (poolTest_bandMove _ i)).trans (freeBehind_bandMove _ i)

theorem assignLine_bandMove (scan : Bool) : BandMove i s (s.assignLine i scan).1 := by
  by_cases hl : (s.slot i).assigned = (s.slot i).limit
  · rw [assignLine_at_limit s hl]
    exact .refl i s
  by_cases hm : (s.slot i).assigned % 64 = 0
  · by_cases hb : (if scan then s.freeCount else s.unreserved) = 0
    · rw [assignLine_without_band s hl hm hb]
      exact .refl i s
    · rw [assignLine_at_band s hl hm hb]
      exact takeBand_bandMove s i scan
  · rw [assignLine_in_band s hl hm]
    refine ⟨fun j hj => withLine_slot_of_ne s hj, rfl, ?_⟩
    rw [withLine_slot_self]
    exact .refl _

theorem closePage_bandMove (cut : Bool) : BandMove i s (s.closePage i cut) := by
  unfold State.closePage
  dsimp only
  refine .trans ?_ (freeBehind_bandMove _ i)
  generalize dropUsed s.page.used (s.slot i).chain.reverse _ = used
  have hu : BandMove i s { s with page := { s.page with used } } := ⟨fun _ _ => rfl, rfl, .refl _⟩
  refine hu.trans ?_
  split
  · exact setSlot_bandMove _ i rfl
  · rename_i h
    refine returnFrom_bandMove _ i ?_
    have : (s.slot i).chain.dropLast ++ (s.slot i).chain.drop ((s.slot i).chain.length - 1) =
        (s.slot i).chain := by
      rw [List.dropLast_eq_take, List.take_append_drop]
    simp only [this]
    exact .refl _

theorem completePage_bandMove (cut : Bool) : BandMove i s (s.completePage i cut) :=
  (closePage_bandMove s i cut).trans (releaseTest_bandMove _ i)

/-- Settles O7: each operation only moves bands between the free list and the chain of its page. -/
theorem bandMovesConserveBands : Obligations.BandMovesConserveBands := by
  intro s i ch scan cut release hs
  exact ⟨(takeBand_bandMove s i scan).conserved hs, (freeBehind_bandMove s i).conserved hs,
    (releaseTest_bandMove s i).conserved hs, (closePage_bandMove s i cut).conserved hs,
    (completePage_bandMove s i cut).conserved hs, (leave_bandMove s i ch release).conserved hs,
    (assignLine_bandMove s i scan).conserved hs⟩

end Sys2Proof.Machine
end

section
/-! PROOFS. Every command carries the canonical memory, the reservation bound and the room of the print queue over:
one lemma for each row, of its effect, and one for `exec`. -/

namespace Sys2Proof.Machine

/-- What a command answers, when it answers a next state, satisfies `P`. -/
def Answers (P : State → Prop) (o : Host.Outcome State Fault Refusal) : Prop := ∀ t, o = .next t → P t

theorem next_answers {P : State → Prop} {t : State} (h : P t) : Answers P (.next t) := by
  intro u hu
  cases hu
  exact h

/-- A row answers the state as it is, or its effect settled (log 1). -/
theorem runIf_answers {P : State → Prop} {due : Bool} {s e : State} (hs : P s)
    (he : due = true → P e.settle) : Answers P (runIf due s e) := by
  intro t ht
  cases due with
  | false =>
    cases ht
    exact hs
  | true =>
    obtain rfl := Host.Outcome.next.inj ((runIf_of rfl s e).symm.trans ht)
    exact he rfl

variable (s : State)

variable {s} in
/-- A row carries the invariants when its effect does. -/
theorem runIf_carries {due : Bool} {e : State} (h : Carries s e) :
    Answers (Carries s) (runIf due s e) :=
  runIf_answers (.refl s) fun _ => h.trans (settle_carries e)

theorem idle_carries : Answers (Carries s) (runIf false s s) := runIf_carries (.refl s)

variable {s} in
/-- An operation that leaves memory and page memory as they are, and no more promised to the print queue. -/
theorem Carries.printPath {t : State} (hm : t.mem = s.mem) (hf : t.page.free = s.page.free)
    (hr : t.page.r = s.page.r) (hq : QueueOk s → QueueOk t) : Carries s t :=
  ⟨fun h => by simpa [MemoryOk, hm] using h, fun h => by simpa [ReservationOk, hf, hr] using h, hq⟩

/-! ## Start-up and the host port -/

theorem powerOn_carries (cause : ResetCause) (rom : List Word) (free : Nat) (pending : List Instr) :
    Carries s (State.powerOn cause rom free pending) :=
  ⟨fun _ => rfl, fun _ => Nat.zero_le _, fun _ => Nat.zero_le _⟩

theorem execHardReset_carries (cause : ResetCause) (rom : Option (List Word)) :
    Answers (Carries s) (execHardReset cause rom s) :=
  runIf_carries (powerOn_carries s _ _ _ _)

theorem boot_carries (b : BootUnit) : Carries s { s with boot := b } := .same rfl rfl rfl rfl

theorem execProbe_carries (cfgskip : Bool) (lines : BitVec 16) :
    Answers (Carries s) (execProbe cfgskip lines s) := by
  refine runIf_carries ?_
  split
  · exact boot_carries s _
  · exact (boot_carries s _).trans (bringUp_carries _ _ _)

theorem execProbeWordReadEnd_carries (lines : BitVec 16) :
    Answers (Carries s) (execProbeWordReadEnd lines s) := by
  refine runIf_carries ?_
  split
  · exact (boot_carries s _).trans (bringUp_carries _ _ _)
  · exact boot_carries s _

theorem execImageReadEnd_carries (lines : BitVec 16) :
    Answers (Carries s) (execImageReadEnd lines s) :=
  runIf_carries ((boot_carries s _).trans (bringUp_carries _ _ _))

theorem execHostRelease_carries : Answers (Carries s) (execHostRelease s) :=
  runIf_carries (.same rfl rfl rfl rfl)

theorem writeCommandWord_carries (v : Word) : Carries s (s.writeCommandWord v) := by
  unfold State.writeCommandWord
  split
  · exact .same rfl rfl rfl rfl
  · exact .refl s

theorem writeReportWord_carries (v : Word) : Carries s (s.writeReportWord v) := by
  unfold State.writeReportWord
  split
  · exact .same rfl rfl rfl rfl
  · exact .refl s

theorem attentionCycle_carries (report : Bool) (write : Option Word) :
    Carries s (s.attentionCycle report write) := by
  unfold State.attentionCycle
  split
  · split
    · exact writeReportWord_carries s _
    · exact writeCommandWord_carries s _
  · exact .same rfl rfl rfl rfl

theorem execHostMemoryCycle_carries (hasel : Bool) (a : BitVec 21) (write : Option Word) :
    Answers (Carries s) (execHostMemoryCycle hasel a write s) := by
  refine runIf_carries ?_
  split
  · exact attentionCycle_carries s _ _
  · exact .same rfl rfl rfl rfl

theorem serveHost_carries (c : HostCycle) : Carries s (s.serveHost c) := by
  unfold State.serveHost
  split
  · exact write_carries s _ c.addr _ rfl rfl rfl rfl
  · exact .same rfl rfl rfl rfl

theorem execHostWordServed_carries : Answers (Carries s) (execHostWordServed s) := by
  unfold execHostWordServed
  split
  · exact runIf_carries ((serveHost_carries s _).trans (freePort_carries _))
  · exact idle_carries s

theorem execRefreshDue_carries : Answers (Carries s) (execRefreshDue s) :=
  runIf_carries (.same rfl rfl rfl rfl)

theorem execRefreshEnd_carries : Answers (Carries s) (execRefreshEnd s) :=
  runIf_carries (freePort_carries s)

/-! ## The record unit -/

theorem execCommandFetchEnd_carries : Answers (Carries s) (execCommandFetchEnd s) :=
  runIf_carries ((releasePort_carries s).trans (.same rfl rfl rfl rfl))

theorem execUnknownCommand_carries : Answers (Carries s) (execUnknownCommand s) :=
  runIf_carries (refuse_carries s _)

theorem execReportWriteEnd_carries : Answers (Carries s) (execReportWriteEnd s) := by
  unfold execReportWriteEnd
  split
  · exact runIf_carries ((advanceProducer_carries s _).trans (posted_carries _ _))
  · exact idle_carries s

theorem execProducerIndexWriteEnd_carries : Answers (Carries s) (execProducerIndexWriteEnd s) := by
  unfold execProducerIndexWriteEnd
  split
  · exact runIf_carries ((writeWord_carries s _ _).trans (boot_carries _ _))
  · exact idle_carries s

theorem execConsumerIndexWriteEnd_carries : Answers (Carries s) (execConsumerIndexWriteEnd s) := by
  unfold execConsumerIndexWriteEnd
  split
  · dsimp only
    split
    · exact runIf_carries ((writeWord_carries s _ _).trans (boot_carries _ _))
    · exact runIf_carries ((writeWord_carries s _ _).trans (.same rfl rfl rfl rfl))
  · exact idle_carries s

theorem execPageQueryFirstWriteEnd_carries :
    Answers (Carries s) (execPageQueryFirstWriteEnd s) := by
  unfold execPageQueryFirstWriteEnd
  split
  · exact runIf_carries (releaseWrite_carries s _ _ _ rfl rfl rfl rfl)
  · exact idle_carries s

theorem execPageQueryWriteEnd_carries : Answers (Carries s) (execPageQueryWriteEnd s) := by
  unfold execPageQueryWriteEnd
  split
  · exact runIf_carries (.after (complete_carries _ _ _)
      (releaseWrite_carries s _ _ _ rfl rfl rfl rfl))
  · exact idle_carries s

/-! ## Commands to the channels -/

theorem startCommand_carries : Carries s s.startCommand := by
  unfold State.startCommand
  dsimp only
  split
  · exact refuse_carries s _
  split
  · exact refuse_carries s _
  split
  · exact refuse_carries s _
  split
  · exact refuse_carries s _
  · exact (leaveDoze_carries s _).trans ((setChan_carries _ _ _).trans (complete_carries _ _ _))

theorem execStartChain_carries : Answers (Carries s) (execStartChain s) :=
  runIf_carries (startCommand_carries s)

theorem stopPause_carries : Carries s s.stopPause := by
  unfold State.stopPause
  dsimp only
  split
  · exact refuse_carries s _
  split
  · exact refuse_carries s _
  · exact (askPause_carries s _ _).trans (complete_carries _ _ _)

theorem execStopChannelPause_carries : Answers (Carries s) (execStopChannelPause s) :=
  runIf_carries (stopPause_carries s)

theorem stopAbort_carries : Carries s s.stopAbort := by
  unfold State.stopAbort
  dsimp only
  split
  · exact refuse_carries s _
  split
  · exact refuse_carries s _
  · exact (askAbort_carries s _).trans (complete_carries _ _ _)

theorem execStopChannelAbort_carries : Answers (Carries s) (execStopChannelAbort s) :=
  runIf_carries (stopAbort_carries s)

theorem resumeCommand_carries : Carries s s.resumeCommand := by
  unfold State.resumeCommand
  split
  · exact refuse_carries s _
  dsimp only
  split
  · exact refuse_carries s _
  · exact .after (complete_carries _ _ _) (.after (endPosted_carries _ _)
      (.after (freeBudget_carries _ _) (setChan_carries s _ _)))
  · split
    · exact (continueChain_carries s _).trans (complete_carries _ _ _)
    · exact refuse_carries s _

theorem execResumeChannel_carries : Answers (Carries s) (execResumeChannel s) :=
  runIf_carries (resumeCommand_carries s)

/-! ## Commands to the motors, and the motors' steps -/

theorem moveCommand_carries : Carries s s.moveCommand := by
  unfold State.moveCommand
  dsimp only
  split
  · exact refuse_carries s _
  split
  · split
    · exact refuse_carries s _
    split
    · exact refuse_carries s _
    split
    · exact refuse_carries s _
    split
    · exact refuse_carries s _
    · exact (leaveDoze_carries s _).trans ((startMove_carries _ _ _ _ _ _).trans
        (complete_carries _ _ _))
  · exact refuse_carries s _

theorem execMotorMove_carries : Answers (Carries s) (execMotorMove s) :=
  runIf_carries (moveCommand_carries s)

theorem stopRampCommand_carries : Carries s s.stopRampCommand := by
  unfold State.stopRampCommand
  dsimp only
  split
  · exact refuse_carries s _
  split
  · exact refuse_carries s _
  split
  · exact refuse_carries s _
  · exact (setMotor_carries s _ _).trans (complete_carries _ _ _)

theorem execMotorStopRamp_carries : Answers (Carries s) (execMotorStopRamp s) :=
  runIf_carries (stopRampCommand_carries s)

theorem stopNowCommand_carries : Carries s s.stopNowCommand := by
  unfold State.stopNowCommand
  dsimp only
  split
  · exact refuse_carries s _
  split
  · exact refuse_carries s _
  · exact (haltMotor_carries s _ _).trans (complete_carries _ _ _)

theorem execMotorStopImmediate_carries : Answers (Carries s) (execMotorStopImmediate s) :=
  runIf_carries (stopNowCommand_carries s)

theorem motorResumeCommand_carries : Carries s s.motorResumeCommand := by
  unfold State.motorResumeCommand
  split
  · exact refuse_carries s _
  · exact (setMotor_carries s _ _).trans (complete_carries _ _ _)

theorem execMotorResume_carries : Answers (Carries s) (execMotorResume s) :=
  runIf_carries (motorResumeCommand_carries s)

theorem motorReleaseCommand_carries : Carries s s.motorReleaseCommand := by
  unfold State.motorReleaseCommand
  split
  · exact refuse_carries s _
  split
  · exact refuse_carries s _
  · exact (setMotor_carries s _ _).trans (complete_carries _ _ _)

theorem execMotorRelease_carries : Answers (Carries s) (execMotorRelease s) :=
  runIf_carries (motorReleaseCommand_carries s)

theorem execMotorStep_carries (m : MotorId) : Answers (Carries s) (execMotorStep m s) := by
  refine runIf_carries ?_
  split
  · exact setMotor_carries s _ _
  · exact issueStep_carries s _

theorem execHoldTimerExpiry_carries (m : MotorId) :
    Answers (Carries s) (execHoldTimerExpiry m s) :=
  runIf_carries (setMotor_carries s _ _)

/-! ## Tables -/

theorem loadCommand_carries : Carries s s.loadCommand := by
  unfold State.loadCommand
  dsimp only
  split
  · exact refuse_carries s _
  split
  · exact refuse_carries s _
  split
  · exact refuse_carries s _
  split
  · exact refuse_carries s _
  · exact (leaveDoze_carries s _).trans (startWork_carries _ _)

theorem headClassCommand_carries : Carries s s.headClassCommand :=
  .printPath rfl rfl rfl id

theorem execScanTableBurstEnd_carries : Answers (Carries s) (execScanTableBurstEnd s) := by
  unfold execScanTableBurstEnd
  split
  · dsimp only
    split
    iterate 2
      exact runIf_carries (.after (loadOn_carries _ _)
        (.after (fillScan_carries _ _ _ _) (releasePort_carries s)))
    exact idle_carries s
  · exact idle_carries s

theorem execStrobeLoadEnd_carries : Answers (Carries s) (execStrobeLoadEnd s) := by
  unfold execStrobeLoadEnd
  split
  · exact runIf_carries ((releasePort_carries s).trans
      (.after (complete_carries _ _ _) (.printPath rfl rfl rfl id)))
  · exact idle_carries s

theorem execRampLoadEnd_carries : Answers (Carries s) (execRampLoadEnd s) := by
  unfold execRampLoadEnd
  split
  · dsimp only
    split
    · refine runIf_carries ?_
      split
      · exact (releasePort_carries s).trans (complete_carries _ _ _)
      · exact (releasePort_carries s).trans ((replaceRamp_carries _ _ _).trans
          (complete_carries _ _ _))
    · exact idle_carries s
  · exact idle_carries s

theorem execPhaseLoadEnd_carries : Answers (Carries s) (execPhaseLoadEnd s) := by
  unfold execPhaseLoadEnd
  split
  · dsimp only
    split
    · exact runIf_carries ((releasePort_carries s).trans ((setMotor_carries _ _ _).trans
        (complete_carries _ _ _)))
    · exact idle_carries s
  · exact idle_carries s

/-! ## Commands to page memory and the sensor unit -/

theorem queryCommand_carries : Carries s s.queryCommand := by
  unfold State.queryCommand
  dsimp only
  split
  · exact refuse_carries s _
  split
  · exact refuse_carries s _
  split
  · exact startWork_carries s _
  split
  · exact startWork_carries s _
  · exact refuseRef_carries s _

theorem execPageQuery_carries : Answers (Carries s) (execPageQuery s) :=
  runIf_carries (queryCommand_carries s)

theorem releaseCommand_carries : Carries s s.releaseCommand := by
  unfold State.releaseCommand
  dsimp only
  split
  · exact (setSlot_carries s _ _).trans ((releaseTest_carries _ _).trans (complete_carries _ _ _))
  · exact refuseRef_carries s _

theorem execPageRelease_carries : Answers (Carries s) (execPageRelease s) :=
  runIf_carries (releaseCommand_carries s)

theorem sensorConfigCommand_carries : Carries s s.sensorConfigCommand := by
  unfold State.sensorConfigCommand
  dsimp only
  split
  · exact refuse_carries s _
  · exact refuse_carries s _
  · exact (configGate_carries s _ _).trans (complete_carries _ _ _)

theorem execSensorConfig_carries : Answers (Carries s) (execSensorConfig s) :=
  runIf_carries (sensorConfigCommand_carries s)

theorem priorityCommand_carries : Carries s s.priorityCommand := by
  unfold State.priorityCommand
  dsimp only
  split
  · exact refuse_carries s _
  · exact (setPriority_carries s _ _).trans (complete_carries _ _ _)

theorem execEventPriority_carries : Answers (Carries s) (execEventPriority s) :=
  runIf_carries (priorityCommand_carries s)

theorem execEventThreshold_carries : Answers (Carries s) (execEventThreshold s) :=
  runIf_carries (.same rfl rfl rfl rfl)

theorem execSensorSample_carries (lines : BitVec 16) :
    Answers (Carries s) (execSensorSample lines s) :=
  runIf_carries (takeSamples_carries s _ _ _)

theorem execDebounceLevelChange_carries (g : Fin 16) :
    Answers (Carries s) (execDebounceLevelChange g s) :=
  runIf_carries (changeLevel_carries s g)

/-! ## Power -/

theorem powerCommand_carries {e : State} (h : Carries s e) : Carries s (s.powerCommand e) := by
  unfold State.powerCommand
  split
  · exact refuse_carries s _
  · exact h.trans (complete_carries _ _ _)

theorem powerRun_carries : Carries s s.powerRun := by
  unfold State.powerRun
  split
  · exact .same rfl rfl rfl rfl
  · exact leaveDoze_carries s _

theorem powerDoze_carries : Carries s s.powerDoze := by
  unfold State.powerDoze
  split
  · exact .refl s
  · exact .same rfl rfl rfl rfl

theorem execDrainTimerExpiry_carries : Answers (Carries s) (execDrainTimerExpiry s) := by
  unfold execDrainTimerExpiry
  split
  · split
    · exact runIf_carries (abandonDrain_carries s _ _)
    · exact idle_carries s
  · exact idle_carries s

theorem execDozeEntry_carries (n : Nat) : Answers (Carries s) (execDozeEntry n s) :=
  runIf_carries (.after (raise_carries _ _ _ _) (.same rfl rfl rfl rfl))

theorem execSleepEntry_carries : Answers (Carries s) (execSleepEntry s) :=
  runIf_carries (.after (afterGrant_carries _) (.same rfl rfl rfl rfl))

theorem port_carries (p : DramPort) : Carries s { s with port := p } := .same rfl rfl rfl rfl

theorem leaveSelfRefresh_carries : Carries s s.leaveSelfRefresh :=
  (port_carries s { s.port with mode := .running }).trans
    ((judgeCycle_carries _).trans (port_carries _ _))

theorem execSelfRefreshExitEnd_carries : Answers (Carries s) (execSelfRefreshExitEnd s) :=
  runIf_carries ((leaveSelfRefresh_carries s).trans
    (.after (raise_carries _ _ _ _) (.same rfl rfl rfl rfl)))

/-! ## Status, engine reset, reload and store -/

theorem execStatusQuery_carries : Answers (Carries s) (execStatusQuery s) := by
  refine runIf_carries ?_
  unfold State.statusCommand
  dsimp only
  split
  · exact refuse_carries s _
  · exact complete_carries s _ _

theorem clearBlock_carries (b m : Nat) : Carries s (s.clearBlock b m) := by
  unfold State.clearBlock
  split
  iterate 7 exact .same rfl rfl rfl rfl
  split
  · exact setChan_carries s _ _
  · exact .refl s

theorem execClearFlags_carries : Answers (Carries s) (execClearFlags s) := by
  refine runIf_carries ?_
  unfold State.clearCommand
  dsimp only
  split
  · exact refuse_carries s _
  · exact (clearBlock_carries s _ _).trans (complete_carries _ _ _)

theorem execEngineReset_carries : Answers (Carries s) (execEngineReset s) :=
  runIf_carries ((engineReset_carries s).trans (complete_carries _ _ _))

theorem execConfigReload_carries : Answers (Carries s) (execConfigReload s) := by
  refine runIf_carries ?_
  unfold State.reloadCommand
  split
  · exact refuse_carries s _
  split
  · exact refuse_carries s _
  · exact startWork_carries s _

theorem reloadEnd_carries (r : Reading) : Carries s (s.reloadEnd r) := by
  unfold State.reloadEnd
  dsimp only
  split
  · exact (boot_carries s _).trans ((putInForce_carries _ _).trans (complete_carries _ _ _))
  · exact (boot_carries s _).trans (complete_carries _ _ _)

theorem execReloadReadEnd_carries : Answers (Carries s) (execReloadReadEnd s) :=
  runIf_carries (reloadEnd_carries s _)

theorem storeCommand_carries : Carries s s.storeCommand := by
  unfold State.storeCommand
  dsimp only
  split
  · exact refuse_carries s _
  split
  · exact refuse_carries s _
  split
  · exact refuse_carries s _
  split
  · exact refuse_carries s _
  · exact (boot_carries s _).trans (complete_carries _ _ _)

theorem execConfigStore_carries : Answers (Carries s) (execConfigStore s) :=
  runIf_carries (storeCommand_carries s)

theorem execStoreSourceBurstEnd_carries : Answers (Carries s) (execStoreSourceBurstEnd s) := by
  unfold execStoreSourceBurstEnd
  split
  · exact runIf_carries ((releasePort_carries s).trans (setStore_carries _ _))
  · exact idle_carries s

theorem execStoreWordShifted_carries : Answers (Carries s) (execStoreWordShifted s) := by
  unfold execStoreWordShifted
  split
  · split
    · exact runIf_carries (.same rfl rfl rfl rfl)
    · exact idle_carries s
  · exact idle_carries s

theorem execEepromReady_carries : Answers (Carries s) (execEepromReady s) := by
  unfold execEepromReady
  split
  · exact runIf_carries (setStore_carries s _)
  · exact idle_carries s

theorem execEepromReadyTimeout_carries : Answers (Carries s) (execEepromReadyTimeout s) := by
  unfold execEepromReadyTimeout
  split
  · exact runIf_carries (storeFailed_carries s _)
  · exact idle_carries s

theorem execStoreReadbackEnd_carries (w : Word) : Answers (Carries s) (execStoreReadbackEnd w s) := by
  unfold execStoreReadbackEnd
  split
  · split
    · refine runIf_carries ?_
      split
      · exact .after (storeOn_carries _ _ _) (.same rfl rfl rfl rfl)
      · exact .after (storeFailed_carries _ _) (.same rfl rfl rfl rfl)
    · exact idle_carries s
  · exact idle_carries s

/-! ## Chain entries -/

theorem execEntryFetchEnd_carries : Answers (Carries s) (execEntryFetchEnd s) := by
  unfold execEntryFetchEnd
  split
  · dsimp only
    split
    · exact runIf_carries ((releasePort_carries s).trans (setChan_carries _ _ _))
    · exact runIf_carries (releasePort_carries s)
  · exact idle_carries s

section
variable (ch : Channel)

theorem execOpenWrite_carries : Answers (Carries s) (execOpenWrite ch s) := by
  unfold execOpenWrite
  split
  · exact runIf_carries (openWriteEntry_carries s _ _ _ _ _)
  · exact idle_carries s

theorem execOpenRead_carries : Answers (Carries s) (execOpenRead ch s) := by
  unfold execOpenRead
  split
  · exact runIf_carries (openReadEntry_carries s _ _ _ _ _ _ _)
  · exact idle_carries s

theorem execLines_carries : Answers (Carries s) (execLines ch s) := by
  unfold execLines
  split
  · exact runIf_carries (beginLines_carries s _ _ _ _)
  · exact idle_carries s

theorem execSetProcessing_carries : Answers (Carries s) (execSetProcessing ch s) := by
  unfold execSetProcessing
  split
  · refine runIf_carries ?_
    unfold State.setProcessingEntry
    split
    · exact faultEntry_carries s _ _
    split
    · exact startWait_carries s _ _
    · exact select_carries s _ _
  · exact idle_carries s

theorem linkMotorEntry_carries (m : MotorId) (spl : Nat) (n : Fin 4) (top : Nat) :
    Carries s (s.linkMotorEntry ch m spl n top) := by
  unfold State.linkMotorEntry
  split
  · exact startWait_carries s _ _
  split
  · exact faultEntry_carries s _ _
  · exact link_carries s _ _ _ _ _

theorem execLinkMotor_carries : Answers (Carries s) (execLinkMotor ch s) := by
  unfold execLinkMotor
  split
  · split
    · exact runIf_carries (linkMotorEntry_carries s _ _ _ _ _)
    · exact runIf_carries (faultEntry_carries s _ _)
  · exact idle_carries s

theorem execUnlink_carries : Answers (Carries s) (execUnlink ch s) := by
  unfold execUnlink
  split
  · split
    · exact runIf_carries ((unlinkMotor_carries s _).trans (endEntry_carries _ _))
    · exact runIf_carries (faultEntry_carries s _ _)
  · exact idle_carries s

theorem execWaitLine_carries : Answers (Carries s) (execWaitLine ch s) := by
  unfold execWaitLine
  split
  · refine runIf_carries ?_
    unfold State.waitLineEntry
    dsimp only
    split
    · exact endEntry_carries s _
    · exact setChan_carries s _ _
  · exact idle_carries s

theorem execCloseWriter_carries : Answers (Carries s) (execCloseWriter ch s) := by
  unfold execCloseWriter
  split
  · exact runIf_carries (closeWriterEntry_carries s _)
  · exact idle_carries s

theorem execCloseReader_carries : Answers (Carries s) (execCloseReader ch s) := by
  unfold execCloseReader
  split
  · exact runIf_carries (closeReaderEntry_carries s _)
  · exact idle_carries s

theorem execMark_carries : Answers (Carries s) (execMark ch s) := by
  unfold execMark
  split
  · exact runIf_carries (notifyEnding_carries s _ _)
  · exact idle_carries s

theorem execJump_carries : Answers (Carries s) (execJump ch s) := by
  unfold execJump
  split
  · refine runIf_carries ?_
    unfold State.jumpEntry
    split
    · exact setChan_carries s _ _
    · exact faultEntry_carries s _ _
  · exact idle_carries s

theorem execEndEntry_carries : Answers (Carries s) (execEndEntry ch s) := by
  unfold execEndEntry
  split
  · exact runIf_carries (notifyEnding_carries s _ _)
  · exact idle_carries s

theorem execUnknownEntry_carries : Answers (Carries s) (execUnknownEntry ch s) := by
  unfold execUnknownEntry
  split
  · exact runIf_carries (faultEntry_carries s _ _)
  · exact idle_carries s

/-! ## The ends of waits and the boundaries -/

theorem runAgain_carries : Carries s (s.runAgain ch) := setChan_carries s _ _

theorem execSlotHanded_carries : Answers (Carries s) (execSlotHanded s) := by
  unfold execSlotHanded
  split
  · split
    · exact runIf_carries (.after (openSlot_carries _ _ _ _ _ _ _) (.same rfl rfl rfl rfl))
    · exact idle_carries s
  · exact idle_carries s

theorem execPeerPageResolved_carries : Answers (Carries s) (execPeerPageResolved ch s) := by
  unfold execPeerPageResolved
  split
  · split
    · exact runIf_carries ((runAgain_carries s ch).trans (openResolved_carries _ _ _ _ _ _))
    · exact idle_carries s
  · exact idle_carries s

theorem execWaitCompleteEnd_carries : Answers (Carries s) (execWaitCompleteEnd ch s) := by
  unfold execWaitCompleteEnd
  split
  · exact runIf_carries ((runAgain_carries s ch).trans (openResolved_carries _ _ _ _ _ _))
  · exact idle_carries s

theorem execWaitGateEnd_carries : Answers (Carries s) (execWaitGateEnd ch s) := by
  unfold execWaitGateEnd
  split
  · exact runIf_carries ((runAgain_carries s ch).trans (endEntry_carries _ _))
  · exact idle_carries s

theorem execWaitLineTimeout_carries : Answers (Carries s) (execWaitLineTimeout ch s) :=
  runIf_carries (faultEntry_carries s ch .waitExpired)

theorem execPauseBoundaryReached_carries : Answers (Carries s) (execPauseBoundaryReached ch s) := by
  unfold execPauseBoundaryReached
  split
  · exact runIf_carries (pauseNow_carries s _ _)
  · exact idle_carries s

theorem execAbortBoundaryReached_carries : Answers (Carries s) (execAbortBoundaryReached ch s) := by
  unfold execAbortBoundaryReached
  split
  · exact runIf_carries (abortNow_carries s _)
  · exact idle_carries s

end

/-! ## The paths of the lines -/

theorem execLineReadEnd_carries : Answers (Carries s) (execLineReadEnd s) := by
  unfold execLineReadEnd
  split
  · exact runIf_carries ((releasePort_carries s).trans ((advanceReader_carries _ _).trans
      ((handOver_carries _ _ _ _).trans (endIfRead_carries _ _))))
  · exact idle_carries s

theorem execCaptureEnd_carries (v : List Byte) : Answers (Carries s) (execCaptureEnd v s) := by
  unfold execCaptureEnd
  split
  · exact runIf_carries (finishCapture_carries s _ _)
  · exact idle_carries s

theorem execScanWriteEnd_carries : Answers (Carries s) (execScanWriteEnd s) := by
  unfold execScanWriteEnd
  split
  · exact runIf_carries ((endBurst_carries s _).trans ((releasePort_carries _).trans
      (storeScan_carries _ _)))
  · exact idle_carries s

theorem execStrobePhaseEnd_carries : Answers (Carries s) (execStrobePhaseEnd s) := by
  unfold execStrobePhaseEnd
  split
  · refine runIf_carries ?_
    split
    · exact .printPath rfl rfl rfl id
    · exact burnEnd_carries s
  · exact idle_carries s

theorem execFrameSendStart_carries (o : CoderOffer) :
    Answers (Carries s) (execFrameSendStart o s) :=
  runIf_carries ((coder_carries s _).trans (setChan_carries _ _ _))

theorem execFrameTaken_carries : Answers (Carries s) (execFrameTaken s) := by
  unfold execFrameTaken
  split
  · exact runIf_carries ((coder_carries s _).trans (closeSent_carries _ _))
  · exact idle_carries s

theorem execPageEndReceived_carries : Answers (Carries s) (execPageEndReceived s) := by
  refine runIf_carries ?_
  split
  · exact (coder_carries s _).trans (endEntry_carries _ _)
  · exact coder_carries s _

theorem execCodeInSlotWriteEnd_carries : Answers (Carries s) (execCodeInSlotWriteEnd s) := by
  unfold execCodeInSlotWriteEnd
  split
  · exact runIf_carries (.after (limitIfFull_carries _) (.after (goodStored_carries _)
      (.after (releasePort_carries _) (endBurst_carries s _))))
  · exact idle_carries s

theorem execConcealmentStored_carries : Answers (Carries s) (execConcealmentStored s) := by
  unfold execConcealmentStored
  split
  · exact runIf_carries (.after (limitIfFull_carries _) (.after (concealmentStored_carries _)
      (.after (releasePort_carries _) (endBurst_carries s _))))
  · exact idle_carries s

/-! ## Every command -/

/-- Every command carries the three invariants over. -/
theorem exec_carries (c : Instr) : Answers (Carries s) (exec c s) := by
  cases c with
  | hardReset cause rom => exact execHardReset_carries s cause rom
  | probe k l => exact execProbe_carries s k l
  | probeWordReadEnd l => exact execProbeWordReadEnd_carries s l
  | imageReadEnd l => exact execImageReadEnd_carries s l
  | hostRelease => exact execHostRelease_carries s
  | commandWordWrite v => exact runIf_carries (writeCommandWord_carries s v)
  | reportWordWrite v => exact runIf_carries (writeReportWord_carries s v)
  | hostMemoryCycle h a w => exact execHostMemoryCycle_carries s h a w
  | hostWordServed => exact execHostWordServed_carries s
  | refreshDue => exact execRefreshDue_carries s
  | commandFetchEnd => exact execCommandFetchEnd_carries s
  | unknownCommand => exact execUnknownCommand_carries s
  | startChain => exact execStartChain_carries s
  | stopChannelPause => exact execStopChannelPause_carries s
  | stopChannelAbort => exact execStopChannelAbort_carries s
  | resumeChannel => exact execResumeChannel_carries s
  | motorMove => exact execMotorMove_carries s
  | motorStopRamp => exact execMotorStopRamp_carries s
  | motorStopImmediate => exact execMotorStopImmediate_carries s
  | motorResume => exact execMotorResume_carries s
  | motorRelease => exact execMotorRelease_carries s
  | loadTableScan => exact runIf_carries (loadCommand_carries s)
  | loadTableStrobe => exact runIf_carries (loadCommand_carries s)
  | loadTableRamp => exact runIf_carries (loadCommand_carries s)
  | loadTablePhase => exact runIf_carries (loadCommand_carries s)
  | headClass => exact runIf_carries (headClassCommand_carries s)
  | pageQuery => exact execPageQuery_carries s
  | pageQueryWriteEnd => exact execPageQueryWriteEnd_carries s
  | pageRelease => exact execPageRelease_carries s
  | sensorConfig => exact execSensorConfig_carries s
  | eventPriority => exact execEventPriority_carries s
  | eventThreshold => exact execEventThreshold_carries s
  | powerRun => exact runIf_carries (powerCommand_carries s (powerRun_carries s))
  | powerDoze => exact runIf_carries (powerCommand_carries s (powerDoze_carries s))
  | powerSleep => exact runIf_carries (powerCommand_carries s (.same rfl rfl rfl rfl))
  | statusQuery => exact execStatusQuery_carries s
  | clearFlags => exact execClearFlags_carries s
  | engineReset => exact execEngineReset_carries s
  | configReload => exact execConfigReload_carries s
  | reloadReadEnd => exact execReloadReadEnd_carries s
  | configStore => exact execConfigStore_carries s
  | reportWriteEnd => exact execReportWriteEnd_carries s
  | consumerIndexWriteEnd => exact execConsumerIndexWriteEnd_carries s
  | entryFetchEnd => exact execEntryFetchEnd_carries s
  | openWrite ch => exact execOpenWrite_carries s ch
  | openRead ch => exact execOpenRead_carries s ch
  | lines ch => exact execLines_carries s ch
  | setProcessing ch => exact execSetProcessing_carries s ch
  | linkMotor ch => exact execLinkMotor_carries s ch
  | unlink ch => exact execUnlink_carries s ch
  | waitLine ch => exact execWaitLine_carries s ch
  | closeWriter ch => exact execCloseWriter_carries s ch
  | closeReader ch => exact execCloseReader_carries s ch
  | mark ch => exact execMark_carries s ch
  | jump ch => exact execJump_carries s ch
  | endEntry ch => exact execEndEntry_carries s ch
  | unknownEntry ch => exact execUnknownEntry_carries s ch
  | slotHanded => exact execSlotHanded_carries s
  | peerPageResolved ch => exact execPeerPageResolved_carries s ch
  | waitCompleteEnd ch => exact execWaitCompleteEnd_carries s ch
  | waitLinesEnd ch => exact runIf_carries (runAgain_carries s ch)
  | waitSpaceEnd => exact runIf_carries (runAgain_carries s .codeIn)
  | waitGateEnd ch => exact execWaitGateEnd_carries s ch
  | waitLineTimeout ch => exact execWaitLineTimeout_carries s ch
  | waitMotorEnd ch => exact runIf_carries (runAgain_carries s ch)
  | waitTableEnd => exact runIf_carries (endTableWait_carries s)
  | pauseBoundaryReached ch => exact execPauseBoundaryReached_carries s ch
  | abortBoundaryReached ch => exact execAbortBoundaryReached_carries s ch
  | lineReadEnd => exact execLineReadEnd_carries s
  | motorStep m => exact execMotorStep_carries s m
  | holdTimerExpiry m => exact execHoldTimerExpiry_carries s m
  | captureEnd v => exact execCaptureEnd_carries s v
  | scanWriteEnd => exact execScanWriteEnd_carries s
  | shiftLatchEnd => exact runIf_carries (.printPath rfl rfl rfl id)
  | strobePhaseEnd => exact execStrobePhaseEnd_carries s
  | scanTableBurstEnd => exact execScanTableBurstEnd_carries s
  | strobeLoadEnd => exact execStrobeLoadEnd_carries s
  | rampLoadEnd => exact execRampLoadEnd_carries s
  | phaseLoadEnd => exact execPhaseLoadEnd_carries s
  | frameSendStart o => exact execFrameSendStart_carries s o
  | frameTaken => exact execFrameTaken_carries s
  | lineReceived d => exact runIf_carries (coder_carries s _)
  | badLineReceived => exact runIf_carries (coder_carries s _)
  | malformedFrame n =>
    exact runIf_carries (.after (raise_carries _ _ _ _) (coder_carries s _))
  | pageEndReceived => exact execPageEndReceived_carries s
  | unsolicitedFrame n =>
    exact runIf_carries (.after (raise_carries _ _ _ _) (coder_carries s _))
  | codeInSlotWriteEnd => exact execCodeInSlotWriteEnd_carries s
  | concealmentStored => exact execConcealmentStored_carries s
  | crstnPulseEnd => exact runIf_carries (coder_carries s _)
  | debounceLevelChange g => exact execDebounceLevelChange_carries s g
  | drainTimerExpiry => exact execDrainTimerExpiry_carries s
  | dozeEntry n => exact execDozeEntry_carries s n
  | sleepEntry => exact execSleepEntry_carries s
  | sleepTimerExpiry => exact runIf_carries (startWake_carries s _)
  | selfRefreshExitEnd => exact execSelfRefreshExitEnd_carries s
  | storeSourceBurstEnd => exact execStoreSourceBurstEnd_carries s
  | storeWordShifted => exact execStoreWordShifted_carries s
  | eepromReady => exact execEepromReady_carries s
  | eepromReadyTimeout => exact execEepromReadyTimeout_carries s
  | storeReadbackEnd w => exact execStoreReadbackEnd_carries s w
  | sensorSample l => exact execSensorSample_carries s l
  | receiveFrameHeader h o c => exact runIf_carries (coder_carries s _)
  | frameCutShortEnd n => exact runIf_carries (coder_carries s _)
  | refreshEnd => exact execRefreshEnd_carries s
  | producerIndexWriteEnd => exact execProducerIndexWriteEnd_carries s
  | pageQueryFirstWriteEnd => exact execPageQueryFirstWriteEnd_carries s

/-- A step carries the three invariants over: its queue is none of them. -/
theorem step_carries : Answers (Carries s) (step s) := by
  unfold step
  split
  · exact next_answers (.refl s)
  · rename_i c rest _
    have h : Carries s { s with pending := rest } := .same rfl rfl rfl rfl
    exact fun t ht => h.trans (exec_carries _ c t ht)

/-- Settles O3: every write of a step goes through `Memory.writeBytes`, which keeps the canonical form. -/
theorem everyStepKeepsMemoryCanonical : Obligations.EveryStepKeepsMemoryCanonical :=
  fun s t hs ht => (step_carries s t ht).mem hs

/-- Settles O4: a band is taken from the unreserved pool only when there is one, and from the reservation with
it. -/
theorem everyStepKeepsReservationBound : Obligations.EveryStepKeepsReservationBound :=
  fun s t hs ht => (step_carries s t ht).res hs

end Sys2Proof.Machine
end

section
/-! PROOFS. What band conservation rests on from one step to the next: the page records and the channels, seen
through `State.pages`, and the operations that touch neither. -/

namespace Sys2Proof.Machine

/-! ## What the invariant looks at -/

/-- The parts of the state that `PagesOk` looks at. -/
structure PageView where
  free : List Nat
  slots : Vector Page 16
  bands : Nat
  chans : Chans

/-- The free list, the page records, the number of bands and the channels. -/
def State.pages (s : State) : PageView :=
  { free := s.page.free, slots := s.page.slots, bands := s.page.geo.bands, chans := s.chans }

theorem pages_eq {s t : State} (hp : t.page = s.page) (hc : t.chans = s.chans) : t.pages = s.pages := by
  simp only [State.pages, hp, hc]

theorem slot_of_pages {s t : State} (h : t.pages = s.pages) (i : Fin 16) : t.slot i = s.slot i :=
  congrArg (fun v : PageView => v.slots[i]) h

theorem chan_of_pages {s t : State} (h : t.pages = s.pages) (ch : Channel) : t.chan ch = s.chan ch := by
  have hc : t.chans = s.chans := congrArg PageView.chans h
  cases ch <;> simp [hc]

theorem conserved_of_pages {s t : State} (h : t.pages = s.pages) (hs : Conserved s) : Conserved t :=
  BandMove.conserved (i := 0)
    ⟨fun j _ => slot_of_pages h j, congrArg PageView.bands h, by
      rw [slot_of_pages h, show t.page.free = s.page.free from congrArg PageView.free h]⟩ hs

/-- A state of OPEN READ's waits (02 R29). -/
def ChState.reads : ChState → Bool
  | .waiting .page => true
  | .waiting .complete => true
  | _ => false

theorem reads_eq_false {x : ChState} :
    x.reads = false ↔ x ≠ .waiting .page ∧ x ≠ .waiting .complete := by
  constructor
  · intro h
    constructor <;> (rintro rfl; cases h)
  · rintro ⟨h1, h2⟩
    unfold ChState.reads
    split
    · exact absurd rfl h1
    · exact absurd rfl h2
    · rfl

/-- A page is FILLING under a channel. -/
def FillingUnder (s : State) (ch : Channel) (ref : PageRef) : Prop :=
  (s.slot ref.slot).state = .filling ∧ (s.slot ref.slot).writer = some ch

/-- What `PagesOk` asks of a writer. -/
def WriterOk (s : State) (ch : Channel) : Prop :=
  isWriter ch = true →
    (∀ ref, (s.chan ch).openPage = some ref → FillingUnder s ch ref) ∧ (s.chan ch).state.reads = false

/-- What `PagesOk` asks of the bands. -/
def BandsOk (s : State) : Prop := Conserved s ∧ EmptySlotsOk s

/-- `PagesOk` but for one channel. -/
def PagesOkBut (ch : Channel) (s : State) : Prop := BandsOk s ∧ ∀ d, d ≠ ch → WriterOk s d

theorem pagesOk_iff {s : State} : PagesOk s ↔ BandsOk s ∧ ∀ d, WriterOk s d := by
  constructor
  · rintro ⟨hc, he, hw, hr⟩
    exact ⟨⟨hc, he⟩, fun d hd => ⟨hw d hd, reads_eq_false.mpr (hr d hd)⟩⟩
  · rintro ⟨⟨hc, he⟩, h⟩
    exact ⟨hc, he, fun d hd => (h d hd).1, fun d hd => reads_eq_false.mp (h d hd).2⟩

theorem PagesOk.but {s : State} (h : PagesOk s) (ch : Channel) : PagesOkBut ch s := by
  obtain ⟨hb, hw⟩ := pagesOk_iff.mp h
  exact ⟨hb, fun d _ => hw d⟩

theorem PagesOk.filling {s : State} (h : PagesOk s) {ch : Channel} (hw : isWriter ch = true)
    {ref : PageRef} (ho : (s.chan ch).openPage = some ref) : FillingUnder s ch ref :=
  ((pagesOk_iff.mp h).2 ch hw).1 ref ho

theorem PagesOk.reads {s : State} (h : PagesOk s) {ch : Channel} (hw : isWriter ch = true) :
    (s.chan ch).state.reads = false :=
  ((pagesOk_iff.mp h).2 ch hw).2

theorem bandsOk_of_pages {s t : State} (h : t.pages = s.pages) (hs : BandsOk s) : BandsOk t := by
  refine ⟨conserved_of_pages h hs.1, fun i hi => ?_⟩
  rw [slot_of_pages h] at hi ⊢
  exact hs.2 i hi

theorem writerOk_of_pages {s t : State} (h : t.pages = s.pages) {d : Channel} (hs : WriterOk s d) :
    WriterOk t d := by
  intro hd
  rw [chan_of_pages h]
  refine ⟨fun ref href => ?_, (hs hd).2⟩
  rw [FillingUnder, slot_of_pages h]
  exact (hs hd).1 ref href

theorem pagesOkBut_of_pages {s t : State} {ch : Channel} (h : t.pages = s.pages)
    (hs : PagesOkBut ch s) : PagesOkBut ch t :=
  ⟨bandsOk_of_pages h hs.1, fun d hd => writerOk_of_pages h (hs.2 d hd)⟩

/-! ## Operations that touch neither page records nor channels -/

section
variable (s : State)

@[simp] theorem setMotor_pages (m : MotorId) (x : Motor) : (s.setMotor m x).pages = s.pages := rfl
@[simp] theorem setGate_pages (g : Fin 16) (x : Gateway) : (s.setGate g x).pages = s.pages := rfl
@[simp] theorem setSource_pages (i : Fin 24) (x : Source) : (s.setSource i x).pages = s.pages := rfl
@[simp] theorem setRamp_pages (n : Fin 4) (t : List Nat) : (s.setRamp n t).pages = s.pages := rfl
@[simp] theorem setBuf_pages (b : BufId) (x : LineBuf) : (s.setBuf b x).pages = s.pages := by
  cases b <;> rfl

@[simp] theorem raise_pages (i : Fin 24) (k : EventKind) (d : EventData) :
    (s.raise i k d).pages = s.pages := pages_eq (raise_page s i k d) (raise_chans s i k d)

@[simp] theorem poolTest_pages : s.poolTest.pages = s.pages := by
  simp only [State.pages, poolTest_free', poolTest_slots, poolTest_geo, poolTest_chans]

@[simp] theorem reserve_pages (v : Nat) : (s.reserve v).pages = s.pages := by
  simp only [State.pages, reserve_free', reserve_slots, reserve_geo, reserve_chans]

@[simp] theorem markStale_pages : s.markStale.pages = s.pages := rfl

/-! ### Motors -/

@[simp] theorem reserveFor_pages (j : Option Nat) : (s.reserveFor j).pages = s.pages := by
  unfold State.reserveFor
  split <;> simp

@[simp] theorem afterDecision_pages (m : MotorId) (j : Option Nat) :
    (s.afterDecision m j).pages = s.pages := by
  cases m <;> simp [State.afterDecision]

@[simp] theorem reachRest_pages (m : MotorId) : (s.reachRest m).pages = s.pages :=
  pages_eq (reachRest_page s m) (reachRest_chans s m)

@[simp] theorem leaveRest_pages (m : MotorId) : (s.leaveRest m).pages = s.pages := rfl

@[simp] theorem restDecision_pages (m : MotorId) : (s.restDecision m).pages = s.pages := by
  unfold State.restDecision
  dsimp only
  split
  · rfl
  · split <;> simp

@[simp] theorem haltMotor_pages (m : MotorId) (h : Halt) : (s.haltMotor m h).pages = s.pages :=
  pages_eq (haltMotor_page s m h) (haltMotor_chans s m h)

@[simp] theorem actionHalt_pages (m : MotorId) (mode : HaltMode) (g : Fin 16) :
    (s.actionHalt m mode g).pages = s.pages :=
  pages_eq (actionHalt_page s m mode g) (actionHalt_chans s m mode g)

@[simp] theorem unlinkMotor_pages (m : MotorId) : (s.unlinkMotor m).pages = s.pages := by
  unfold State.unlinkMotor
  dsimp only
  split
  · rfl
  · cases m <;> simp

@[simp] theorem shrinkFor_pages (ch : Channel) : (s.shrinkFor ch).pages = s.pages :=
  pages_eq (shrinkFor_page s ch) (shrinkFor_chans s ch)

@[simp] theorem freeBudget_pages (ch : Channel) : (s.freeBudget ch).pages = s.pages :=
  pages_eq (freeBudget_page s ch) (freeBudget_chans s ch)

@[simp] theorem commitOrRest_pages (m : MotorId) : (s.commitOrRest m).pages = s.pages := by
  unfold State.commitOrRest
  dsimp only
  split <;> simp

@[simp] theorem fallBudgets_pages (m : MotorId) : (s.fallBudgets m).pages = s.pages := rfl

/-! ### The DRAM port -/

@[simp] theorem dropGrant_pages : s.dropGrant.pages = s.pages := rfl
@[simp] theorem drawn_pages : s.drawn.pages = s.pages := rfl

@[simp] theorem afterGrant_pages : s.afterGrant.pages = s.pages := by
  unfold State.afterGrant
  split <;> rfl

@[simp] theorem releasePort_pages : s.releasePort.pages = s.pages := afterGrant_pages s.dropGrant

@[simp] theorem freePort_pages : s.freePort.pages = s.pages := afterGrant_pages _

@[simp] theorem passWords_pages (j : Job) (k : Nat) : (s.passWords j k).pages = s.pages :=
  pages_eq (passWords_page s j k) (passWords_chans s j k)

@[simp] theorem endBurst_pages (j : Job) : (s.endBurst j).pages = s.pages := passWords_pages s j _

@[simp] theorem cutLineWork_pages (ch : Channel) : (s.cutLineWork ch).pages = s.pages :=
  pages_eq (cutLineWork_page s ch) (cutLineWork_chans s ch)

@[simp] theorem grant_pages (j : Job) : (s.grant j).pages = s.pages := by
  unfold State.grant
  split
  · exact setBuf_pages _ _ _
  · rfl
  · rfl

@[simp] theorem grantUrgent_pages : s.grantUrgent.pages = s.pages := by
  unfold State.grantUrgent
  split <;> rfl

@[simp] theorem grantRotation_pages (qs : List Requester) : (s.grantRotation qs).pages = s.pages := by
  induction qs with
  | nil => rfl
  | cons q rest ih =>
    unfold State.grantRotation
    split
    · exact grant_pages s _
    · exact ih

@[simp] theorem grantFree_pages : s.grantFree.pages = s.pages := by
  unfold State.grantFree
  split
  · simp
  · split
    · simp
    · split <;> simp

@[simp] theorem arbitrate_pages : s.arbitrate.pages = s.pages := by
  unfold State.arbitrate
  split
  · split
    · rw [grantUrgent_pages]
      exact passWords_pages s _ _
    · rfl
  · split
    · rw [grantUrgent_pages]
      exact passWords_pages s _ _
    · rfl
  · simp
  · rfl
  · rfl

@[simp] theorem judgeCycle_pages : s.judgeCycle.pages = s.pages := by rw [judgeCycle_host]; rfl

/-! ### The paths of the lines -/

@[simp] theorem clearPath_pages (ch : Channel) : (s.clearPath ch).pages = s.pages := by
  cases ch with
  | scan => exact cutLineWork_pages s .scan
  | print => exact cutLineWork_pages s .print
  | codeOut =>
    simp only [State.clearPath, State.clearCodeOut]
    split <;> exact cutLineWork_pages s .codeOut
  | codeIn =>
    simp only [State.clearPath, State.clearCodeIn]
    split
    · rfl
    · rfl
    · rfl
    · exact cutLineWork_pages s .codeIn
    · rfl

@[simp] theorem dropLink_pages (ch : Channel) : (s.dropLink ch).pages = s.pages := by
  unfold State.dropLink
  split <;> simp

@[simp] theorem armBuffer_pages (b : BufId) (p : PageRef) (n a : Nat) (tail : Bool) :
    (s.armBuffer b p n a tail).pages = s.pages := by
  unfold State.armBuffer
  dsimp only
  split <;> exact setBuf_pages _ _ _

@[simp] theorem finishCapture_pages (b : BufId) (v : List Byte) :
    (s.finishCapture b v).pages = s.pages := by
  unfold State.finishCapture
  dsimp only
  split
  · exact (setBuf_pages _ _ _).trans (setBuf_pages s _ _)
  · exact setBuf_pages s _ _

@[simp] theorem headLeaves_pages : s.headLeaves.pages = s.pages := rfl

@[simp] theorem setReady_pages : s.setReady.pages = s.pages := by
  unfold State.setReady
  dsimp only
  split
  · rfl
  · split <;> rfl

@[simp] theorem burstTest_pages (n : Nat) : (s.burstTest n).pages = s.pages := by
  unfold State.burstTest
  split
  · exact raise_pages _ _ _ _
  · rfl

/-! ### Reports and commands -/

@[simp] theorem fetchNext_pages : s.fetchNext.pages = s.pages := by
  unfold State.fetchNext
  split <;> rfl

@[simp] theorem startWriting_pages (w : Producer) (bs : List Byte) :
    (s.startWriting w bs).pages = s.pages := rfl

@[simp] theorem disarm_pages (i : Fin 24) (k : EventKind) : (s.disarm i k).pages = s.pages := by
  unfold State.disarm
  split
  · split <;> rfl
  · rfl

@[simp] theorem grantEvent_pages : s.grantEvent.pages = s.pages := by
  unfold State.grantEvent
  split
  · rfl
  · split
    · rfl
    · exact disarm_pages _ _ _

@[simp] theorem grantSlot_pages : s.grantSlot.pages = s.pages := by
  unfold State.grantSlot
  split
  · rfl
  split
  · rfl
  split
  · split <;> rfl
  · split
    · simp
    · rfl

@[simp] theorem complete_pages (c : ResultCode) (r : List Nat) : (s.complete c r).pages = s.pages := rfl
@[simp] theorem refuse_pages (c : ResultCode) : (s.refuse c).pages = s.pages := rfl
@[simp] theorem startWork_pages (w : Work) : (s.startWork w).pages = s.pages := rfl

@[simp] theorem refuseRef_pages (a : RefAnswer) : (s.refuseRef a).pages = s.pages := by
  cases a <;> rfl

@[simp] theorem leaveDoze_pages (k : Nat) : (s.leaveDoze k).pages = s.pages :=
  pages_eq (leaveDoze_page s k) (leaveDoze_chans s k)

@[simp] theorem abandonDrain_pages (t : Quiet) (n : Nat) : (s.abandonDrain t n).pages = s.pages :=
  raise_pages _ _ _ _

@[simp] theorem startMove_pages (m : MotorId) (d : Dir) (c : Nat) (n : Fin 4) (top : Nat) :
    (s.startMove m d c n top).pages = s.pages := restDecision_pages _ m

@[simp] theorem fillScan_pages (t : Table) (i : Nat) (ws : List Nat) :
    (s.fillScan t i ws).pages = s.pages := by
  unfold State.fillScan
  split
  · dsimp only
    split <;> rfl
  · dsimp only
    split <;> rfl
  all_goals rfl

@[simp] theorem recap_pages (n : Fin 4) : (s.recap n).pages = s.pages := by
  unfold State.recap
  split <;> rfl

@[simp] theorem replaceRamp_pages (n : Fin 4) (t : List Nat) : (s.replaceRamp n t).pages = s.pages :=
  recap_pages _ n

/-! ### Gateways, sources and the tables of a configuration -/

@[simp] theorem actHalts_pages (g : Fin 16) (c : GateCfg) (ms : List MotorId) :
    (s.actHalts g c ms).pages = s.pages := by
  induction ms generalizing s with
  | nil => rfl
  | cons m rest ih =>
    rw [State.actHalts, ih]
    split <;> simp

@[simp] theorem startWake_pages (c : WakeCause) : (s.startWake c).pages = s.pages := rfl

@[simp] theorem withdraw_pages (i : Fin 24) : (s.withdraw i).pages = s.pages := by
  unfold State.withdraw
  split <;> rfl

@[simp] theorem firstLevels_pages (lines : BitVec 16) (gs : List (Fin 16)) :
    (s.firstLevels lines gs).pages = s.pages := by
  induction gs generalizing s with
  | nil => rfl
  | cons g rest ih => exact ih _

@[simp] theorem setPriority_pages (i : Fin 24) (p : Nat) : (s.setPriority i p).pages = s.pages := rfl

@[simp] theorem emptyPending_pages (is : List (Fin 24)) : (s.emptyPending is).pages = s.pages := by
  induction is generalizing s with
  | nil => rfl
  | cons i rest ih => exact ih _

@[simp] theorem loadGates_pages (cs : List GateCfg) (gs : List (Fin 16)) :
    (s.loadGates cs gs).pages = s.pages := by
  induction gs generalizing s with
  | nil => rfl
  | cons g rest ih => exact ih _

@[simp] theorem loadPriorities_pages (ps : List Nat) (is : List (Fin 24)) :
    (s.loadPriorities ps is).pages = s.pages := by
  induction is generalizing s with
  | nil => rfl
  | cons i rest ih => exact ih _

@[simp] theorem loadRamps_pages (c : Sections) (ns : List (Fin 4)) :
    (s.loadRamps c ns).pages = s.pages := by
  induction ns generalizing s with
  | nil => rfl
  | cons n rest ih => exact ih _

@[simp] theorem tablesStage_pages (c : Sections) : (s.tablesStage c).pages = s.pages := by
  unfold State.tablesStage
  dsimp only
  rw [loadPriorities_pages, loadGates_pages, loadRamps_pages]
  rfl

@[simp] theorem reloadRamps_pages (c : Sections) (ns : List (Fin 4)) :
    (s.reloadRamps c ns).pages = s.pages := by
  induction ns generalizing s with
  | nil => rfl
  | cons n rest ih =>
    rw [State.reloadRamps, ih]
    split <;> simp

@[simp] theorem reloadPhases_pages (c : Sections) (ms : List MotorId) :
    (s.reloadPhases c ms).pages = s.pages := by
  induction ms generalizing s with
  | nil => rfl
  | cons m rest ih =>
    rw [State.reloadPhases, ih]
    split <;> simp

@[simp] theorem reloadConstants_pages (k : Constants) : (s.reloadConstants k).pages = s.pages :=
  poolTest_pages _

@[simp] theorem resetPower_pages : s.resetPower.pages = s.pages := by
  unfold State.resetPower
  split <;> simp

@[simp] theorem storeFailed_pages (o : StoreOp) : (s.storeFailed o).pages = s.pages :=
  raise_pages _ _ _ _

@[simp] theorem storeOn_pages (o : StoreOp) (rest : List Word) : (s.storeOn o rest).pages = s.pages := by
  unfold State.storeOn
  split
  · exact raise_pages _ _ _ _
  · rfl

end

end Sys2Proof.Machine
end

section
/-! PROOFS. The operations on page records and channels keep the bands conserved (01 R4), with what that rests on:
one lemma `<operation>_keeps` for each. -/

namespace Sys2Proof.Machine

/-- `PagesOk` passes from `s` to `t`. -/
def KeepsPages (s t : State) : Prop := PagesOk s → PagesOk t

theorem KeepsPages.refl (s : State) : KeepsPages s s := id

theorem KeepsPages.trans {a b c : State} (h : KeepsPages a b) (k : KeepsPages b c) : KeepsPages a c :=
  fun ha => k (h ha)

theorem KeepsPages.after {a b c : State} (k : KeepsPages b c) (h : KeepsPages a b) : KeepsPages a c :=
  h.trans k

theorem KeepsPages.same {s t : State} (h : t.pages = s.pages) : KeepsPages s t := fun hs =>
  have ⟨hb, hw⟩ := pagesOk_iff.mp hs
  pagesOk_iff.mpr ⟨bandsOk_of_pages h hb, fun d => writerOk_of_pages h (hw d)⟩

variable {s : State}

/-! ## Replacing a channel -/

/-- A channel is replaced by one that is in order. -/
theorem PagesOkBut.setChan {ch : Channel} (h : PagesOkBut ch s) {c : Chan}
    (ho : isWriter ch = true → ∀ ref, c.openPage = some ref → FillingUnder s ch ref)
    (hr : isWriter ch = true → c.state.reads = false) : PagesOk (s.setChan ch c) := by
  refine pagesOk_iff.mpr ⟨bandsOk_of_pages (s := s) (t := { s with chans := s.chans }) rfl h.1, ?_⟩
  intro d hd
  by_cases hch : d = ch
  · subst hch
    rw [chan_setChan_self]
    exact ⟨ho hd, hr hd⟩
  · rw [chan_setChan_of_ne s c hch]
    exact h.2 d hch hd

/-- The channel stays on its page or leaves it, and enters no wait of OPEN READ. -/
structure Calm (c d : Chan) : Prop where
  page : d.openPage = c.openPage ∨ d.openPage = none
  state : d.state = c.state ∨ d.state.reads = false

theorem setChan_keeps {ch : Channel} {c : Chan} (h : isWriter ch = true → Calm (s.chan ch) c) :
    KeepsPages s (s.setChan ch c) := by
  intro hs
  refine (hs.but ch).setChan (fun hw ref href => ?_) (fun hw => ?_)
  · rcases (h hw).page with hp | hp
    · exact hs.filling hw (hp.symm.trans href)
    · rw [hp] at href
      cases href
  · rcases (h hw).state with hp | hp
    · rw [hp]
      exact hs.reads hw
    · exact hp

/-- The channel stays on its page and in its state. -/
theorem setChan_keeps_still {ch : Channel} {c : Chan} (hp : c.openPage = (s.chan ch).openPage)
    (hs : c.state = (s.chan ch).state) : KeepsPages s (s.setChan ch c) :=
  setChan_keeps fun _ => ⟨.inl hp, .inl hs⟩

/-- The channel stays on its page and comes into a state that is no wait of OPEN READ. -/
theorem setChan_keeps_moved {ch : Channel} {c : Chan} (hp : c.openPage = (s.chan ch).openPage)
    (hs : c.state.reads = false) : KeepsPages s (s.setChan ch c) :=
  setChan_keeps fun _ => ⟨.inl hp, .inr hs⟩

/-! ## Changes of one page record -/

/-- A change of one page record that only moves bands, and leaves none on an EMPTY slot. -/
structure PageMove (i : Fin 16) (s t : State) : Prop extends BandMove i s t where
  chans : t.chans = s.chans
  empty : ((s.slot i).state = .empty → (s.slot i).chain = []) →
    (t.slot i).state = .empty → (t.slot i).chain = []

theorem PageMove.trans {i : Fin 16} {a b c : State} (h : PageMove i a b) (k : PageMove i b c) :
    PageMove i a c :=
  ⟨h.toBandMove.trans k.toBandMove, k.chans.trans h.chans, fun ha => k.empty (h.empty ha)⟩

theorem PageMove.bandsOk {i : Fin 16} {t : State} (h : PageMove i s t) (hs : BandsOk s) : BandsOk t := by
  refine ⟨h.conserved hs.1, fun j hj => ?_⟩
  by_cases hji : j = i
  · subst hji
    exact h.empty (hs.2 j) hj
  · rw [h.others j hji] at hj ⊢
    exact hs.2 j hj

theorem PageMove.chan {i : Fin 16} {t : State} (h : PageMove i s t) (d : Channel) :
    t.chan d = s.chan d := by
  cases d <;> simp [h.chans]

/-- A writer is as before when its page is none of the page that changed, or stays FILLING under it. -/
theorem PageMove.writerOk {i : Fin 16} {t : State} (h : PageMove i s t) {d : Channel}
    (hf : ∀ ref, (s.chan d).openPage = some ref → FillingUnder s d ref → ref.slot = i →
      FillingUnder t d ref)
    (hs : WriterOk s d) : WriterOk t d := by
  intro hd
  rw [h.chan d]
  refine ⟨fun ref href => ?_, (hs hd).2⟩
  have hold := (hs hd).1 ref href
  by_cases hi : ref.slot = i
  · exact hf ref href hold hi
  · rw [FillingUnder, h.others _ hi]
    exact hold

/-- A page that stays FILLING under its writer. -/
theorem PageMove.keeps {i : Fin 16} {t : State} (h : PageMove i s t)
    (hf : (s.slot i).state = .filling →
      (t.slot i).state = .filling ∧ (t.slot i).writer = (s.slot i).writer) : KeepsPages s t := by
  intro hs
  obtain ⟨hb, hw⟩ := pagesOk_iff.mp hs
  refine pagesOk_iff.mpr ⟨h.bandsOk hb, fun d => h.writerOk ?_ (hw d)⟩
  rintro ref _ ⟨hfill, hwr⟩ rfl
  obtain ⟨h1, h2⟩ := hf hfill
  exact ⟨h1, h2.trans hwr⟩

section
variable (s) (i : Fin 16)

/-- A record replaced by one of the same state and chain. -/
theorem setSlot_pageMove {p : Page} (hc : p.chain = (s.slot i).chain) (hs : p.state = (s.slot i).state) :
    PageMove i s (s.setSlot i p) := by
  refine ⟨setSlot_bandMove s i hc, rfl, ?_⟩
  rw [slot_setSlot_self, hc, hs]
  exact id

theorem setSlot_keeps {p : Page} (hc : p.chain = (s.slot i).chain) (hs : p.state = (s.slot i).state)
    (hw : p.writer = (s.slot i).writer) : KeepsPages s (s.setSlot i p) := by
  refine (setSlot_pageMove s i hc hs).keeps fun hf => ?_
  rw [slot_setSlot_self, hs]
  exact ⟨hf, hw⟩

theorem releaseTest_pageMove : PageMove i s (s.releaseTest i) := by
  refine ⟨releaseTest_bandMove s i, releaseTest_chans s i, ?_⟩
  by_cases h : (s.slot i).state = .complete ∧ (s.slot i).release ∧ (s.slot i).readers = 0
  · rw [releaseTest_of s h, poolTest_slot, returnBands_slot, slot_setSlot_self]
    exact fun _ _ => rfl
  · rw [releaseTest_of_not s h]
    exact id

theorem releaseTest_of_filling (h : (s.slot i).state = .filling) : s.releaseTest i = s :=
  releaseTest_of_not s fun hc => by rw [h] at hc; cases hc.1

theorem releaseTest_keeps : KeepsPages s (s.releaseTest i) := by
  refine (releaseTest_pageMove s i).keeps fun hf => ?_
  rw [releaseTest_of_filling s i hf]
  exact ⟨hf, rfl⟩

theorem freeBehind_of_no_chain (h : (s.slot i).chain = []) : s.freeBehind i = s :=
  freeBehind_of_not s fun b rest n hc => by rw [h] at hc; cases hc

theorem freeBehind_pageMove : PageMove i s (s.freeBehind i) := by
  refine ⟨freeBehind_bandMove s i, freeBehind_chans s i, fun he hs => ?_⟩
  obtain ⟨chain, freed, hslot⟩ := freeBehind_slot s i
  have hc : (s.slot i).chain = [] := he (by rw [hslot] at hs; exact hs)
  rw [freeBehind_of_no_chain s i hc, hc]

theorem freeBehind_keeps : KeepsPages s (s.freeBehind i) := by
  refine (freeBehind_pageMove s i).keeps fun hf => ?_
  obtain ⟨chain, freed, hslot⟩ := freeBehind_slot s i
  rw [hslot]
  exact ⟨hf, rfl⟩

theorem leave_keeps (ch : Channel) (r : Bool) : KeepsPages s (s.leave i ch r) := by
  refine .trans (setSlot_keeps s i ?_ ?_ ?_) (releaseTest_keeps _ i) <;> cases ch <;> rfl

theorem storeLine_keeps : KeepsPages s (s.storeLine i) := setSlot_keeps s i rfl rfl rfl

theorem closePage_state (cut : Bool) : ((s.closePage i cut).slot i).state = .complete := by
  unfold State.closePage
  dsimp only
  split
  all_goals
    generalize hu : State.freeBehind _ i = u
    obtain ⟨chain, freed, hslot⟩ := freeBehind_slot _ i
    rw [hu] at hslot
    rw [hslot]
    simp

theorem closePage_pageMove (cut : Bool) : PageMove i s (s.closePage i cut) := by
  refine ⟨closePage_bandMove s i cut, closePage_chans s i cut, fun _ hs => ?_⟩
  rw [closePage_state] at hs
  cases hs

theorem completePage_pageMove (cut : Bool) : PageMove i s (s.completePage i cut) :=
  (closePage_pageMove s i cut).trans (releaseTest_pageMove _ i)

/-- The taking of a band leaves of its page all but the lines assigned, the chain and the lines freed. -/
theorem takeBand_slot (scan : Bool) :
    ∃ assigned chain freed, (s.takeBand i scan).slot i = { s.slot i with assigned, chain, freed } := by
  cases hf : s.page.free with
  | nil =>
    rw [takeBand_of_nil s hf]
    exact ⟨_, _, _, rfl⟩
  | cons b rest =>
    rw [takeBand_of_cons s hf]
    obtain ⟨chain, freed, hslot⟩ := freeBehind_slot (s.withBand i b rest scan).poolTest i
    rw [hslot, poolTest_slot, withBand_slot_self]
    exact ⟨_, _, _, rfl⟩

theorem assignLine_slot (scan : Bool) :
    ∃ assigned chain freed,
      (s.assignLine i scan).1.slot i = { s.slot i with assigned, chain, freed } := by
  by_cases hl : (s.slot i).assigned = (s.slot i).limit
  · rw [assignLine_at_limit s hl]
    exact ⟨_, _, _, rfl⟩
  by_cases hm : (s.slot i).assigned % 64 = 0
  · by_cases hb : (if scan then s.freeCount else s.unreserved) = 0
    · rw [assignLine_without_band s hl hm hb]
      exact ⟨_, _, _, rfl⟩
    · rw [assignLine_at_band s hl hm hb]
      exact takeBand_slot s i scan
  · rw [assignLine_in_band s hl hm, withLine_slot_self]
    exact ⟨_, _, _, rfl⟩

theorem assignLine_chans (scan : Bool) : (s.assignLine i scan).1.chans = s.chans := by
  by_cases hl : (s.slot i).assigned = (s.slot i).limit
  · rw [assignLine_at_limit s hl]
  by_cases hm : (s.slot i).assigned % 64 = 0
  · by_cases hb : (if scan then s.freeCount else s.unreserved) = 0
    · rw [assignLine_without_band s hl hm hb]
    · rw [assignLine_at_band s hl hm hb]
      exact takeBand_chans s i scan
  · rw [assignLine_in_band s hl hm]
    rfl

/-- A line assigned to a FILLING page leaves it FILLING under its writer. -/
theorem assignLine_keeps (scan : Bool) (hf : (s.slot i).state = .filling) :
    KeepsPages s (s.assignLine i scan).1 := by
  obtain ⟨assigned, chain, freed, hslot⟩ := assignLine_slot s i scan
  refine PageMove.keeps ⟨assignLine_bandMove s i scan, assignLine_chans s i scan, fun _ he => ?_⟩
    fun _ => ?_
  · rw [hslot] at he
    exact absurd (he.symm.trans hf) (by simp)
  · rw [hslot]
    exact ⟨hf, rfl⟩

end

/-! ## The end of a writer's page, and the opening of one (01 R7, R16) -/

/-- The page of a writer is completed: but for that writer everything is in order. -/
theorem completePage_but {ch : Channel} {ref : PageRef} (cut : Bool) (hs : PagesOk s)
    (hf : FillingUnder s ch ref) : PagesOkBut ch (s.completePage ref.slot cut) := by
  obtain ⟨hb, hw⟩ := pagesOk_iff.mp hs
  have hm := completePage_pageMove s ref.slot cut
  refine ⟨hm.bandsOk hb, fun d hd => hm.writerOk ?_ (hw d)⟩
  intro r _ ⟨_, hwr⟩ hr
  rw [hr, hf.2] at hwr
  exact absurd (Option.some.inj hwr).symm hd

theorem dropPage_but {ch : Channel} (hs : PagesOk s) : PagesOkBut ch (s.dropPage ch) := by
  unfold State.dropPage
  split
  · exact hs.but ch
  · rename_i ref href
    split
    · rename_i hw
      exact completePage_but true hs (hs.filling hw href)
    · exact PagesOk.but (leave_keeps s ref.slot ch false hs) ch

/-- An EMPTY slot is given to a writer, which opens its page there. -/
theorem giveSlot_keeps {i : Fin 16} {ch : Channel} {a b c : Bool} {n : Nat}
    (he : (s.slot i).state = .empty) : KeepsPages s (s.giveSlot i ch a b c n) := by
  intro hs
  have hc : (s.slot i).chain = [] := (pagesOk_iff.mp hs).1.2 i he
  refine PageMove.keeps ⟨setSlot_bandMove s i ?_, rfl, ?_⟩ ?_ hs
  · rw [hc]
    rfl
  · intro _ h
    rw [State.giveSlot, slot_setSlot_self] at h
    cases h
  · intro h
    rw [he] at h
    cases h

/-! ## Notices and the window -/

theorem notify_keeps (ch : Channel) (n : Notice) : KeepsPages s (s.notify ch n) :=
  setChan_keeps_still rfl rfl

theorem notifyEnding_keeps (ch : Channel) (n : Notice) : KeepsPages s (s.notifyEnding ch n) :=
  setChan_keeps_still rfl rfl

theorem postFinal_keeps (ch : Channel) (n : Notice) : KeepsPages s (s.postFinal ch n) := by
  unfold State.postFinal
  split
  · exact .same rfl
  · exact notify_keeps ch n

/-- The abort steps take the channel from its page and out of every wait (02 R51). -/
theorem abortSteps_keeps (ch : Channel) : KeepsPages s (s.abortSteps ch) := by
  intro hs
  have h1 : PagesOkBut ch (((s.dropPage ch).dropLink ch).clearPath ch) :=
    pagesOkBut_of_pages (by simp) (dropPage_but hs)
  have h2 := h1.setChan (c := ((((s.dropPage ch).dropLink ch).clearPath ch).chan ch).cleared)
    (fun _ ref href => by cases href) (fun _ => rfl)
  exact KeepsPages.same (by rfl) h2

theorem faultChan_keeps (ch : Channel) (code : FaultCode) (a : Nat) :
    KeepsPages s (s.faultChan ch code a) :=
  .after (postFinal_keeps ch _) (.after (setChan_keeps_still rfl rfl) (abortSteps_keeps ch))

theorem faultEntry_keeps (ch : Channel) (code : FaultCode) : KeepsPages s (s.faultEntry ch code) :=
  faultChan_keeps ch code _

theorem trailingEdge_keeps (ch : Channel) (t : Nat) : KeepsPages s (s.trailingEdge ch t) :=
  setChan_keeps_still rfl rfl

theorem edgeAtStart_keeps (ch : Channel) (o : Option EdgeOption) :
    KeepsPages s (s.edgeAtStart ch o) := by
  unfold State.edgeAtStart
  split
  · split
    · exact trailingEdge_keeps ch _
    · exact .refl s
  · exact .refl s

theorem takeCount_keeps (ch : Channel) (n : Nat) (o : Option EdgeOption) (b : Nat) :
    KeepsPages s (s.takeCount ch n o b) := by
  unfold State.takeCount
  dsimp only
  refine .after (edgeAtStart_keeps ch o) ?_
  split
  · exact .after (.same rfl) (setChan_keeps_still (ch := ch) rfl rfl)
  · exact setChan_keeps_still rfl rfl

theorem beginLines_keeps (ch : Channel) (n : Nat) (o : Option EdgeOption) (b : Nat) :
    KeepsPages s (s.beginLines ch n o b) := by
  unfold State.beginLines
  split
  · exact faultEntry_keeps ch _
  split
  · exact faultEntry_keeps ch _
  split
  · exact faultEntry_keeps ch _
  · exact takeCount_keeps ch n o b

theorem makeCurrent_still (c : Chan) (geo : Geometry) (e : WinEntry) :
    (c.makeCurrent geo e).openPage = c.openPage ∧ (c.makeCurrent geo e).state = c.state := by
  unfold Chan.makeCurrent
  dsimp only
  split
  · split <;> exact ⟨rfl, rfl⟩
  · exact ⟨rfl, rfl⟩

theorem shift_still (c : Chan) (geo : Geometry) :
    (c.shift geo).openPage = c.openPage ∧ (c.shift geo).state = c.state := by
  unfold Chan.shift
  split
  · exact makeCurrent_still c geo _
  · exact ⟨rfl, rfl⟩

theorem arrive_still (c : Chan) (geo : Geometry) (f : Fetch) (e : WinEntry) :
    (c.arrive geo f e).openPage = c.openPage ∧ (c.arrive geo f e).state = c.state := by
  unfold Chan.arrive
  split
  · exact makeCurrent_still c geo e
  split
  · exact ⟨rfl, rfl⟩
  · split
    · exact ⟨rfl, rfl⟩
    · exact makeCurrent_still c geo e

theorem endEntry_keeps (ch : Channel) : KeepsPages s (s.endEntry ch) := by
  have h : KeepsPages s (s.setChan ch ((s.chan ch).shift s.page.geo)) :=
    setChan_keeps_still (shift_still _ _).1 (shift_still _ _).2
  unfold State.endEntry
  dsimp only
  split
  · split
    · split
      · exact h.trans (beginLines_keeps ch _ _ _)
      · exact h
    · exact h
  · exact h

theorem endPosted_keeps (ch : Channel) : KeepsPages s (s.endPosted ch) := by
  unfold State.endPosted
  dsimp only
  split
  · exact endEntry_keeps ch
  · exact .refl s

theorem endIfDone_keeps (ch : Channel) : KeepsPages s (s.endIfDone ch) := by
  unfold State.endIfDone
  dsimp only
  split
  · exact .after (endEntry_keeps ch) (setChan_keeps_moved rfl rfl)
  · exact .refl s

theorem endOver_keeps (ch : Channel) : KeepsPages s (s.endOver ch) :=
  (endIfDone_keeps ch).trans (endIfDone_keeps ch)

theorem endAtLimit_keeps (ch : Channel) : KeepsPages s (s.endAtLimit ch) := by
  unfold State.endAtLimit
  split
  · exact notifyEnding_keeps ch _
  · exact .refl s

theorem limitIfFull_keeps : KeepsPages s s.limitIfFull := by
  unfold State.limitIfFull
  split
  · exact endAtLimit_keeps .codeIn
  · exact .refl s

theorem countLine_keeps (ch : Channel) : KeepsPages s (s.countLine ch) := setChan_keeps_still rfl rfl
theorem countMoved_keeps (ch : Channel) : KeepsPages s (s.countMoved ch) := setChan_keeps_still rfl rfl

theorem select_keeps (ch : Channel) (x : Selection) : KeepsPages s (s.select ch x) :=
  .after (endEntry_keeps ch) (setChan_keeps_moved rfl rfl)

theorem endTableWait_keeps : KeepsPages s s.endTableWait := by
  unfold State.endTableWait
  split
  · exact select_keeps .scan _
  · exact .refl s

theorem askPause_keeps (ch : Channel) (cause : PauseCause) : KeepsPages s (s.askPause ch cause) := by
  unfold State.askPause
  dsimp only
  split
  · exact .refl s
  · exact .after (.same (shrinkFor_pages _ ch)) (setChan_keeps_still rfl rfl)

theorem askAbort_keeps (ch : Channel) : KeepsPages s (s.askAbort ch) := by
  unfold State.askAbort
  dsimp only
  split
  · exact .refl s
  · have h (c : Chan) (hp : c.openPage = (s.chan ch).openPage) (hs : c.state = (s.chan ch).state) :
        KeepsPages s (s.setChan ch c) := setChan_keeps_still hp hs
    split
    · exact .after (.same (unlinkMotor_pages _ _)) (h _ rfl rfl)
    · exact .after (.same (shrinkFor_pages _ _)) (h _ rfl rfl)
    · exact h _ rfl rfl
    · exact h _ rfl rfl

theorem startWait_keeps (ch : Channel) {w : Wait} (h : (ChState.waiting w).reads = false) :
    KeepsPages s (s.startWait ch w) := setChan_keeps_moved rfl h

theorem runAgain_keeps (ch : Channel) : KeepsPages s (s.runAgain ch) := setChan_keeps_moved rfl rfl

/-! ## Triggers, steps and line requests -/

theorem truncateScan_keeps : KeepsPages s s.truncateScan := by
  unfold State.truncateScan
  split
  · exact setSlot_keeps s _ rfl rfl rfl
  · exact .refl s

theorem offerTrigger_keeps : KeepsPages s s.offerTrigger := by
  intro hs
  unfold State.offerTrigger
  dsimp only
  split
  · exact hs
  rename_i p hp
  split
  · split
    · exact truncateScan_keeps hs
    rename_i b _
    split
    · exact hs
    · exact truncateScan_keeps hs
    · rename_i s1 n addr heq
      have h1 : KeepsPages s s1 := by
        have h := assignLine_keeps s p.slot true (hs.filling (ch := .scan) rfl hp).1
        rwa [heq] at h
      have h2 : KeepsPages s1 ((s1.armBuffer b p n addr s.chans.scan.nextIsTail).countLine .scan) :=
        .after (countLine_keeps .scan) (.same (armBuffer_pages s1 b p n addr _))
      split
      · exact endIfDone_keeps .scan (h2 (h1 hs))
      split
      · exact endAtLimit_keeps .scan (h2 (h1 hs))
      · exact h2 (h1 hs)
  · exact truncateScan_keeps hs

theorem groupDone_keeps (m : MotorId) : KeepsPages s (s.groupDone m) := by
  cases m with
  | m0 => exact offerTrigger_keeps
  | m1 => exact .same (headLeaves_pages s)
  | m2 => exact .refl s

theorem countGroup_keeps (m : MotorId) : KeepsPages s (s.countGroup m) := by
  unfold State.countGroup
  dsimp only
  split
  · exact .refl s
  · split
    · exact .after (groupDone_keeps m) (.same rfl)
    · exact .same rfl

theorem issueStep_keeps (m : MotorId) : KeepsPages s (s.issueStep m) := by
  unfold State.issueStep
  dsimp only
  exact .after (.same (commitOrRest_pages _ m)) (.after (.same rfl)
    (.after (countGroup_keeps m) (.same (s := s) rfl)))

theorem burnEnd_keeps : KeepsPages s s.burnEnd := by
  unfold State.burnEnd
  dsimp only
  split
  · exact .after (notify_keeps .print _) (.same rfl)
  · split
    · exact .after (issueStep_keeps .m1) (.same rfl)
    · exact .same rfl

theorem endShort_keeps (ch : Channel) : KeepsPages s (s.endShort ch) := notifyEnding_keeps ch _

theorem askRead_keeps (ch : Channel) (n : Option Nat) : KeepsPages s (s.askRead ch n) := by
  unfold State.askRead
  dsimp only
  split
  · exact .refl s
  split
  · exact .after (.same rfl) (setChan_keeps_still (ch := ch) rfl rfl)
  · exact setChan_keeps_moved rfl rfl
  · exact endShort_keeps ch

theorem askPrint_keeps : KeepsPages s s.askPrint := by
  unfold State.askPrint
  dsimp only
  split
  · exact askRead_keeps .print _
  · exact .refl s

theorem askCodeOut_keeps : KeepsPages s s.askCodeOut := by
  unfold State.askCodeOut
  split
  · exact askRead_keeps .codeOut _
  · exact .refl s

theorem askCodeIn_keeps : KeepsPages s s.askCodeIn := by
  intro hs
  unfold State.askCodeIn
  dsimp only
  split
  · split
    · exact hs
    rename_i p hp
    split
    · exact endAtLimit_keeps .codeIn hs
    · exact setChan_keeps_moved (ch := .codeIn) rfl rfl hs
    · rename_i s1 n addr heq
      have h1 : KeepsPages s s1 := by
        have h := assignLine_keeps s p.slot false (hs.filling (ch := .codeIn) rfl hp).1
        rwa [heq] at h
      exact setChan_keeps_still (ch := .codeIn) rfl rfl (countLine_keeps .codeIn (h1 hs))
  · exact hs

theorem waitMotor_keeps (ch : Channel) (m : MotorId) : KeepsPages s (s.waitMotor ch m) := by
  unfold State.waitMotor
  dsimp only
  split
  · exact setChan_keeps_moved rfl rfl
  · exact .refl s

theorem waitReport_keeps (ch : Channel) : KeepsPages s (s.waitReport ch) := by
  unfold State.waitReport
  dsimp only
  split
  · exact setChan_keeps_moved rfl rfl
  · exact .refl s

theorem waitDevice_keeps : KeepsPages s s.waitDevice := by
  unfold State.waitDevice
  dsimp only
  split
  · exact setChan_keeps_moved (ch := .codeOut) rfl rfl
  split
  · exact setChan_keeps_moved (ch := .codeOut) rfl rfl
  · exact .refl s

/-! ## `settle` -/

theorem settleLines_keeps : KeepsPages s s.settleLines :=
  .after (.same (setReady_pages _)) <| .after askCodeIn_keeps <| .after askCodeOut_keeps <|
    .after askPrint_keeps <| .after (waitMotor_keeps .print .m1) <|
      .after (waitMotor_keeps .scan .m0) <| (endOver_keeps .scan).trans (endOver_keeps .codeIn)

theorem settleMotors_keeps : KeepsPages s s.settleMotors := .same (by simp [State.settleMotors])

theorem settleReports_keeps : KeepsPages s s.settleReports :=
  .after waitDevice_keeps <| .after (waitReport_keeps .codeIn) <| .after (waitReport_keeps .codeOut) <|
    .after (waitReport_keeps .print) <| .after (waitReport_keeps .scan)
      (.same ((grantSlot_pages _).trans (fetchNext_pages s)))

theorem settle_keeps : KeepsPages s s.settle :=
  .after (.same ((arbitrate_pages _).trans (judgeCycle_pages _))) <|
    .after settleReports_keeps <| .after settleMotors_keeps settleLines_keeps

end Sys2Proof.Machine
end

section
/-! PROOFS. Every command keeps the bands conserved (01 R4), with what that rests on: the operations that only the
rows use, then one lemma for each row whose effect touches page records or channels, and one for `exec`. -/

namespace Sys2Proof.Machine

variable {s : State}

/-! ## Sensor lines -/

theorem actPauses_keeps (g : Fin 16) (c : GateCfg) (cs : List Channel) :
    KeepsPages s (s.actPauses g c cs) := by
  induction cs generalizing s with
  | nil => exact .refl s
  | cons ch rest ih =>
    refine .after ih ?_
    split
    · exact askPause_keeps ch _
    · exact .refl s

theorem occur_keeps (g : Fin 16) (k : EventKind) : KeepsPages s (s.occur g k) := by
  have h : KeepsPages s (((s.actHalts g (s.gate g).cfg allMotors).actPauses g (s.gate g).cfg
      allChannels).raise (lineSource g) k (.level (s.gate g).high)) :=
    .after (.same (raise_pages _ _ _ _)) (.after (actPauses_keeps g _ _) (.same (actHalts_pages s g _ _)))
  unfold State.occur
  dsimp only
  split
  · exact .after (.same (startWake_pages _ _)) h
  · exact h

theorem edgeEvent_keeps (ch : Channel) (g : Fin 16) (high : Bool) :
    KeepsPages s (s.edgeEvent ch g high) := by
  unfold State.edgeEvent
  dsimp only
  split
  · split
    · exact trailingEdge_keeps ch _
    · exact .refl s
  · exact .refl s

theorem levelChanged_keeps (g : Fin 16) : KeepsPages s (s.levelChanged g) := by
  unfold State.levelChanged
  dsimp only
  split
  · split
    · split
      · exact occur_keeps g _
      · exact .refl s
    · exact .same ((setGate_pages _ _ _).trans (withdraw_pages s _))
  · split
    · exact occur_keeps g _
    · exact .refl s

theorem changeLevel_keeps (g : Fin 16) : KeepsPages s (s.changeLevel g) :=
  .after (levelChanged_keeps g) <| .after (edgeEvent_keeps .codeIn g _) <|
    .after (edgeEvent_keeps .scan g _) (.same (setGate_pages s g _))

theorem takeSample_keeps (g : Fin 16) (level : Bool) : KeepsPages s (s.takeSample g level) := by
  unfold State.takeSample
  dsimp only
  split
  · exact .same (setGate_pages s g _)
  split
  · exact changeLevel_keeps g
  · exact .same (setGate_pages s g _)

theorem takeSamples_keeps (on : Fin 16 → Bool) (lines : BitVec 16) (gs : List (Fin 16)) :
    KeepsPages s (s.takeSamples on lines gs) := by
  induction gs generalizing s with
  | nil => exact .refl s
  | cons g rest ih =>
    refine .after ih ?_
    split
    · exact takeSample_keeps g _
    · exact .refl s

theorem occurActive_keeps (gs : List (Fin 16)) : KeepsPages s (s.occurActive gs) := by
  induction gs generalizing s with
  | nil => exact .refl s
  | cons g rest ih =>
    refine .after ih ?_
    split
    · exact occur_keeps g _
    · exact .refl s

theorem firstSample_keeps (lines : BitVec 16) : KeepsPages s (s.firstSample lines) :=
  .after (occurActive_keeps ids16) (.same (firstLevels_pages _ _ _))

theorem configGate_keeps (g : Fin 16) (c : GateCfg) : KeepsPages s (s.configGate g c) := by
  unfold State.configGate
  dsimp only
  split
  · exact .after (occur_keeps g _) (.same (setGate_pages s g _))
  · exact .same (setGate_pages s g _)

theorem reloadGates_keeps (cs : List GateCfg) (gs : List (Fin 16)) :
    KeepsPages s (s.reloadGates cs gs) := by
  induction gs generalizing s with
  | nil => exact .refl s
  | cons g rest ih => exact .after ih (configGate_keeps g _)

theorem rearm_keeps (gs : List (Fin 16)) : KeepsPages s (s.rearm gs) := by
  induction gs generalizing s with
  | nil => exact .refl s
  | cons g rest ih =>
    refine .after ih ?_
    split
    · split
      · exact .after (occur_keeps g _) (.same (setGate_pages s g _))
      · exact .same (setGate_pages s g _)
    · exact .refl s

/-! ## Reset and start-up -/

/-- Page memory at its power-on values under any geometry, and channels at rest. -/
theorem pagesOk_fresh {g : Geometry} {low : Nat} (hp : s.page = PageMem.reset g low)
    (hc : ∀ ch, s.chan ch = Chan.reset) : PagesOk s := by
  have hslot : ∀ i, s.slot i = Page.reset := fun i => by
    simp [State.slot, hp, PageMem.reset]
  refine pagesOk_iff.mpr ⟨⟨?_, fun i _ => by rw [hslot]; rfl⟩, fun d _ => ?_⟩
  · have hheld : heldBands s = [] := List.flatMap_eq_nil_iff.mpr fun i _ => by rw [hslot]; rfl
    rw [Conserved, hheld, hp, List.append_nil]
    exact .refl _
  · rw [hc d]
    exact ⟨fun ref href => (by cases href), rfl⟩

theorem powerOn_pagesOk (cause : ResetCause) (rom : List Word) (free : Nat) (pending : List Instr) :
    PagesOk (State.powerOn cause rom free pending) :=
  pagesOk_fresh rfl fun ch => by cases ch <;> rfl

theorem readyStage_pages (s : State) : s.readyStage.pages = s.pages := rfl

/-- The stages from DRAM on put a geometry in force while the channels are as reset left them (09 R171, R174). -/
theorem bringUp_pagesOk (hc : ∀ ch, s.chan ch = Chan.reset) (c : Sections) (lines : BitVec 16) :
    PagesOk (s.bringUp c lines) := by
  have hch (ch : Channel) : (s.dramStage c).chan ch = s.chan ch := by cases ch <;> rfl
  have h1 : PagesOk (s.dramStage c) := pagesOk_fresh rfl fun ch => (hch ch).trans (hc ch)
  have h2 : PagesOk ((s.dramStage c).tablesStage c) := KeepsPages.same (tablesStage_pages _ c) h1
  exact KeepsPages.same (readyStage_pages _) (firstSample_keeps lines h2)

/-- The channels are as reset left them in a stage before READY. -/
theorem chans_of_asleep (h : AsleepBeforeReady s) (hs : s.boot.stage ≠ .ready) (ch : Channel) :
    s.chan ch = Chan.reset := by
  obtain ⟨_, _, _, _, _, hc, _⟩ := h hs
  exact hc ch

theorem putInForce_keeps (c : Sections) : KeepsPages s (s.putInForce c) := by
  have hp : ∀ t : State, (match c.priorities with
      | some ps => t.loadPriorities ps ids24
      | none => t).pages = t.pages := fun t => by split <;> simp
  have hr : ∀ t : State, ((t.reloadRamps c (List.finRange 4)).reloadPhases c allMotors).pages =
      t.pages := fun t => (reloadPhases_pages _ _ _).trans (reloadRamps_pages _ _ _)
  have hs : ∀ t : State, (match c.strobe with
      | some v => { t with print := { t.print with strobe := v } }
      | none => t).pages = t.pages := fun t => by split <;> rfl
  have hk : ∀ t : State, (match c.constants with
      | some k => t.reloadConstants k
      | none => t).pages = t.pages := fun t => by split <;> simp
  have hg : ∀ t : State, KeepsPages t (match c.gateways with
      | some gs => t.reloadGates gs ids16
      | none => t) := fun t => by
    split
    · exact reloadGates_keeps _ _
    · exact .refl t
  exact .after (hg _) (.same ((hk _).trans ((hs _).trans ((hr _).trans (hp s)))))

/-! ## Engine reset (01 R25) -/

theorem closeFilling_bandsOk (is : List (Fin 16)) (hs : BandsOk s) : BandsOk (s.closeFilling is) := by
  induction is generalizing s with
  | nil => exact hs
  | cons i rest ih =>
    refine ih ?_
    split
    · exact (closePage_pageMove s i true).bandsOk hs
    · exact hs

theorem dropReaders_bandsOk (is : List (Fin 16)) (hs : BandsOk s) : BandsOk (s.dropReaders is) := by
  induction is generalizing s with
  | nil => exact hs
  | cons i rest ih =>
    exact ih (PageMove.bandsOk (i := i) (setSlot_pageMove s i (by rfl) (by rfl)) hs)

theorem releaseAll_bandsOk (is : List (Fin 16)) (hs : BandsOk s) : BandsOk (s.releaseAll is) := by
  induction is generalizing s with
  | nil => exact hs
  | cons i rest ih => exact ih ((releaseTest_pageMove s i).bandsOk hs)

theorem resetPages_bandsOk (hs : BandsOk s) : BandsOk s.resetPages := by
  have h := releaseAll_bandsOk ids16 (dropReaders_bandsOk ids16 (closeFilling_bandsOk ids16 hs))
  unfold State.resetPages
  dsimp only
  generalize State.releaseAll _ ids16 = t at h
  exact bandsOk_of_pages (by rfl) h

/-- After the reset of the channels no writer has a page. -/
theorem resetChannels_pagesOk (hs : BandsOk s) : PagesOk s.resetChannels := by
  refine pagesOk_iff.mpr ⟨⟨hs.1, hs.2⟩, fun d _ => ?_⟩
  have hd : s.resetChannels.chan d = (s.chan d).engineReset := by cases d <;> rfl
  rw [hd]
  exact ⟨fun ref href => (by cases href), rfl⟩

theorem engineReset_keeps : KeepsPages s s.engineReset := by
  intro hs
  have h1 : PagesOk ((((s.cutLineWork .scan).cutLineWork .print).cutLineWork .codeOut).cutLineWork
      .codeIn) := KeepsPages.same (by simp) hs
  have h2 := resetChannels_pagesOk (resetPages_bandsOk (pagesOk_iff.mp h1).1)
  unfold State.engineReset
  dsimp only
  generalize State.resetChannels _ = t at h2
  have h3 : PagesOk (State.emptyPending { t.resetMotors with coder := t.resetMotors.coder.engineReset }
      ids24) := KeepsPages.same ((emptyPending_pages _ _).trans rfl) h2
  exact KeepsPages.same (resetPower_pages _) (rearm_keeps ids16 h3)

/-! ## Entries -/

theorem openSlot_keeps {ch : Channel} {i : Fin 16} {a b c : Bool} {n : Nat}
    (he : (s.slot i).state = .empty) : KeepsPages s (s.openSlot ch i a b c n) := by
  intro hs
  have h1 : PagesOk (s.giveSlot i ch a b c n) := giveSlot_keeps he hs
  have h2 : ∀ x : Chan, x.openPage = some ⟨i, ((s.giveSlot i ch a b c n).slot i).gen⟩ →
      x.state = ((s.giveSlot i ch a b c n).chan ch).state →
        PagesOk ((s.giveSlot i ch a b c n).setChan ch x) := by
    intro x hx hst
    refine (h1.but ch).setChan (fun _ ref href => ?_) fun hw => ?_
    · obtain rfl := Option.some.inj (hx.symm.trans href)
      simp [FillingUnder, State.giveSlot]
    · rw [hst]
      exact h1.reads hw
  unfold State.openSlot
  dsimp only
  refine notifyEnding_keeps ch _ ?_
  split
  · exact KeepsPages.same rfl (h2 _ rfl rfl)
  · exact h2 _ rfl rfl

theorem emptySlot_state {i : Fin 16} (h : s.emptySlot = some i) : (s.slot i).state = .empty := by
  simpa using List.find?_some h

theorem openWriteEntry_keeps (ch : Channel) (a b c : Bool) (n : Nat) :
    KeepsPages s (s.openWriteEntry ch a b c n) := by
  unfold State.openWriteEntry
  split
  · exact faultEntry_keeps ch _
  split
  · exact faultEntry_keeps ch _
  split
  · rename_i i hi
    exact openSlot_keeps (emptySlot_state hi)
  · exact .after (.same rfl) (startWait_keeps ch (w := .slot) rfl)

section
variable {ch : Channel} (hw : isWriter ch = false)
include hw

/-- A reader's channel may be replaced by any. -/
theorem setChan_keeps_reader (c : Chan) : KeepsPages s (s.setChan ch c) :=
  setChan_keeps fun h => by rw [hw] at h; cases h

theorem join_keeps (r : PageRef) (rel : Bool) (n : Nat) : KeepsPages s (s.join ch r rel n) := by
  refine .after (endEntry_keeps ch) (.after (setChan_keeps_reader hw _) (setSlot_keeps s _ ?_ ?_ ?_)) <;>
    cases ch <;> rfl

theorem openResolved_keeps (r : PageRef) (f rel : Bool) (n : Nat) :
    KeepsPages s (s.openResolved ch r f rel n) := by
  unfold State.openResolved
  split
  · refine .after (faultEntry_keeps ch _) (.same ?_)
    split <;> rfl
  · split
    · exact join_keeps hw r rel n
    · exact setChan_keeps_reader hw _

theorem openPeer_keeps (p : Channel) (f rel : Bool) (n : Nat) :
    KeepsPages s (s.openPeer ch p f rel n) := by
  unfold State.openPeer
  split
  · exact openResolved_keeps hw _ f rel n
  · exact setChan_keeps_reader hw _

theorem reopen_keeps (r : PageRef) (f rel : Bool) (n : Nat) : KeepsPages s (s.reopen ch r f rel n) := by
  unfold State.reopen
  split
  · exact openResolved_keeps hw r f rel n
  · exact setChan_keeps_reader hw _

end

theorem openReadEntry_keeps (ch : Channel) (f rel p : Bool) (a b c : Nat) :
    KeepsPages s (s.openReadEntry ch f rel p a b c) := by
  unfold State.openReadEntry
  split
  · exact faultEntry_keeps ch _
  rename_i hw
  have hw : isWriter ch = false := by simpa using hw
  split
  · exact faultEntry_keeps ch _
  split
  · exact reopen_keeps hw _ f rel c
  split
  · split
    · exact openPeer_keeps hw _ f rel c
    · exact faultEntry_keeps ch _
  · split
    · exact openResolved_keeps hw _ f rel c
    · exact faultEntry_keeps ch _

theorem link_keeps (ch : Channel) (m : MotorId) (spl : Nat) (n : Fin 4) (top : Nat) :
    KeepsPages s (s.link ch m spl n top) :=
  .after (endEntry_keeps ch) (.same (setMotor_pages s m _))

theorem linkMotorEntry_keeps (ch : Channel) (m : MotorId) (spl : Nat) (n : Fin 4) (top : Nat) :
    KeepsPages s (s.linkMotorEntry ch m spl n top) := by
  unfold State.linkMotorEntry
  split
  · exact startWait_keeps ch rfl
  split
  · exact faultEntry_keeps ch _
  · exact link_keeps ch m spl n top

theorem setProcessingEntry_keeps (ch : Channel) (a b : Bool) (mode th : Nat) :
    KeepsPages s (s.setProcessingEntry ch a b mode th) := by
  unfold State.setProcessingEntry
  split
  · exact faultEntry_keeps ch _
  split
  · exact startWait_keeps ch rfl
  · exact select_keeps ch _

theorem waitLineEntry_keeps (ch : Channel) (g : Fin 16) (high : Bool) (n : Nat) :
    KeepsPages s (s.waitLineEntry ch g high n) := by
  unfold State.waitLineEntry
  dsimp only
  split
  · exact endEntry_keeps ch
  · exact setChan_keeps_moved rfl rfl

theorem leavePage_keeps (ch : Channel) (r : PageRef) : KeepsPages s (s.leavePage ch r) :=
  .after (endEntry_keeps ch)
    (.after (setChan_keeps fun _ => ⟨.inr rfl, .inl rfl⟩) (leave_keeps s r.slot ch _))

/-- A writer's CLOSE completes its page, and the writer has none (02 R46). -/
theorem closeWriterEntry_keeps {ch : Channel} (hw : isWriter ch = true) :
    KeepsPages s (s.closeWriterEntry ch) := by
  intro hs
  unfold State.closeWriterEntry
  split
  · exact faultEntry_keeps ch _ hs
  rename_i ref href
  have h := (completePage_but false hs (hs.filling hw href)).setChan
    (c := { (s.completePage ref.slot false).chan ch with openPage := none, held := none })
    (fun _ r hr => by cases hr) (fun _ => by
      rw [completePage_chan]
      exact hs.reads hw)
  exact notifyEnding_keeps ch _ h

theorem offerPageEnd_keeps : KeepsPages s s.offerPageEnd :=
  .after (.same rfl) (setChan_keeps_still (s := s) (ch := .codeOut) rfl rfl)

theorem closeReaderEntry_keeps (ch : Channel) : KeepsPages s (s.closeReaderEntry ch) := by
  unfold State.closeReaderEntry
  split
  · exact faultEntry_keeps ch _
  split
  · exact offerPageEnd_keeps
  · exact leavePage_keeps ch _

theorem jumpEntry_keeps (ch : Channel) (a : Nat) : KeepsPages s (s.jumpEntry ch a) := by
  unfold State.jumpEntry
  split
  · exact setChan_keeps_still rfl rfl
  · exact faultEntry_keeps ch _

theorem pauseNow_keeps (ch : Channel) (c : PauseCause) : KeepsPages s (s.pauseNow ch c) :=
  .after (.same rfl) (.after (notify_keeps ch _) (setChan_keeps_moved (s := s) rfl rfl))

theorem abortNow_keeps (ch : Channel) : KeepsPages s (s.abortNow ch) :=
  .after (postFinal_keeps ch _) (abortSteps_keeps ch)

/-! ## Lines on the paths -/

theorem advanceReader_keeps (ch : Channel) : KeepsPages s (s.advanceReader ch) := by
  unfold State.advanceReader
  dsimp only
  split
  · exact .after (freeBehind_keeps _ _) (setChan_keeps_still (ch := ch) rfl rfl)
  · exact setChan_keeps_still rfl rfl

theorem handToPrint_keeps (n : Nat) (slot : List Byte) : KeepsPages s (s.handToPrint n slot) := by
  unfold State.handToPrint
  dsimp only
  generalize hu : (if s.chans.print.pauseReq = some .abort then s else s.enterQueue _) = u
  have hp : u.pages = s.pages := by
    rw [← hu]
    split <;> rfl
  have h1 : KeepsPages u (u.setChan .print { u.chans.print with
      scaleAcc := (s.chans.print.scaleAcc + s.chans.print.scale) % 256 }) :=
    setChan_keeps_still rfl rfl
  exact .after (.same (by rfl)) (.after h1 (.same hp))

theorem handOver_keeps (ch : Channel) (n : Nat) (slot : List Byte) :
    KeepsPages s (s.handOver ch n slot) := by
  cases ch with
  | print => exact handToPrint_keeps n slot
  | codeOut => exact .same rfl
  | scan => exact .refl s
  | codeIn => exact .refl s

theorem endIfRead_keeps (ch : Channel) : KeepsPages s (s.endIfRead ch) := by
  unfold State.endIfRead
  dsimp only
  split
  · refine .after (endEntry_keeps ch) (setChan_keeps fun _ => ⟨.inl rfl, ?_⟩)
    dsimp only
    split
    · exact .inr rfl
    · exact .inl rfl
  · exact .refl s

theorem storeScan_keeps (b : BufId) : KeepsPages s (s.storeScan b) :=
  .after (.same (setBuf_pages _ _ _)) (.after (countMoved_keeps .scan) (storeLine_keeps s _))

theorem coder_pages (s : State) (c : CoderLink) : { s with coder := c }.pages = s.pages := rfl

theorem storeHeld_keeps : KeepsPages s s.storeHeld := by
  unfold State.storeHeld
  dsimp only
  refine .after (.same (coder_pages _ _)) (.after (setChan_keeps_still (ch := .codeIn) rfl rfl)
    (.after (countMoved_keeps .codeIn) ?_))
  cases s.chans.codeIn.openPage with
  | none => exact .refl s
  | some r => exact storeLine_keeps s _

theorem goodStored_keeps : KeepsPages s s.goodStored :=
  .after (.same (coder_pages _ _)) (.after (setChan_keeps_still (ch := .codeIn) rfl rfl) (storeHeld_keeps (s := s)))

theorem countConcealed_keeps : KeepsPages s s.countConcealed := by
  unfold State.countConcealed
  split
  · exact setSlot_keeps s _ rfl rfl rfl
  · exact .refl s

theorem concealmentStored_keeps : KeepsPages s s.concealmentStored :=
  .after (.same ((burstTest_pages _ _).trans (coder_pages _ _))) <|
    .after (setChan_keeps_still (ch := .codeIn) rfl rfl) <|
      .after countConcealed_keeps (storeHeld_keeps (s := s))

theorem closeSent_keeps (f : Frame) : KeepsPages s (s.closeSent f) := by
  unfold State.closeSent
  dsimp only
  split
  · split
    · exact leavePage_keeps .codeOut _
    · exact .refl s
  · exact .refl s

/-! ## Reports and commands -/

theorem afterReport_calm (c : Chan) : c.afterReport = c.state ∨ c.afterReport.reads = false := by
  unfold Chan.afterReport
  split
  · exact .inr rfl
  · exact .inl rfl

theorem requestGone_calm (c : Chan) : c.requestGone = c.state ∨ c.requestGone.reads = false := by
  unfold Chan.requestGone
  split
  · exact .inr rfl
  · exact .inl rfl

theorem noticePosted_keeps (ch : Channel) (f : Bool) : KeepsPages s (s.noticePosted ch f) := by
  unfold State.noticePosted
  dsimp only
  split
  · exact setChan_keeps_moved rfl rfl
  split
  · exact setChan_keeps_still rfl rfl
  · exact .after (endPosted_keeps ch) (setChan_keeps fun _ => ⟨.inl rfl, afterReport_calm _⟩)

theorem posted_keeps (w : Producer) : KeepsPages s (s.posted w) := by
  cases w with
  | notice ch f => exact noticePosted_keeps ch f
  | completion => exact .same rfl
  | event => exact .same rfl
  | boot => exact .same rfl

theorem continueChain_keeps (ch : Channel) : KeepsPages s (s.continueChain ch) := by
  refine .after (endPosted_keeps ch) (.after (.same (freeBudget_pages _ ch))
    (setChan_keeps_moved rfl ?_))
  dsimp only
  split <;> rfl

theorem clearBlock_keeps (b m : Nat) : KeepsPages s (s.clearBlock b m) := by
  unfold State.clearBlock
  split
  iterate 7 exact .same rfl
  split
  · exact setChan_keeps_still rfl rfl
  · exact .refl s

theorem loadOn_keeps (l : Load) : KeepsPages s (s.loadOn l) := by
  unfold State.loadOn
  split
  · exact .after endTableWait_keeps (.same (complete_pages s _ _))
  · exact .same rfl

end Sys2Proof.Machine
end

section
/-! PROOFS. Every command keeps the bands conserved: one lemma for each row with more than one outcome, and one for
`exec`. -/

namespace Sys2Proof.Machine

variable {s : State}

/-- A row keeps the pages in order when its effect does. -/
theorem runIf_keeps_of {due : Bool} {e : State} (h : due = true → KeepsPages s e) :
    Answers (KeepsPages s) (runIf due s e) :=
  runIf_answers (.refl s) fun hd => (h hd).trans settle_keeps

theorem runIf_keeps {due : Bool} {e : State} (h : KeepsPages s e) :
    Answers (KeepsPages s) (runIf due s e) := runIf_keeps_of fun _ => h

theorem idle_keeps : Answers (KeepsPages s) (runIf false s s) := runIf_keeps (.refl s)

/-! ## Start-up and the host port -/

theorem bringUp_keeps (h : AsleepBeforeReady s) (hb : s.boot.stage ≠ .ready) (b : BootUnit) (c : Sections)
    (lines : BitVec 16) : KeepsPages s ({ s with boot := b }.bringUp c lines) := by
  have hc (ch : Channel) : State.chan { s with boot := b } ch = Chan.reset := by
    rw [← chans_of_asleep h hb ch]
    cases ch <;> rfl
  exact fun _ => bringUp_pagesOk hc c lines

theorem execHardReset_keeps (cause : ResetCause) (rom : Option (List Word)) :
    Answers (KeepsPages s) (execHardReset cause rom s) :=
  runIf_keeps fun _ => powerOn_pagesOk _ _ _ _

theorem execProbe_keeps (h : AsleepBeforeReady s) (cfgskip : Bool) (lines : BitVec 16) :
    Answers (KeepsPages s) (execProbe cfgskip lines s) := by
  refine runIf_keeps_of fun hd => ?_
  have hb : s.boot.stage ≠ .ready := by simp [show s.boot.stage = .reset by simpa using hd]
  split
  · exact .same rfl
  · exact bringUp_keeps h hb _ _ _

theorem execProbeWordReadEnd_keeps (h : AsleepBeforeReady s) (lines : BitVec 16) :
    Answers (KeepsPages s) (execProbeWordReadEnd lines s) := by
  refine runIf_keeps_of fun hd => ?_
  have hb : s.boot.stage ≠ .ready := by simp [show s.boot.stage = .probe by simpa using hd]
  split
  · exact bringUp_keeps h hb _ _ _
  · exact .same rfl

theorem execImageReadEnd_keeps (h : AsleepBeforeReady s) (lines : BitVec 16) :
    Answers (KeepsPages s) (execImageReadEnd lines s) := by
  refine runIf_keeps_of fun hd => ?_
  have hb : s.boot.stage ≠ .ready := by simp [show s.boot.stage = .load by simpa using hd]
  exact bringUp_keeps h hb _ _ _

theorem writeCommandWord_pages (v : Word) : (s.writeCommandWord v).pages = s.pages := by
  unfold State.writeCommandWord
  split <;> rfl

theorem writeReportWord_pages (v : Word) : (s.writeReportWord v).pages = s.pages := by
  unfold State.writeReportWord
  split <;> rfl

theorem execHostMemoryCycle_keeps (hasel : Bool) (a : BitVec 21) (write : Option Word) :
    Answers (KeepsPages s) (execHostMemoryCycle hasel a write s) := by
  refine runIf_keeps (.same ?_)
  split
  · unfold State.attentionCycle
    split
    · split
      · exact writeReportWord_pages _
      · exact writeCommandWord_pages _
    · rfl
  · rfl

theorem execHostWordServed_keeps : Answers (KeepsPages s) (execHostWordServed s) := by
  unfold execHostWordServed
  split
  · refine runIf_keeps (.same ((freePort_pages _).trans ?_))
    unfold State.serveHost
    split <;> rfl
  · exact idle_keeps

/-! ## The record unit -/

theorem advanceProducer_pages (w : Writing) : (s.advanceProducer w).pages = s.pages := releasePort_pages s

theorem execReportWriteEnd_keeps : Answers (KeepsPages s) (execReportWriteEnd s) := by
  unfold execReportWriteEnd
  split
  · exact runIf_keeps (.after (posted_keeps _) (.same (advanceProducer_pages _)))
  · exact idle_keeps

theorem execProducerIndexWriteEnd_keeps : Answers (KeepsPages s) (execProducerIndexWriteEnd s) := by
  unfold execProducerIndexWriteEnd
  split
  · exact runIf_keeps (.same (releasePort_pages s))
  · exact idle_keeps

theorem execConsumerIndexWriteEnd_keeps : Answers (KeepsPages s) (execConsumerIndexWriteEnd s) := by
  unfold execConsumerIndexWriteEnd
  split
  · dsimp only
    split <;> exact runIf_keeps (.same (releasePort_pages s))
  · exact idle_keeps

theorem execPageQueryFirstWriteEnd_keeps : Answers (KeepsPages s) (execPageQueryFirstWriteEnd s) := by
  unfold execPageQueryFirstWriteEnd
  split
  · exact runIf_keeps (.same (releasePort_pages s))
  · exact idle_keeps

theorem execPageQueryWriteEnd_keeps : Answers (KeepsPages s) (execPageQueryWriteEnd s) := by
  unfold execPageQueryWriteEnd
  split
  · exact runIf_keeps (.same (releasePort_pages s))
  · exact idle_keeps

/-! ## Commands -/

theorem startCommand_keeps : KeepsPages s s.startCommand := by
  unfold State.startCommand
  dsimp only
  split
  · exact .same (refuse_pages s _)
  split
  · exact .same (refuse_pages s _)
  split
  · exact .same (refuse_pages s _)
  split
  · exact .same (refuse_pages s _)
  · exact .after (.same (complete_pages _ _ _))
      (.after (setChan_keeps_moved rfl rfl) (.same (leaveDoze_pages s _)))

theorem stopPause_keeps : KeepsPages s s.stopPause := by
  unfold State.stopPause
  dsimp only
  split
  · exact .same (refuse_pages s _)
  split
  · exact .same (refuse_pages s _)
  · exact .after (.same (complete_pages _ _ _)) (askPause_keeps _ _)

theorem stopAbort_keeps : KeepsPages s s.stopAbort := by
  unfold State.stopAbort
  dsimp only
  split
  · exact .same (refuse_pages s _)
  split
  · exact .same (refuse_pages s _)
  · exact .after (.same (complete_pages _ _ _)) (askAbort_keeps _)

theorem resumeCommand_keeps : KeepsPages s s.resumeCommand := by
  unfold State.resumeCommand
  split
  · exact .same (refuse_pages s _)
  dsimp only
  split
  · exact .same (refuse_pages s _)
  · exact .after (.same (complete_pages _ _ _)) (.after (endPosted_keeps _)
      (.after (.same (freeBudget_pages _ _))
        (setChan_keeps fun _ => ⟨.inl rfl, requestGone_calm _⟩)))
  · split
    · exact .after (.same (complete_pages _ _ _)) (continueChain_keeps _)
    · exact .same (refuse_pages s _)

theorem moveCommand_pages : s.moveCommand.pages = s.pages := by
  unfold State.moveCommand
  dsimp only
  split
  · rfl
  split
  · split
    · rfl
    split
    · rfl
    split
    · rfl
    split
    · rfl
    · simp
  · rfl

theorem stopRampCommand_pages : s.stopRampCommand.pages = s.pages := by
  unfold State.stopRampCommand
  dsimp only
  split
  · rfl
  split
  · rfl
  split <;> simp

theorem stopNowCommand_pages : s.stopNowCommand.pages = s.pages := by
  unfold State.stopNowCommand
  dsimp only
  split
  · rfl
  split <;> simp

theorem motorResumeCommand_pages : s.motorResumeCommand.pages = s.pages := by
  unfold State.motorResumeCommand
  split <;> simp

theorem motorReleaseCommand_pages : s.motorReleaseCommand.pages = s.pages := by
  unfold State.motorReleaseCommand
  split
  · rfl
  split <;> simp

theorem execMotorStep_keeps (m : MotorId) : Answers (KeepsPages s) (execMotorStep m s) := by
  refine runIf_keeps ?_
  split
  · exact .same (setMotor_pages s m _)
  · exact issueStep_keeps m

theorem loadCommand_pages : s.loadCommand.pages = s.pages := by
  unfold State.loadCommand
  dsimp only
  split
  · rfl
  split
  · rfl
  split
  · rfl
  split <;> simp

theorem execScanTableBurstEnd_keeps : Answers (KeepsPages s) (execScanTableBurstEnd s) := by
  unfold execScanTableBurstEnd
  split
  · dsimp only
    split
    iterate 2
      exact runIf_keeps (.after (loadOn_keeps _)
        (.same ((fillScan_pages _ _ _ _).trans (releasePort_pages s))))
    exact idle_keeps
  · exact idle_keeps

theorem execStrobeLoadEnd_keeps : Answers (KeepsPages s) (execStrobeLoadEnd s) := by
  unfold execStrobeLoadEnd
  split
  · exact runIf_keeps (.same (releasePort_pages s))
  · exact idle_keeps

theorem execRampLoadEnd_keeps : Answers (KeepsPages s) (execRampLoadEnd s) := by
  unfold execRampLoadEnd
  split
  · dsimp only
    split
    · refine runIf_keeps (.same ?_)
      split <;> simp
    · exact idle_keeps
  · exact idle_keeps

theorem execPhaseLoadEnd_keeps : Answers (KeepsPages s) (execPhaseLoadEnd s) := by
  unfold execPhaseLoadEnd
  split
  · dsimp only
    split
    · exact runIf_keeps (.same (by simp))
    · exact idle_keeps
  · exact idle_keeps

theorem queryCommand_pages : s.queryCommand.pages = s.pages := by
  unfold State.queryCommand
  dsimp only
  split
  · rfl
  split
  · rfl
  split
  · rfl
  split
  · rfl
  · exact refuseRef_pages s _

theorem releaseCommand_keeps : KeepsPages s s.releaseCommand := by
  unfold State.releaseCommand
  dsimp only
  split
  · exact .after (.same (complete_pages _ _ _))
      (.after (releaseTest_keeps _ _) (setSlot_keeps s _ rfl rfl rfl))
  · exact .same (refuseRef_pages s _)

theorem sensorConfigCommand_keeps : KeepsPages s s.sensorConfigCommand := by
  unfold State.sensorConfigCommand
  dsimp only
  split
  · exact .same (refuse_pages s _)
  · exact .same (refuse_pages s _)
  · exact .after (.same (complete_pages _ _ _)) (configGate_keeps _ _)

theorem priorityCommand_pages : s.priorityCommand.pages = s.pages := by
  unfold State.priorityCommand
  dsimp only
  split <;> simp

theorem powerCommand_pages {e : State} (h : e.pages = s.pages) : (s.powerCommand e).pages = s.pages := by
  unfold State.powerCommand
  split
  · rfl
  · exact h

theorem powerRun_pages : s.powerRun.pages = s.pages := by
  unfold State.powerRun
  split
  · rfl
  · exact leaveDoze_pages s _

theorem powerDoze_pages : s.powerDoze.pages = s.pages := by
  unfold State.powerDoze
  split <;> rfl

theorem execDrainTimerExpiry_keeps : Answers (KeepsPages s) (execDrainTimerExpiry s) := by
  unfold execDrainTimerExpiry
  split
  · split
    · exact runIf_keeps (.same (abandonDrain_pages s _ _))
    · exact idle_keeps
  · exact idle_keeps

theorem execSelfRefreshExitEnd_keeps : Answers (KeepsPages s) (execSelfRefreshExitEnd s) := by
  have h : s.leaveSelfRefresh.pages = s.pages :=
    judgeCycle_pages { s with port := { s.port with mode := .running } }
  exact runIf_keeps (.same ((raise_pages _ _ _ _).trans h))

theorem statusCommand_pages : s.statusCommand.pages = s.pages := by
  unfold State.statusCommand
  dsimp only
  split <;> rfl

theorem clearCommand_keeps : KeepsPages s s.clearCommand := by
  unfold State.clearCommand
  dsimp only
  split
  · exact .same (refuse_pages s _)
  · exact .after (.same (complete_pages _ _ _)) (clearBlock_keeps _ _)

theorem engineResetCommand_keeps : KeepsPages s s.engineResetCommand :=
  .after (.same (complete_pages _ _ _)) engineReset_keeps

theorem reloadCommand_pages : s.reloadCommand.pages = s.pages := by
  unfold State.reloadCommand
  split
  · rfl
  split <;> rfl

theorem reloadEnd_keeps (r : Reading) : KeepsPages s (s.reloadEnd r) := by
  unfold State.reloadEnd
  dsimp only
  split
  · exact .after (.same (complete_pages _ _ _)) (.after (putInForce_keeps _) (.same rfl))
  · exact .same rfl

theorem storeCommand_pages : s.storeCommand.pages = s.pages := by
  unfold State.storeCommand
  dsimp only
  split
  · rfl
  split
  · rfl
  split
  · rfl
  split <;> rfl

theorem execStoreSourceBurstEnd_keeps : Answers (KeepsPages s) (execStoreSourceBurstEnd s) := by
  unfold execStoreSourceBurstEnd
  split
  · exact runIf_keeps (.same (releasePort_pages s))
  · exact idle_keeps

theorem execStoreWordShifted_keeps : Answers (KeepsPages s) (execStoreWordShifted s) := by
  unfold execStoreWordShifted
  split
  · split
    · exact runIf_keeps (.same rfl)
    · exact idle_keeps
  · exact idle_keeps

theorem execEepromReady_keeps : Answers (KeepsPages s) (execEepromReady s) := by
  unfold execEepromReady
  split
  · exact runIf_keeps (.same rfl)
  · exact idle_keeps

theorem execEepromReadyTimeout_keeps : Answers (KeepsPages s) (execEepromReadyTimeout s) := by
  unfold execEepromReadyTimeout
  split
  · exact runIf_keeps (.same (storeFailed_pages s _))
  · exact idle_keeps

theorem execStoreReadbackEnd_keeps (w : Word) : Answers (KeepsPages s) (execStoreReadbackEnd w s) := by
  unfold execStoreReadbackEnd
  split
  · split
    · refine runIf_keeps (.same ?_)
      split
      · exact storeOn_pages _ _ _
      · exact storeFailed_pages _ _
    · exact idle_keeps
  · exact idle_keeps

/-! ## Chain entries -/

theorem execEntryFetchEnd_keeps : Answers (KeepsPages s) (execEntryFetchEnd s) := by
  unfold execEntryFetchEnd
  split
  · dsimp only
    split
    · exact runIf_keeps (.after
        (setChan_keeps_still (arrive_still _ _ _ _).1 (arrive_still _ _ _ _).2)
        (.same (releasePort_pages s)))
    · exact runIf_keeps (.same (releasePort_pages s))
  · exact idle_keeps

section
variable (ch : Channel)

theorem execOpenWrite_keeps : Answers (KeepsPages s) (execOpenWrite ch s) := by
  unfold execOpenWrite
  split
  · exact runIf_keeps (openWriteEntry_keeps ch _ _ _ _)
  · exact idle_keeps

theorem execOpenRead_keeps : Answers (KeepsPages s) (execOpenRead ch s) := by
  unfold execOpenRead
  split
  · exact runIf_keeps (openReadEntry_keeps ch _ _ _ _ _ _)
  · exact idle_keeps

theorem execLines_keeps : Answers (KeepsPages s) (execLines ch s) := by
  unfold execLines
  split
  · exact runIf_keeps (beginLines_keeps ch _ _ _)
  · exact idle_keeps

theorem execSetProcessing_keeps : Answers (KeepsPages s) (execSetProcessing ch s) := by
  unfold execSetProcessing
  split
  · exact runIf_keeps (setProcessingEntry_keeps ch _ _ _ _)
  · exact idle_keeps

theorem execLinkMotor_keeps : Answers (KeepsPages s) (execLinkMotor ch s) := by
  unfold execLinkMotor
  split
  · split
    · exact runIf_keeps (linkMotorEntry_keeps ch _ _ _ _)
    · exact runIf_keeps (faultEntry_keeps ch _)
  · exact idle_keeps

theorem execUnlink_keeps : Answers (KeepsPages s) (execUnlink ch s) := by
  unfold execUnlink
  split
  · split
    · exact runIf_keeps (.after (endEntry_keeps ch) (.same (unlinkMotor_pages s _)))
    · exact runIf_keeps (faultEntry_keeps ch _)
  · exact idle_keeps

theorem execWaitLine_keeps : Answers (KeepsPages s) (execWaitLine ch s) := by
  unfold execWaitLine
  split
  · exact runIf_keeps (waitLineEntry_keeps ch _ _ _)
  · exact idle_keeps

theorem execCloseWriter_keeps : Answers (KeepsPages s) (execCloseWriter ch s) := by
  unfold execCloseWriter
  split
  · refine runIf_keeps_of fun hd => closeWriterEntry_keeps ?_
    exact (Bool.and_eq_true_iff.mp hd).1
  · exact idle_keeps

theorem execCloseReader_keeps : Answers (KeepsPages s) (execCloseReader ch s) := by
  unfold execCloseReader
  split
  · exact runIf_keeps (closeReaderEntry_keeps ch)
  · exact idle_keeps

theorem execMark_keeps : Answers (KeepsPages s) (execMark ch s) := by
  unfold execMark
  split
  · exact runIf_keeps (notifyEnding_keeps ch _)
  · exact idle_keeps

theorem execJump_keeps : Answers (KeepsPages s) (execJump ch s) := by
  unfold execJump
  split
  · exact runIf_keeps (jumpEntry_keeps ch _)
  · exact idle_keeps

theorem execEndEntry_keeps : Answers (KeepsPages s) (execEndEntry ch s) := by
  unfold execEndEntry
  split
  · exact runIf_keeps (notifyEnding_keeps ch _)
  · exact idle_keeps

theorem execUnknownEntry_keeps : Answers (KeepsPages s) (execUnknownEntry ch s) := by
  unfold execUnknownEntry
  split
  · exact runIf_keeps (faultEntry_keeps ch _)
  · exact idle_keeps

/-! ## The ends of waits and the boundaries -/

theorem execSlotHanded_keeps : Answers (KeepsPages s) (execSlotHanded s) := by
  unfold execSlotHanded
  split
  · rename_i ch rest i _ hi
    split
    · have h1 : KeepsPages s { s with page := { s.page with slotWait := rest } } := .same rfl
      have he : (State.slot (State.runAgain { s with page := { s.page with slotWait := rest } } ch)
          i).state = .empty := emptySlot_state hi
      exact runIf_keeps (.after (openSlot_keeps he) (.after (runAgain_keeps ch) h1))
    · exact idle_keeps
  · exact idle_keeps

variable {ch} in
/-- A channel that is in a wait of OPEN READ is no writer (02 R29). -/
theorem reader_of_waitsFor {w : Wait} (hs : PagesOk s) (hw : (ChState.waiting w).reads = true)
    (h : s.waitsFor ch w = true) : isWriter ch = false := by
  have hst : (s.chan ch).state = .waiting w := by
    unfold State.waitsFor at h
    simpa using (Bool.and_eq_true_iff.mp h).1
  cases hc : isWriter ch with
  | false => rfl
  | true =>
    have hno := hs.reads hc
    rw [hst, hw] at hno
    exact hno

theorem execPeerPageResolved_keeps : Answers (KeepsPages s) (execPeerPageResolved ch s) := by
  unfold execPeerPageResolved
  split
  · split
    · refine runIf_keeps_of fun hd hs => ?_
      exact openResolved_keeps (reader_of_waitsFor hs rfl hd) _ _ _ _ (runAgain_keeps ch hs)
    · exact idle_keeps
  · exact idle_keeps

theorem execWaitCompleteEnd_keeps : Answers (KeepsPages s) (execWaitCompleteEnd ch s) := by
  unfold execWaitCompleteEnd
  split
  · refine runIf_keeps_of fun hd hs => ?_
    have hw := reader_of_waitsFor hs rfl (Bool.and_eq_true_iff.mp hd).1
    exact openResolved_keeps hw _ _ _ _ (runAgain_keeps ch hs)
  · exact idle_keeps

theorem execWaitGateEnd_keeps : Answers (KeepsPages s) (execWaitGateEnd ch s) := by
  unfold execWaitGateEnd
  split
  · exact runIf_keeps ((runAgain_keeps ch).trans (endEntry_keeps ch))
  · exact idle_keeps

theorem execWaitLineTimeout_keeps : Answers (KeepsPages s) (execWaitLineTimeout ch s) :=
  runIf_keeps (faultEntry_keeps ch .waitExpired)

theorem execPauseBoundaryReached_keeps : Answers (KeepsPages s) (execPauseBoundaryReached ch s) := by
  unfold execPauseBoundaryReached
  split
  · exact runIf_keeps (pauseNow_keeps ch _)
  · exact idle_keeps

theorem execAbortBoundaryReached_keeps : Answers (KeepsPages s) (execAbortBoundaryReached ch s) := by
  unfold execAbortBoundaryReached
  split
  · exact runIf_keeps (abortNow_keeps ch)
  · exact idle_keeps

end

/-! ## The paths of the lines -/

theorem execLineReadEnd_keeps : Answers (KeepsPages s) (execLineReadEnd s) := by
  unfold execLineReadEnd
  split
  · exact runIf_keeps (.after (endIfRead_keeps _) (.after (handOver_keeps _ _ _)
      (.after (advanceReader_keeps _) (.same (releasePort_pages s)))))
  · exact idle_keeps

theorem execCaptureEnd_keeps (v : List Byte) : Answers (KeepsPages s) (execCaptureEnd v s) := by
  unfold execCaptureEnd
  split
  · exact runIf_keeps (.same (finishCapture_pages s _ _))
  · exact idle_keeps

theorem execScanWriteEnd_keeps : Answers (KeepsPages s) (execScanWriteEnd s) := by
  unfold execScanWriteEnd
  split
  · exact runIf_keeps (.after (storeScan_keeps _)
      (.same ((releasePort_pages _).trans (endBurst_pages s _))))
  · exact idle_keeps

theorem execStrobePhaseEnd_keeps : Answers (KeepsPages s) (execStrobePhaseEnd s) := by
  unfold execStrobePhaseEnd
  split
  · refine runIf_keeps ?_
    split
    · exact .same rfl
    · exact burnEnd_keeps
  · exact idle_keeps

theorem execFrameSendStart_keeps (o : CoderOffer) : Answers (KeepsPages s) (execFrameSendStart o s) := by
  refine runIf_keeps (.after (setChan_keeps (ch := .codeOut) fun h => by cases h)
    (.same (coder_pages s _)))

theorem execFrameTaken_keeps : Answers (KeepsPages s) (execFrameTaken s) := by
  unfold execFrameTaken
  split
  · exact runIf_keeps (.after (closeSent_keeps _) (.same (coder_pages s _)))
  · exact idle_keeps

theorem execPageEndReceived_keeps : Answers (KeepsPages s) (execPageEndReceived s) := by
  refine runIf_keeps ?_
  split
  · exact .after (endEntry_keeps .codeIn) (.same (coder_pages s _))
  · exact .same (coder_pages s _)

theorem execCodeInSlotWriteEnd_keeps : Answers (KeepsPages s) (execCodeInSlotWriteEnd s) := by
  unfold execCodeInSlotWriteEnd
  split
  · exact runIf_keeps (.after limitIfFull_keeps (.after goodStored_keeps
      (.same ((releasePort_pages _).trans (endBurst_pages s _)))))
  · exact idle_keeps

theorem execConcealmentStored_keeps : Answers (KeepsPages s) (execConcealmentStored s) := by
  unfold execConcealmentStored
  split
  · exact runIf_keeps (.after limitIfFull_keeps (.after concealmentStored_keeps
      (.same ((releasePort_pages _).trans (endBurst_pages s _)))))
  · exact idle_keeps

/-! ## Every command -/

/-- Every command keeps the bands conserved, with what that rests on; the rows that put a geometry in force do so
while the channels are as reset left them. -/
theorem exec_keeps (h : AsleepBeforeReady s) (c : Instr) : Answers (KeepsPages s) (exec c s) := by
  cases c with
  | hardReset cause rom => exact execHardReset_keeps cause rom
  | probe k l => exact execProbe_keeps h k l
  | probeWordReadEnd l => exact execProbeWordReadEnd_keeps h l
  | imageReadEnd l => exact execImageReadEnd_keeps h l
  | hostRelease => exact runIf_keeps (.same rfl)
  | commandWordWrite v => exact runIf_keeps (.same (writeCommandWord_pages v))
  | reportWordWrite v => exact runIf_keeps (.same (writeReportWord_pages v))
  | hostMemoryCycle k a w => exact execHostMemoryCycle_keeps k a w
  | hostWordServed => exact execHostWordServed_keeps
  | refreshDue => exact runIf_keeps (.same rfl)
  | commandFetchEnd => exact runIf_keeps (.same (releasePort_pages s))
  | unknownCommand => exact runIf_keeps (.same (refuse_pages s _))
  | startChain => exact runIf_keeps startCommand_keeps
  | stopChannelPause => exact runIf_keeps stopPause_keeps
  | stopChannelAbort => exact runIf_keeps stopAbort_keeps
  | resumeChannel => exact runIf_keeps resumeCommand_keeps
  | motorMove => exact runIf_keeps (.same moveCommand_pages)
  | motorStopRamp => exact runIf_keeps (.same stopRampCommand_pages)
  | motorStopImmediate => exact runIf_keeps (.same stopNowCommand_pages)
  | motorResume => exact runIf_keeps (.same motorResumeCommand_pages)
  | motorRelease => exact runIf_keeps (.same motorReleaseCommand_pages)
  | loadTableScan => exact runIf_keeps (.same loadCommand_pages)
  | loadTableStrobe => exact runIf_keeps (.same loadCommand_pages)
  | loadTableRamp => exact runIf_keeps (.same loadCommand_pages)
  | loadTablePhase => exact runIf_keeps (.same loadCommand_pages)
  | headClass => exact runIf_keeps (.same rfl)
  | pageQuery => exact runIf_keeps (.same queryCommand_pages)
  | pageQueryWriteEnd => exact execPageQueryWriteEnd_keeps
  | pageRelease => exact runIf_keeps releaseCommand_keeps
  | sensorConfig => exact runIf_keeps sensorConfigCommand_keeps
  | eventPriority => exact runIf_keeps (.same priorityCommand_pages)
  | eventThreshold => exact runIf_keeps (.same rfl)
  | powerRun => exact runIf_keeps (.same (powerCommand_pages powerRun_pages))
  | powerDoze => exact runIf_keeps (.same (powerCommand_pages powerDoze_pages))
  | powerSleep => exact runIf_keeps (.same (powerCommand_pages rfl))
  | statusQuery => exact runIf_keeps (.same statusCommand_pages)
  | clearFlags => exact runIf_keeps clearCommand_keeps
  | engineReset => exact runIf_keeps engineResetCommand_keeps
  | configReload => exact runIf_keeps (.same reloadCommand_pages)
  | reloadReadEnd => exact runIf_keeps (reloadEnd_keeps _)
  | configStore => exact runIf_keeps (.same storeCommand_pages)
  | reportWriteEnd => exact execReportWriteEnd_keeps
  | consumerIndexWriteEnd => exact execConsumerIndexWriteEnd_keeps
  | entryFetchEnd => exact execEntryFetchEnd_keeps
  | openWrite ch => exact execOpenWrite_keeps ch
  | openRead ch => exact execOpenRead_keeps ch
  | lines ch => exact execLines_keeps ch
  | setProcessing ch => exact execSetProcessing_keeps ch
  | linkMotor ch => exact execLinkMotor_keeps ch
  | unlink ch => exact execUnlink_keeps ch
  | waitLine ch => exact execWaitLine_keeps ch
  | closeWriter ch => exact execCloseWriter_keeps ch
  | closeReader ch => exact execCloseReader_keeps ch
  | mark ch => exact execMark_keeps ch
  | jump ch => exact execJump_keeps ch
  | endEntry ch => exact execEndEntry_keeps ch
  | unknownEntry ch => exact execUnknownEntry_keeps ch
  | slotHanded => exact execSlotHanded_keeps
  | peerPageResolved ch => exact execPeerPageResolved_keeps ch
  | waitCompleteEnd ch => exact execWaitCompleteEnd_keeps ch
  | waitLinesEnd ch => exact runIf_keeps (runAgain_keeps ch)
  | waitSpaceEnd => exact runIf_keeps (runAgain_keeps .codeIn)
  | waitGateEnd ch => exact execWaitGateEnd_keeps ch
  | waitLineTimeout ch => exact execWaitLineTimeout_keeps ch
  | waitMotorEnd ch => exact runIf_keeps (runAgain_keeps ch)
  | waitTableEnd => exact runIf_keeps endTableWait_keeps
  | pauseBoundaryReached ch => exact execPauseBoundaryReached_keeps ch
  | abortBoundaryReached ch => exact execAbortBoundaryReached_keeps ch
  | lineReadEnd => exact execLineReadEnd_keeps
  | motorStep m => exact execMotorStep_keeps m
  | holdTimerExpiry m => exact runIf_keeps (.same (setMotor_pages s m _))
  | captureEnd v => exact execCaptureEnd_keeps v
  | scanWriteEnd => exact execScanWriteEnd_keeps
  | shiftLatchEnd => exact runIf_keeps (.same rfl)
  | strobePhaseEnd => exact execStrobePhaseEnd_keeps
  | scanTableBurstEnd => exact execScanTableBurstEnd_keeps
  | strobeLoadEnd => exact execStrobeLoadEnd_keeps
  | rampLoadEnd => exact execRampLoadEnd_keeps
  | phaseLoadEnd => exact execPhaseLoadEnd_keeps
  | frameSendStart o => exact execFrameSendStart_keeps o
  | frameTaken => exact execFrameTaken_keeps
  | lineReceived d => exact runIf_keeps (.same rfl)
  | badLineReceived => exact runIf_keeps (.same rfl)
  | malformedFrame n => exact runIf_keeps (.same (raise_pages _ _ _ _))
  | pageEndReceived => exact execPageEndReceived_keeps
  | unsolicitedFrame n => exact runIf_keeps (.same (raise_pages _ _ _ _))
  | codeInSlotWriteEnd => exact execCodeInSlotWriteEnd_keeps
  | concealmentStored => exact execConcealmentStored_keeps
  | crstnPulseEnd => exact runIf_keeps (.same rfl)
  | debounceLevelChange g => exact runIf_keeps (changeLevel_keeps g)
  | drainTimerExpiry => exact execDrainTimerExpiry_keeps
  | dozeEntry n => exact runIf_keeps (.same (raise_pages _ _ _ _))
  | sleepEntry => exact runIf_keeps (.same (afterGrant_pages _))
  | sleepTimerExpiry => exact runIf_keeps (.same rfl)
  | selfRefreshExitEnd => exact execSelfRefreshExitEnd_keeps
  | storeSourceBurstEnd => exact execStoreSourceBurstEnd_keeps
  | storeWordShifted => exact execStoreWordShifted_keeps
  | eepromReady => exact execEepromReady_keeps
  | eepromReadyTimeout => exact execEepromReadyTimeout_keeps
  | storeReadbackEnd w => exact execStoreReadbackEnd_keeps w
  | sensorSample l => exact runIf_keeps (takeSamples_keeps _ _ _)
  | receiveFrameHeader a o k => exact runIf_keeps (.same rfl)
  | frameCutShortEnd n => exact runIf_keeps (.same rfl)
  | refreshEnd => exact runIf_keeps (.same (freePort_pages s))
  | producerIndexWriteEnd => exact execProducerIndexWriteEnd_keeps
  | pageQueryFirstWriteEnd => exact execPageQueryFirstWriteEnd_keeps

/-- Settles O9: no command loses or doubles a band, for a writer's page is FILLING under it and an EMPTY slot holds
none, which every command keeps. -/
theorem everyStepConservesBands : Obligations.EveryStepConservesBands :=
  fun c _ t h hs ht => exec_keeps h c t ht hs

end Sys2Proof.Machine
end

section
/-! PROOFS. The lines that page memory assigns (01 R9, R10, R11, R18). -/

namespace Sys2Proof.Machine

section
variable (s : State) {i : Fin 16} {b c : Nat} {rest : List Nat} {scan : Bool}

/-! ## The lines used of a band (01 R2) -/

theorem getD_set_self {l : List Nat} {b : Nat} (h : b < l.length) (v : Nat) :
    (l.set b v).getD b 0 = v := by
  simp [List.getD_eq_getElem?_getD, h]

theorem getD_set_of_ne (l : List Nat) {b c : Nat} (h : c ≠ b) (v : Nat) :
    (l.set b v).getD c 0 = l.getD c 0 := by
  simp [List.getD_eq_getElem?_getD, List.getElem?_set_ne h.symm]

theorem getD_set_zero_self (l : List Nat) (b : Nat) : (l.set b 0).getD b 0 = 0 := by
  by_cases h : b < l.length
  · exact getD_set_self h 0
  · rw [List.getD_eq_getElem?_getD, List.getElem?_eq_none (by rw [List.length_set]; omega),
      Option.getD_none]

@[simp] theorem poolTest_bandUsed (c : Nat) : s.poolTest.bandUsed c = s.bandUsed c := by
  simp [State.bandUsed]

theorem withBand_bandUsed_self (h : b < s.page.used.length) :
    (s.withBand i b rest scan).bandUsed b = 1 := getD_set_self h 1

theorem withBand_bandUsed_of_ne (h : c ≠ b) :
    (s.withBand i b rest scan).bandUsed c = s.bandUsed c := getD_set_of_ne _ h 1

theorem withLine_bandUsed_last (h : (s.slot i).chain.getLast? = some b)
    (hb : b < s.page.used.length) : (s.withLine i).bandUsed b = s.bandUsed b + 1 := by
  have hl : (s.slot i).chain.getLastD 0 = b := by simp [List.getLastD_eq_getLast?, h]
  simp only [State.withLine, State.bandUsed, hl]
  exact getD_set_self hb _

theorem withLine_bandUsed_of_ne (h : (s.slot i).chain.getLast? = some b) (hc : c ≠ b) :
    (s.withLine i).bandUsed c = s.bandUsed c := by
  have hl : (s.slot i).chain.getLastD 0 = b := by simp [List.getLastD_eq_getLast?, h]
  simp only [State.withLine, State.bandUsed, hl]
  exact getD_set_of_ne _ hc _

theorem returnBand_bandUsed_self (c : Nat) : (s.returnBands [c]).bandUsed c = 0 :=
  getD_set_zero_self _ c

theorem returnBand_bandUsed_of_ne (h : b ≠ c) : (s.returnBands [c]).bandUsed b = s.bandUsed b :=
  getD_set_of_ne _ h 0

/-! ## The taking of a band, before and after the band behind the reader -/

@[simp] theorem withBand_r :
    (s.withBand i b rest scan).page.r = if scan then s.page.r - 1 else s.page.r := rfl

@[simp] theorem withBand_taken : (s.withBand i b rest scan).page.taken = s.page.taken + 1 := rfl

@[simp] theorem withBand_returned : (s.withBand i b rest scan).page.returned = s.page.returned := rfl

theorem withBand_readerPosition :
    (s.withBand i b rest scan).poolTest.readerPosition ((s.withBand i b rest scan).poolTest.slot i) =
      s.readerPosition (s.slot i) := by
  rw [poolTest_slot, withBand_slot_self]
  simp only [State.readerPosition, poolTest_chans]
  rfl

theorem freeBehind_r (i : Fin 16) : (s.freeBehind i).page.r = s.page.r := by
  unfold State.freeBehind
  dsimp only
  split
  · split
    · exact poolTest_r _
    · rfl
  · rfl

theorem freeBehind_taken (i : Fin 16) : (s.freeBehind i).page.taken = s.page.taken := by
  unfold State.freeBehind
  dsimp only
  split
  · split
    · exact poolTest_taken _
    · rfl
  · rfl

/-- The taking of a band moves the reservation and the count, whatever is freed with it. -/
theorem takeBand_counts (h : s.page.free = b :: rest) :
    (s.takeBand i scan).page.r = (if scan then s.page.r - 1 else s.page.r) ∧
      (s.takeBand i scan).page.taken = s.page.taken + 1 := by
  rw [takeBand_of_cons s h, freeBehind_r, freeBehind_taken, poolTest_r, poolTest_taken]
  exact ⟨withBand_r s, withBand_taken s⟩

/-- The band test decides between the two answers of page memory at the end of a band. -/
theorem band_available (h : s.page.free = b :: rest)
    (hr : scan = true ∨ s.page.r < s.page.free.length) :
    (if scan then s.freeCount else s.unreserved) ≠ 0 := by
  cases scan
  · have hlt := hr.resolve_left Bool.noConfusion
    simp [State.unreserved, State.freeCount]
    omega
  · simp [State.freeCount, h]

/-- On a page that is not a consume page no band is freed. -/
theorem takeBand_of_not_consume (h : s.page.free = b :: rest) (hc : (s.slot i).consume = false) :
    s.takeBand i scan = (s.withBand i b rest scan).poolTest := by
  rw [takeBand_of_cons s h]
  refine freeBehind_of_not _ fun _ _ _ _ _ hk => ?_
  rw [poolTest_slot, withBand_slot_self] at hk
  exact Bool.false_ne_true (hc.symm.trans hk.1)

/-- Nothing is freed behind a reader that is in the first band, nor from a page without bands. -/
theorem takeBand_of_not_read (h : s.page.free = b :: rest) (hf : (s.slot i).state = .filling)
    (hr : (s.slot i).chain = [] ∨
      ∀ n, s.readerPosition (s.slot i) = some n → n ≤ (s.slot i).freed + 64) :
    s.takeBand i scan = (s.withBand i b rest scan).poolTest := by
  rw [takeBand_of_cons s h]
  refine freeBehind_of_not _ fun c cs n hc hn hk => ?_
  rw [poolTest_slot, withBand_slot_self] at hc hk
  obtain ⟨-, hlt, hcs⟩ := hk
  rcases hr with hnil | hn'
  · have hnil' : cs = [] := by simp_all
    simp [hnil', hf] at hcs
  · have hle := hn' n ((withBand_readerPosition s).symm.trans hn)
    exact absurd hlt (Nat.not_lt.mpr hle)

/-- The band that the reader has read through is freed with the taking of the next one (01 R18). -/
theorem takeBand_of_read {n : Nat} {cs : List Nat} (h : s.page.free = b :: rest)
    (hc : (s.slot i).consume = true) (hn : s.readerPosition (s.slot i) = some n)
    (hlt : (s.slot i).freed + 64 < n) (hcs : (s.slot i).chain = c :: cs) :
    s.takeBand i scan =
      (((s.withBand i b rest scan).poolTest.setSlot i
        { s.slot i with
          assigned := (s.slot i).assigned + 1
          chain := cs ++ [b]
          freed := (s.slot i).freed + 64 }).returnBands [c]).poolTest := by
  have hslot : (s.withBand i b rest scan).poolTest.slot i = { s.slot i with
      assigned := (s.slot i).assigned + 1, chain := (s.slot i).chain ++ [b] } := by simp
  rw [takeBand_of_cons s h, freeBehind_of (b := c) (rest := cs ++ [b]) (n := n)]
  · rw [hslot]
  · rw [hslot, hcs]; rfl
  · exact (withBand_readerPosition s).trans hn
  · rw [hslot]
    exact ⟨hc, hlt, .inl (by simp)⟩

end

/-- A taking that frees nothing: the page, the bands and the free list. -/
theorem withBand_result (s : State) (i : Fin 16) (b : Nat) (rest : List Nat) (scan : Bool) :
    let t := (s.withBand i b rest scan).poolTest
    t.slot i = { s.slot i with
        assigned := (s.slot i).assigned + 1, chain := (s.slot i).chain ++ [b] } ∧
      t.page.free = rest ∧ t.page.returned = s.page.returned ∧
      (b < s.page.used.length → t.bandUsed b = 1) ∧
      ∀ d, d ≠ b → t.bandUsed d = s.bandUsed d := by
  refine ⟨by simp, by simp, by simp, fun hb => ?_, fun d hd => ?_⟩
  · rw [poolTest_bandUsed, withBand_bandUsed_self s hb]
  · rw [poolTest_bandUsed, withBand_bandUsed_of_ne s hd]

/-- A taking that frees a band: it goes to the tail of the free list with no line used. -/
theorem withBand_returnBand_result (s : State) (i : Fin 16) (b c : Nat) (rest : List Nat)
    (scan : Bool) (p : Page) :
    let t := (((s.withBand i b rest scan).poolTest.setSlot i p).returnBands [c]).poolTest
    t.slot i = p ∧ t.page.free = rest ++ [c] ∧ t.page.returned = s.page.returned + 1 ∧
      t.bandUsed c = 0 ∧ (b ≠ c → b < s.page.used.length → t.bandUsed b = 1) ∧
      ∀ d, d ≠ b → d ≠ c → t.bandUsed d = s.bandUsed d := by
  have hused : ∀ d, ((s.withBand i b rest scan).poolTest.setSlot i p).bandUsed d =
      (s.withBand i b rest scan).bandUsed d := poolTest_bandUsed _
  have hfree : ((s.withBand i b rest scan).poolTest.setSlot i p).page.free = rest :=
    poolTest_free' _
  have hret : ((s.withBand i b rest scan).poolTest.setSlot i p).page.returned = s.page.returned :=
    poolTest_returned _
  refine ⟨by simp, ?_, ?_, ?_, fun hbc hb => ?_, fun d hb hc => ?_⟩
  · rw [poolTest_free', returnBands_free', hfree]
  · rw [poolTest_returned]
    exact congrArg (· + 1) hret
  · rw [poolTest_bandUsed, returnBand_bandUsed_self]
  · rw [poolTest_bandUsed, returnBand_bandUsed_of_ne _ hbc, hused, withBand_bandUsed_self s hb]
  · rw [poolTest_bandUsed, returnBand_bandUsed_of_ne _ hc, hused, withBand_bandUsed_of_ne s hb]

/-- The taking of a band leaves the other pages alone. -/
theorem takeBand_slot_of_ne (s : State) {i j : Fin 16} (scan : Bool) (h : j ≠ i) :
    (s.takeBand i scan).slot j = s.slot j := (takeBand_bandMove s i scan).others j h

/-- Settles O55: the limit, the lack of a band, the head band of the free list with and without a band
freed behind the reader, and the next slot of the last band. -/
theorem pageMemoryAssignsLines : Obligations.PageMemoryAssignsLines := by
  intro s i scan p
  refine ⟨assignLine_at_limit s, fun hl hm hb => assignLine_without_band s hl hm ?_,
    fun b rest hl hm hf hr hc => ⟨s.takeBand i scan,
      assignLine_at_band s hl hm (band_available s hf hr), ?_⟩,
    fun b rest hl hm hf hr hc hfill => ⟨s.takeBand i scan,
      assignLine_at_band s hl hm (band_available s hf hr), ?_, ?_, ?_, takeBand_only s i scan,
      fun n c cs hn hlt hcs => ?_, fun hr => ?_⟩,
    fun hl hm => ⟨s.withLine i, assignLine_in_band s hl hm, withLine_slot_self s i,
      fun j hj => withLine_slot_of_ne s hj, rfl, rfl,
      fun l hlast => ⟨withLine_bandUsed_last s hlast, fun c => withLine_bandUsed_of_ne s hlast⟩, rfl⟩⟩
  case refine_1 =>
    cases scan
    · exact Nat.sub_eq_zero_of_le hb
    · exact congrArg List.length hb
  case refine_2 =>
    have ht := takeBand_of_not_consume (scan := scan) s hf hc
    obtain ⟨hr', htaken⟩ := takeBand_counts (i := i) (scan := scan) s hf
    obtain ⟨hslot, hfree, -, hself, hothers⟩ := withBand_result s i b rest scan
    rw [← ht] at hslot hfree hself hothers
    exact ⟨hslot, hself, hothers, fun j hj => takeBand_slot_of_ne s scan hj, hfree, hr', htaken,
      takeBand_only s i scan⟩
  case refine_3 => exact fun j hj => takeBand_slot_of_ne s scan hj
  case refine_4 => exact (takeBand_counts s hf).1
  case refine_5 => exact (takeBand_counts s hf).2
  case refine_6 =>
    rw [takeBand_of_read s hf hc hn hlt hcs]
    exact withBand_returnBand_result s i b c rest scan _
  case refine_7 =>
    rw [takeBand_of_not_read s hf hfill hr]
    exact withBand_result s i b rest scan

end Sys2Proof.Machine
end

section
/-! PROOFS. The answer to a page reference and PAGE RELEASE (01 R8, R17, R20). -/

namespace Sys2Proof.Machine

section
variable (s : State)

/-! ## The checks of a page reference, case by case (01 R8) -/

theorem slotOf_val (i : Fin 16) : slotOf i.val = some i := dif_pos i.isLt

theorem slotOf_of_lt {n : Nat} (h : 15 < n) : slotOf n = none := dif_neg (by omega)

variable {i : Fin 16} {g : Nat}

theorem checkRef_noSlot {n : Nat} (h : 15 < n) : s.checkRef n g = .noSlot := by
  simp only [State.checkRef, slotOf_of_lt h]

theorem checkRef_isEmpty (h : (s.slot i).state = .empty) : s.checkRef i.val g = .isEmpty := by
  simp only [State.checkRef, slotOf_val, if_pos h]

theorem checkRef_stale (h : (s.slot i).state ≠ .empty) (hg : (s.slot i).gen ≠ g) :
    s.checkRef i.val g = .stale := by
  simp only [State.checkRef, slotOf_val, if_neg h, if_neg hg]

theorem checkRef_good (h : (s.slot i).state ≠ .empty) (hg : (s.slot i).gen = g) :
    s.checkRef i.val g = .good i := by
  simp only [State.checkRef, slotOf_val, if_neg h, if_pos hg]

/-! ## Bands returned and the band-pool test after them (01 R2, R19) -/

theorem foldl_set_zero_getD (bs : List Nat) (used : List Nat) (b : Nat) :
    (bs.foldl (fun u c => u.set c 0) used).getD b 0 = if b ∈ bs then 0 else used.getD b 0 := by
  induction bs generalizing used with
  | nil => simp
  | cons c cs ih =>
    rw [List.foldl_cons, ih]
    by_cases hcs : b ∈ cs
    · simp [hcs]
    by_cases hc : b = c
    · subst hc
      simp only [if_neg hcs, List.mem_cons, true_or, if_true, getD_set_zero_self]
    · simp only [List.mem_cons, hc, hcs, or_self, if_false, getD_set_of_ne _ hc]

theorem returnBands_bandUsed (bs : List Nat) (b : Nat) :
    (s.returnBands bs).bandUsed b = if b ∈ bs then 0 else s.bandUsed b :=
  foldl_set_zero_getD bs s.page.used b

/-- The band-pool test of a state is one after any state with the same condition, mark and events. -/
theorem poolTest_poolTested {s t : State} (hl : t.page.low = s.page.low)
    (hm : t.page.lowMark = s.page.lowMark) (hs : t.sensor = s.sensor) :
    PoolTested s t.poolTest := by
  have hu : t.poolTest.page.free.length - t.poolTest.page.r = t.unreserved := by
    rw [poolTest_free', poolTest_r]; rfl
  unfold PoolTested
  simp only [hu]
  refine ⟨fun hlow hle => ?_, fun hlow hlt => ?_, fun hsame => ?_⟩
  · rw [State.poolTest, if_pos (hl.trans hlow), if_pos (hm ▸ hle)]
    exact ⟨by rw [raise_page], raise_sensor_congr (by exact hs) _ _ _⟩
  · rw [State.poolTest, if_neg (by simp [hl, hlow]), if_pos (hm ▸ hlt)]
    exact ⟨by rw [raise_page], raise_sensor_congr (by exact hs) _ _ _⟩
  · have hidle : t.poolTest = t := by
      by_cases hlt : t.unreserved < s.page.lowMark
      · rw [State.poolTest, if_pos (by simp [hl, hsame, hlt]), if_neg (by omega)]
      · rw [State.poolTest, if_neg (by simp [hl, hsame, hlt]), if_neg (by omega)]
    rw [hidle]
    exact ⟨hl, hs⟩

/-! ## PAGE RELEASE (01 R20) -/

/-- A page released at once: its slot EMPTY with the generation kept, its bands returned. -/
def State.released (s : State) (i : Fin 16) : State :=
  (s.setSlot i { Page.reset with gen := (s.slot i).gen }).returnBands (s.slot i).chain

theorem setSlot_setSlot (i : Fin 16) (p q : Page) : (s.setSlot i p).setSlot i q = s.setSlot i q := by
  simp [State.setSlot]

theorem askRelease_of_complete (h : (s.slot i).state = .complete) (hr : (s.slot i).readers = 0) :
    s.askRelease i = (s.released i).poolTest := by
  unfold State.askRelease
  rw [releaseTest_of _ (by rw [slot_setSlot_self]; exact ⟨h, rfl, hr⟩), slot_setSlot_self,
    setSlot_setSlot]
  rfl

theorem askRelease_of_held (h : (s.slot i).state = .filling ∨ (s.slot i).readers ≠ 0) :
    s.askRelease i = s.setSlot i { s.slot i with release := true } := by
  refine releaseTest_of_not _ ?_
  rw [slot_setSlot_self]
  rintro ⟨hstate, -, hreaders⟩
  rcases h with hf | hr
  · exact PageState.noConfusion (hf.symm.trans hstate)
  · exact hr hreaders

/-- PAGE RELEASE in hand is answered by its command. -/
theorem exec_pageRelease {s : State} {bs : List Byte} (h : InHand s 11 bs) :
    exec .pageRelease s = .next (State.settle s.releaseCommand) :=
  runIf_of (cmdIs_of_inHand h _) s _

/-- The release command of a good reference: the release asked for, the bands counted. -/
theorem releaseCommand_of_good {bs : List Byte} (h : s.cmdBytes = bs)
    (hr : s.checkRef (wordAt bs 4) (wordAt bs 6) = .good i) :
    s.releaseCommand = (s.askRelease i).complete .done
      [((s.askRelease i).slot i).state.code, (s.askRelease i).freeCount - s.freeCount] := by
  subst h
  simp only [State.releaseCommand, hr]

theorem releaseCommand_of_bad {bs : List Byte} {a : RefAnswer} (h : s.cmdBytes = bs)
    (hr : s.checkRef (wordAt bs 4) (wordAt bs 6) = a) (ha : ∀ j, a ≠ .good j) :
    s.releaseCommand = s.refuseRef a := by
  subst h
  unfold State.releaseCommand
  dsimp only
  rw [hr]
  cases a with
  | good j => exact absurd rfl (ha j)
  | _ => rfl

/-- The completion of a release at once: state EMPTY and the bands returned. -/
theorem releaseCommand_of_complete {bs : List Byte} (h : s.cmdBytes = bs)
    (hr : s.checkRef (wordAt bs 4) (wordAt bs 6) = .good i)
    (hstate : (s.slot i).state = .complete) (hreaders : (s.slot i).readers = 0) :
    s.releaseCommand = (s.released i).poolTest.complete .done
      [PageState.empty.code, (s.slot i).chain.length] := by
  have hslot : ((s.released i).poolTest.slot i).state = .empty := by
    simp [State.released, Page.reset]
  have hfree : (s.released i).poolTest.freeCount - s.freeCount = (s.slot i).chain.length := by
    have : (s.released i).poolTest.page.free = s.page.free ++ (s.slot i).chain := poolTest_free' _
    simp only [State.freeCount, this, List.length_append]
    omega
  rw [releaseCommand_of_good s h hr, askRelease_of_complete s hstate hreaders, hslot, hfree]

theorem released_slot_self : (s.released i).slot i = { Page.reset with gen := (s.slot i).gen } :=
  slot_setSlot_self s i _

theorem released_slot_of_ne {j : Fin 16} (h : j ≠ i) : (s.released i).slot j = s.slot j :=
  slot_setSlot_of_ne s _ h

theorem released_bandUsed (b : Nat) :
    (s.released i).bandUsed b = if b ∈ (s.slot i).chain then 0 else s.bandUsed b :=
  returnBands_bandUsed (s.setSlot i _) _ b

/-- A completion after a release at once is the one of the state before. -/
theorem released_complete_recUnit (c : ResultCode) (r : List Nat) :
    ((s.released i).poolTest.complete c r).recUnit = (s.complete c r).recUnit := by
  have hring : (s.released i).poolTest.ringFull = s.ringFull := by
    simp only [State.ringFull, poolTest_recUnit, poolTest_geo, poolTest_host]
    rfl
  exact complete_recUnit_congr (poolTest_recUnit _) hring c r

end

/-- Settles O32: the references refused in order, the release left pending, and the release at once. -/
theorem pageReleaseReturnsBands : Obligations.PageReleaseReturnsBands := by
  intro s bs h
  have hb := cmdBytes_of_inHand h
  rw [exec_pageRelease h]
  refine ⟨fun hslot => ?_, fun i hi => ⟨fun he => ?_, fun he hg => ?_, fun he hg => ?_⟩⟩
  · rw [releaseCommand_of_bad s hb (checkRef_noSlot s hslot) nofun]
    rfl
  · rw [releaseCommand_of_bad (a := .isEmpty) s hb (hi ▸ checkRef_isEmpty s he) nofun]
    rfl
  · rw [releaseCommand_of_bad (a := .stale) s hb (hi ▸ checkRef_stale s he hg) nofun]
    rfl
  · have hgood : s.checkRef (wordAt bs 4) (wordAt bs 6) = .good i := hi ▸ checkRef_good s he hg
    refine ⟨fun hheld => ?_, fun hstate hreaders => ?_⟩
    · rw [releaseCommand_of_good s hb hgood, askRelease_of_held s hheld, slot_setSlot_self]
      simp [State.freeCount, State.setSlot]
    · rw [releaseCommand_of_complete s hb hgood hstate hreaders]
      refine ⟨_, rfl, ?_⟩
      have hused : ∀ b, ((s.released i).poolTest.complete .done
          [PageState.empty.code, (s.slot i).chain.length]).bandUsed b =
            if b ∈ (s.slot i).chain then 0 else s.bandUsed b := fun b =>
        (poolTest_bandUsed _ b).trans (released_bandUsed s b)
      refine ⟨?_, fun j hj => ?_, ?_, ?_, ?_, ?_, ?_, ?_, ?_, fun b hm => ?_, fun b hm => ?_, ?_,
        released_complete_recUnit s _ _, ?_⟩
      · rw [complete_slot, poolTest_slot, released_slot_self]
      · rw [complete_slot, poolTest_slot, released_slot_of_ne s hj]
      · rw [complete_page, poolTest_free']; rfl
      · rw [complete_page, poolTest_r]; rfl
      · rw [complete_page, poolTest_returned]; rfl
      · rw [complete_page, poolTest_taken]; rfl
      · rw [complete_page, poolTest_geo]; rfl
      · rw [complete_page, poolTest_slotWait]; rfl
      · rw [complete_page, poolTest_lowMark]; rfl
      · rw [hused, if_pos hm]
      · rw [hused, if_neg hm]
      · have hp : PoolTested s (s.released i).poolTest := poolTest_poolTested rfl rfl rfl
        exact hp
      · rw [complete_only, poolTest_only]; rfl

end Sys2Proof.Machine
end

section
/-! PROOFS. PAGE QUERY and its two record writes (01 R21, 11 R196). -/

namespace Sys2Proof.Machine

/-! ## The command (01 R21) -/

/-- PAGE QUERY in hand is answered by its command. -/
theorem exec_pageQuery {s : State} {bs : List Byte} (h : InHand s 10 bs) :
    exec .pageQuery s = .next (State.settle s.queryCommand) :=
  runIf_of (cmdIs_of_inHand h _) s _

section
variable (s : State) {bs : List Byte} {i : Fin 16}

theorem queryCommand_noSlot (h : s.cmdBytes = bs) (hi : 15 < wordAt bs 4) :
    s.queryCommand = s.refuse .badTarget := by
  subst h
  simp only [State.queryCommand, slotOf_of_lt hi]

theorem queryCommand_badAddress (h : s.cmdBytes = bs) (hi : wordAt bs 4 = i.val)
    (hd : s.page.geo.goodSource (dwordAt bs 8) 32 = false) :
    s.queryCommand = s.refuse .badAddress := by
  subst h
  simp only [State.queryCommand, hi, slotOf_val, hd, Bool.not_false, if_true]

/-- Generation 0 in a query names the record that the slot holds, whichever it is. -/
theorem queryCommand_of_any (h : s.cmdBytes = bs) (hi : wordAt bs 4 = i.val)
    (hd : s.page.geo.goodSource (dwordAt bs 8) 32 = true) (hg : wordAt bs 6 = 0) :
    s.queryCommand = s.copyPage i (dwordAt bs 8) := by
  subst h
  simp only [State.queryCommand, hi, slotOf_val, hd, Bool.not_true, Bool.false_eq_true, if_false, hg,
    if_true]

theorem queryCommand_of_good (h : s.cmdBytes = bs) (hi : wordAt bs 4 = i.val)
    (hd : s.page.geo.goodSource (dwordAt bs 8) 32 = true) (hg : wordAt bs 6 ≠ 0)
    (hr : s.checkRef i.val (wordAt bs 6) = .good i) :
    s.queryCommand = s.copyPage i (dwordAt bs 8) := by
  subst h
  simp only [State.queryCommand, hi, slotOf_val, hd, Bool.not_true, Bool.false_eq_true, if_false,
    if_neg hg, hr]

theorem queryCommand_of_bad {a : RefAnswer} (h : s.cmdBytes = bs) (hi : wordAt bs 4 = i.val)
    (hd : s.page.geo.goodSource (dwordAt bs 8) 32 = true) (hg : wordAt bs 6 ≠ 0)
    (hr : s.checkRef i.val (wordAt bs 6) = a) (ha : ∀ j, a ≠ .good j) :
    s.queryCommand = s.refuseRef a := by
  subst h
  simp only [State.queryCommand, hi, slotOf_val, hd, Bool.not_true, Bool.false_eq_true, if_false,
    if_neg hg, hr]

end

/-! ## The two record writes (01 R21) -/

section
variable {s : State} {q : Query}

theorem exec_pageQueryFirstWriteEnd (hw : s.recUnit.work = some (.query q))
    (hb : s.port.busy = some (.queryWrite false)) :
    exec .pageQueryFirstWriteEnd s = .next (State.settle
      { s.releasePort with
        mem := Memory.writeBytes s.mem q.dest (q.data.take 16)
        recUnit := { s.recUnit with work := some (.query { q with second := true }) } }) := by
  change execPageQueryFirstWriteEnd s = _
  simp only [execPageQueryFirstWriteEnd, hw]
  exact runIf_of (by simp [hb]) s _

theorem exec_pageQueryWriteEnd (hw : s.recUnit.work = some (.query q))
    (hb : s.port.busy = some (.queryWrite true)) :
    exec .pageQueryWriteEnd s = .next (State.settle
      (State.complete
        { s.releasePort with
          mem := Memory.writeBytes s.mem (q.dest + 16) ((q.data.drop 16).take 16) }
        .done q.result)) := by
  change execPageQueryWriteEnd s = _
  simp only [execPageQueryWriteEnd, hw]
  exact runIf_of (by simp [hb]) s _

/-- The result words of a completion are its bytes from byte 8 on (11 R196). -/
theorem completion_bytes_drop (c : Completion) : c.bytes.drop 8 = resultBytes c.result := rfl

theorem resultBytes_three (p f r : Nat) :
    resultBytes [p, f, r] = le16 p ++ le16 f ++ le16 r ++ [0, 0] := by
  simp [resultBytes, le16]

end

/-! ## The 32 bytes of the copy (11 section 11.6) -/

theorem le16_value (n : Nat) :
    (BitVec.ofNat 8 n).toNat + 256 * (BitVec.ofNat 8 (n / 256)).toNat = n % 65536 := by
  simp only [BitVec.toNat_ofNat]
  omega

section
variable (i : Fin 16) (p : Page)

theorem queryBytes_length : (queryBytes i p).length = 32 := rfl

theorem queryBytes_tail : (queryBytes i p).drop 22 = List.replicate 10 0 := rfl

theorem queryBytes_state : byteAt (queryBytes i p) 0 = p.state.code := by
  change (BitVec.ofNat 8 p.state.code).toNat = _
  cases p.state <;> rfl

theorem queryBytes_gen : byteAt (queryBytes i p) 1 = p.gen % 256 := BitVec.toNat_ofNat ..

theorem queryBytes_writer {ch : Channel} (h : p.writer = some ch) :
    byteAt (queryBytes i p) 2 = chanNumber ch := by
  simp only [queryBytes, h]
  cases ch <;> rfl

theorem queryBytes_noWriter (h : p.writer = none) : byteAt (queryBytes i p) 2 = 255 := by
  simp only [queryBytes, h]
  rfl

/-- A byte of flags holds their sum. -/
theorem flags_byte {n : Nat} (h : n < 256) : (BitVec.ofNat 8 n).toNat = n :=
  (BitVec.toNat_ofNat ..).trans (Nat.mod_eq_of_lt h)

theorem flag_le (b : Bool) (n : Nat) : flag b n ≤ n := by cases b <;> simp [flag]

theorem queryBytes_kind : byteAt (queryBytes i p) 3 =
    flag p.consume 1 + flag p.permitPrint 2 + flag p.permitCodeOut 4 := by
  refine flags_byte ?_
  have h1 := flag_le p.consume 1
  have h2 := flag_le p.permitPrint 2
  have h3 := flag_le p.permitCodeOut 4
  omega

theorem queryBytes_readers : byteAt (queryBytes i p) 4 =
    flag p.readPrint 2 + flag p.readCodeOut 4 := by
  refine flags_byte ?_
  have h1 := flag_le p.readPrint 2
  have h2 := flag_le p.readCodeOut 4
  omega

theorem queryBytes_marks : byteAt (queryBytes i p) 5 = flag p.release 1 + flag p.truncated 2 := by
  refine flags_byte ?_
  have h1 := flag_le p.release 1
  have h2 := flag_le p.truncated 2
  omega

theorem queryBytes_counts :
    wordAt (queryBytes i p) 6 = p.limit % 65536 ∧ wordAt (queryBytes i p) 8 = p.assigned % 65536 ∧
      wordAt (queryBytes i p) 10 = p.stored % 65536 ∧ wordAt (queryBytes i p) 12 = p.freed % 65536 ∧
      wordAt (queryBytes i p) 14 = p.concealed % 65536 ∧
      wordAt (queryBytes i p) 18 = p.chain.length % 65536 :=
  ⟨le16_value _, le16_value _, le16_value _, le16_value _, le16_value _, le16_value _⟩

theorem queryBytes_slot : wordAt (queryBytes i p) 20 = i.val :=
  (le16_value i.val).trans (Nat.mod_eq_of_lt (by omega))

theorem queryBytes_firstBand : byteAt (queryBytes i p) 16 = (bandByte p.chain.head?).toNat := rfl

theorem queryBytes_lastBand : byteAt (queryBytes i p) 17 = (bandByte p.chain.getLast?).toNat := rfl

theorem bandByte_some (b : Nat) : (bandByte (some b)).toNat = b % 256 := BitVec.toNat_ofNat ..

end

/-- Settles O23: the copy accepted, the refusals in order, the two writes, and the fields of the copy. -/
theorem pageQueryCopiesThePageRecord : Obligations.PageQueryCopiesThePageRecord := by
  refine ⟨fun s bs i h hi hd hg => ?_, fun s bs h => ?_, fun s q hm hl hw hb => ?_,
    fun s q hm hl hw hb => ?_, fun i p => ?_⟩
  case refine_1 =>
    have hbs := cmdBytes_of_inHand h
    have hq : s.queryCommand = s.copyPage i (dwordAt bs 8) := by
      by_cases h0 : wordAt bs 6 = 0
      · exact queryCommand_of_any s hbs hi hd h0
      · obtain ⟨hstate, hgen⟩ := hg.resolve_left h0
        exact queryCommand_of_good s hbs hi hd h0 (checkRef_good s hstate hgen)
    rw [exec_pageQuery h, hq]
    rfl
  case refine_2 =>
    have hbs := cmdBytes_of_inHand h
    rw [exec_pageQuery h]
    refine ⟨fun hslot => ?_, fun i hi => ⟨fun hd => ?_, fun hd hg => ⟨fun he => ?_, fun he hne => ?_⟩⟩⟩
    · rw [queryCommand_noSlot s hbs hslot]
    · rw [queryCommand_badAddress s hbs hi hd]
    · rw [queryCommand_of_bad s hbs hi hd hg (checkRef_isEmpty s he) nofun]
      rfl
    · rw [queryCommand_of_bad s hbs hi hd hg (checkRef_stale s he hne) nofun]
      rfl
  case refine_3 =>
    have hlen : (q.data.take 16).length = 16 := by simp [hl]
    refine ⟨_, exec_pageQueryFirstWriteEnd hw hb, ?_, fun a ha => ?_, rfl⟩
    · simpa only [hlen] using Memory.readBytes_writeBytes (q.data.take 16) q.dest hm
    · exact Memory.read_writeBytes_outside _ _ _ hm (by rwa [hlen])
  case refine_4 =>
    have hlen : (q.data.drop 16).length = 16 := by simp [hl]
    have htake : (q.data.drop 16).take 16 = q.data.drop 16 := List.take_of_length_le (Nat.le_of_eq hlen)
    have he := exec_pageQueryWriteEnd hw hb
    rw [htake] at he
    refine ⟨_, he, ?_, fun a ha => ?_, ?_, fun p f r hr => ?_, rfl, rfl⟩
    · simpa only [complete_mem, hlen] using
        Memory.readBytes_writeBytes (q.data.drop 16) (q.dest + 16) hm
    · exact Memory.read_writeBytes_outside _ _ _ hm (by rw [hlen]; omega)
    · simp only [State.complete, State.cmdBytes, releasePort_recUnit]
    · simp only [State.complete, Option.map_some, completion_bytes_drop, hr, resultBytes_three]
  case refine_5 =>
    obtain ⟨hlimit, hassigned, hstored, hfreed, hconcealed, hbands⟩ := queryBytes_counts i p
    refine ⟨queryBytes_length i p, ?_, queryBytes_gen i p,
      fun ch => queryBytes_writer i p, queryBytes_noWriter i p, queryBytes_kind i p,
      queryBytes_readers i p, queryBytes_marks i p, hlimit, hassigned, hstored, hfreed, hconcealed,
      fun hnil => ?_, fun b hfirst => ?_, fun b hlast => ?_, hbands, queryBytes_slot i p,
      queryBytes_tail i p⟩
    · rw [queryBytes_state]
      cases p.state <;> rfl
    · rw [queryBytes_firstBand, queryBytes_lastBand, hnil]
      exact ⟨rfl, rfl⟩
    · rw [queryBytes_firstBand, hfirst, bandByte_some]
    · rw [queryBytes_lastBand, hlast, bandByte_some]

end Sys2Proof.Machine
end

section
/-! PROOFS. The DRAM port: host words, refreshes, grants and the arbiter (01 R22, R23, R24). -/

namespace Sys2Proof.Machine

/-! ## A word as two bytes -/

theorem word_lowByte (w : Word) : BitVec.ofNat 8 w.toNat = w.setWidth 8 := by
  apply BitVec.eq_of_toNat_eq
  simp

theorem word_highByte (w : Word) : BitVec.ofNat 8 (w.toNat / 256) = (w >>> 8).setWidth 8 := by
  apply BitVec.eq_of_toNat_eq
  simp [Nat.shiftRight_eq_div_pow]

/-- The low byte comes first. -/
theorem word_of_bytes (lo hi : Byte) :
    BitVec.ofNat 16 (lo.toNat + 256 * hi.toNat) = hi ++ lo := by
  apply BitVec.eq_of_toNat_eq
  have hlo := lo.isLt
  have hhi := hi.isLt
  rw [BitVec.toNat_append, ← Nat.shiftLeft_add_eq_or_of_lt hlo, Nat.shiftLeft_eq,
    BitVec.toNat_ofNat, Nat.mod_eq_of_lt (by omega)]
  omega

section
variable (s : State)

/-! ## Host words and refreshes (01 R23, R24) -/

variable {s} in
theorem exec_hostWordServed {c : HostCycle} (hc : s.host.cycle = some c)
    (hb : s.port.busy = some .hostWord) :
    exec .hostWordServed s = .next (State.settle (s.serveHost c).freePort) := by
  change execHostWordServed s = _
  simp only [execHostWordServed, hc]
  exact runIf_of (by simp [hb]) s _

theorem serveHost_write {c : HostCycle} {w : Word} (h : c.write = some w) :
    s.serveHost c = { s with
      mem := Memory.writeBytes s.mem c.addr (le16 w.toNat)
      host := { s.host with cycle := none } } := by
  simp only [State.serveHost, h]

theorem serveHost_read {c : HostCycle} (h : c.write = none) :
    s.serveHost c = { s with host :=
      { s.host with
        cycle := none
        data := Memory.read s.mem (c.addr + 1) ++ Memory.read s.mem c.addr } } := by
  simp only [State.serveHost, h]
  rw [← word_of_bytes]
  rfl

variable {s} in
theorem exec_refreshDue (hm : s.port.mode = .running) (hr : s.port.refreshDue = false) :
    exec .refreshDue s =
      .next (State.settle { s with port := { s.port with refreshDue := true } }) :=
  runIf_of (by simp [hm, hr]) s _

variable {s} in
theorem exec_refreshEnd (h : s.port.busy = some .refresh) :
    exec .refreshEnd s = .next (State.settle s.freePort) :=
  runIf_of (by simp [h]) s _

/-! ## The order of the grants (01 R22) -/

theorem grantUrgent_of_refresh (h : s.port.refreshDue = true) :
    s.grantUrgent = { s with port := { s.port with busy := some .refresh, refreshDue := false } } :=
  if_pos h

theorem grantUrgent_of_host (h : s.port.refreshDue = false) :
    s.grantUrgent = { s with port := { s.port with
      busy := some .hostWord, hostHeld := false, backlog := s.backlogAfter .hostWord } } :=
  if_neg (by simp [h])

theorem grantFree_of_refresh (h : s.port.refreshDue = true) : s.grantFree = s.grantUrgent :=
  if_pos h

theorem grantFree_of_print {j : Job} (h : s.port.refreshDue = false)
    (hq : s.print.queue.length < 2) (hj : s.chanWants .print = some j) :
    s.grantFree = s.grant j := by
  simp only [State.grantFree, h, Bool.false_eq_true, if_false, if_pos hq, hj]

/-- Without urgent work of Print the host word goes before the rotation. -/
theorem grantFree_of_host_or_rotation (h : s.port.refreshDue = false)
    (hp : 2 ≤ s.print.queue.length ∨ s.chanWants .print = none) :
    s.grantFree =
      if s.hostWaits then s.grantUrgent else s.grantRotation (rotationAfter s.port.rotation) := by
  have hnone : (if s.print.queue.length < 2 then s.chanWants .print else none) = none := by
    rcases hp with hq | hn
    · exact if_neg (by omega)
    · rw [hn, ite_self]
  simp only [State.grantFree, h, Bool.false_eq_true, if_false, hnone]

/-- The first requester of the rotation that asks is granted, and the pointer moves to it. -/
theorem grantRotation_of_first {before after : List Requester} {q : Requester} {j : Job}
    (hb : ∀ p ∈ before, s.wants p = none) (hq : s.wants q = some j) :
    s.grantRotation (before ++ q :: after) =
      { s.grant j with port := { (s.grant j).port with rotation := q } } := by
  induction before with
  | nil => simp only [List.nil_append, State.grantRotation, hq]
  | cons p ps ih =>
    rw [List.forall_mem_cons] at hb
    simp only [List.cons_append, State.grantRotation, hb.1]
    exact ih hb.2

theorem grantRotation_of_none {qs : List Requester} (h : ∀ q ∈ qs, s.wants q = none) :
    s.grantRotation qs = s := by
  induction qs with
  | nil => rfl
  | cons q qs ih =>
    rw [List.forall_mem_cons] at h
    simp only [State.grantRotation, h.1]
    exact ih h.2

/-- The order of the rotation, from the record unit on. -/
theorem rotationAfter_split (q : Requester) : ∃ before after,
    [.recUnit, .chan .scan, .chan .print, .chan .codeOut, .chan .codeIn, .loader] =
      before ++ q :: after ∧ rotationAfter q = after ++ before ++ [q] := by
  cases q with
  | recUnit =>
    exact ⟨[], [.chan .scan, .chan .print, .chan .codeOut, .chan .codeIn, .loader], rfl, rfl⟩
  | chan ch =>
    cases ch with
    | scan =>
      exact ⟨[.recUnit], [.chan .print, .chan .codeOut, .chan .codeIn, .loader], rfl, rfl⟩
    | print =>
      exact ⟨[.recUnit, .chan .scan], [.chan .codeOut, .chan .codeIn, .loader], rfl, rfl⟩
    | codeOut =>
      exact ⟨[.recUnit, .chan .scan, .chan .print], [.chan .codeIn, .loader], rfl, rfl⟩
    | codeIn =>
      exact ⟨[.recUnit, .chan .scan, .chan .print, .chan .codeOut], [.loader], rfl, rfl⟩
  | loader =>
    exact ⟨[.recUnit, .chan .scan, .chan .print, .chan .codeOut, .chan .codeIn], [], rfl, rfl⟩

/-! ## What a grant changes (01 R22, 08 R163) -/

theorem grant_port (j : Job) : (s.grant j).port = { s.port with
    busy := some j
    done := 0
    partialData := []
    hostHeld := s.hostWaits
    backlog := s.backlogAfter j } := by
  cases j with
  | scanWrite b a => exact setBuf_port _ b _
  | _ => rfl

theorem grant_backlog (j : Job) : (s.grant j).port.backlog = s.backlogAfter j := by rw [grant_port]

theorem grant_recUnit_of_ne {j : Job} (h : ∀ v, j ≠ .producerWord v) :
    (s.grant j).recUnit = s.recUnit := by
  cases j with
  | producerWord v => exact absurd rfl (h v)
  | scanWrite b a => exact setBuf_recUnit _ b _
  | _ => rfl

theorem grant_scan_of_ne {j : Job} (h : ∀ b a, j ≠ .scanWrite b a) : (s.grant j).scan = s.scan := by
  cases j with
  | scanWrite b a => exact absurd rfl (h b a)
  | _ => rfl

theorem grant_scanWrite_buf (b : BufId) (a : Nat) :
    (s.grant (.scanWrite b a)).buf b = { s.buf b with state := .writing } ∧
      (s.grant (.scanWrite b a)).buf b.other = s.buf b.other := by
  cases b <;> exact ⟨rfl, rfl⟩

theorem grant_only (j : Job) : s.grant j = { s with
    port := (s.grant j).port
    free := (s.grant j).free
    recUnit := (s.grant j).recUnit
    scan := { s.scan with bufA := (s.grant j).scan.bufA, bufB := (s.grant j).scan.bufB } } := by
  cases j with
  | scanWrite b a => cases b <;> rfl
  | _ => rfl

theorem backlogAfter_of_not_backlog (h : s.port.backlog = false) (j : Job) :
    s.backlogAfter j = false := by
  cases j with
  | consumerWord v => rfl
  | _ => simp [State.backlogAfter, h]

/-- The test of the record unit's state in `backlogAfter`, as a decision. -/
theorem recState_beq (a b : RecState) : (a == b) = decide (a = b) := rfl

/-- The writes of the index words and the host word alone move the backlog. -/
theorem backlogAfter_of_ne {j : Job} (hp : ∀ v, j ≠ .producerWord v)
    (hc : ∀ v, j ≠ .consumerWord v) (hh : j ≠ .hostWord) : s.backlogAfter j = s.port.backlog := by
  cases j with
  | producerWord v => exact absurd rfl (hp v)
  | consumerWord v => exact absurd rfl (hc v)
  | hostWord => exact absurd rfl hh
  | _ => rfl

/-! ## The arbiter (01 R23) -/

theorem urgent_iff : s.urgent = true ↔
    s.port.refreshDue = true ∨ s.hostWaits = true ∧ s.port.hostHeld = false := by
  simp [State.urgent]

theorem not_urgent (h : s.port.refreshDue = false)
    (hh : s.hostWaits = false ∨ s.port.hostHeld = true) : ¬s.urgent = true := by
  rw [urgent_iff, h]
  rcases hh with hw | hheld
  · simp [hw]
  · simp [hheld]

theorem drawBelow_lt (n : Nat) : s.drawBelow n < max n 1 := Nat.mod_lt _ (by omega)

theorem passWords_port (j : Job) (k : Nat) : (s.passWords j k).port = { s.port with
    done := s.port.done + k, partialData := (s.passWords j k).port.partialData } := by
  unfold State.passWords
  dsimp only
  split <;> rfl

/-- A burst in progress is suspended after `k` further words. -/
def State.suspendAfter (j : Job) (k : Nat) : State :=
  { (s.passWords j k).drawn with
    port := { (s.passWords j k).drawn.port with suspended := some j } }

theorem suspendAfter_port (j : Job) (k : Nat) : (s.suspendAfter j k).port = { s.port with
    done := s.port.done + k
    partialData := (s.passWords j k).port.partialData
    suspended := some j } :=
  congrArg (fun p : DramPort => { p with suspended := some j }) (passWords_port s j k)

/-- The refresh or host word that a burst gives way to is in progress; the burst keeps its place. -/
theorem grantUrgent_port :
    s.grantUrgent.port.busy =
        some (if s.port.refreshDue = true then Job.refresh else Job.hostWord) ∧
      s.grantUrgent.port.hostHeld = (s.port.refreshDue && s.port.hostHeld) ∧
      s.grantUrgent.port.suspended = s.port.suspended ∧
      s.grantUrgent.port.done = s.port.done ∧ s.grantUrgent.port.rotation = s.port.rotation := by
  cases h : s.port.refreshDue
  · rw [grantUrgent_of_host s h]
    exact ⟨rfl, rfl, rfl, rfl, rfl⟩
  · rw [grantUrgent_of_refresh s h]
    exact ⟨rfl, rfl, rfl, rfl, rfl⟩

/-- A burst has passed some words and is suspended: what the grant that it gives way to leaves. -/
theorem grantUrgent_of_suspended {u : State} {j : Job} {k : Nat} {d : List Byte}
    (hu : u.port =
      { s.port with done := s.port.done + k, partialData := d, suspended := some j }) :
    u.grantUrgent.port.suspended = some j ∧
      u.grantUrgent.port.busy =
        some (if s.port.refreshDue = true then Job.refresh else Job.hostWord) ∧
      u.grantUrgent.port.hostHeld = (s.port.refreshDue && s.port.hostHeld) ∧
      u.grantUrgent.port.done = s.port.done + k ∧
      u.grantUrgent.port.rotation = s.port.rotation := by
  obtain ⟨hbusy, hheld, hsus, hdone, hrot⟩ := grantUrgent_port u
  rw [hbusy, hheld, hsus, hdone, hrot, hu]
  exact ⟨rfl, rfl, rfl, rfl, rfl⟩

section
variable {s} {j : Job} (hm : s.port.mode = .running)
include hm

theorem arbitrate_idle (hb : s.port.busy = none) (hs : s.port.suspended = none) :
    s.arbitrate = s.grantFree := by
  simp only [State.arbitrate, hm, hb, hs]

theorem arbitrate_resumes (hb : s.port.busy = none) (hs : s.port.suspended = some j)
    (hu : ¬s.urgent = true) :
    s.arbitrate = { s with port := { s.port with busy := some j, suspended := none } } := by
  simp only [State.arbitrate, hm, hb, hs, if_neg hu]

/-- A burst that would resume while other work is urgent passes some words and is suspended again. -/
theorem arbitrate_suspends_again (hb : s.port.busy = none) (hs : s.port.suspended = some j)
    (hu : s.urgent = true) :
    s.arbitrate = (s.passWords j (s.drawBelow (min 9 (s.wordsLeft j)))).drawn.grantUrgent := by
  simp only [State.arbitrate, hm, hb, hs, if_pos hu]

theorem arbitrate_goes_on (hb : s.port.busy = some j) (hs : s.port.suspended = none)
    (hu : ¬(j.burstWords.isSome ∧ s.urgent = true)) : s.arbitrate = s := by
  simp only [State.arbitrate, hm, hb, hs, if_neg hu]

theorem arbitrate_suspends (hb : s.port.busy = some j) (hs : s.port.suspended = none)
    (hu : j.burstWords.isSome ∧ s.urgent = true) :
    s.arbitrate = (s.suspendAfter j (s.drawBelow (s.wordsLeft j))).grantUrgent := by
  simp only [State.arbitrate, hm, hb, hs, if_pos hu]
  rfl

end

theorem arbitrate_not_running (hr : s.port.mode ≠ .running) (he : s.port.mode ≠ .entering) :
    s.arbitrate = s := by
  unfold State.arbitrate
  split
  · exact absurd ‹_› hr
  · exact absurd ‹_› hr
  · exact absurd ‹_› hr
  · exact absurd ‹_› he
  · rfl

end

end Sys2Proof.Machine
end

section
/-! PROOFS. What each requester of the DRAM port asks for (01 R22, 03 R66, 09 R178). -/

namespace Sys2Proof.Machine

section
variable (s : State)

/-! ## The record unit: the report write, the index words, the job of the command (01 R22) -/

theorem recUnitWants_report (h : s.recUnit.writing.isSome = true) :
    s.recUnitWants = some .reportWrite := if_pos h

theorem recUnitWants_producer (hw : s.recUnit.writing = none) (h : s.recUnit.producerAsk = true) :
    s.recUnitWants = some (.producerWord s.recUnit.producer) := by
  simp only [State.recUnitWants, hw, Option.isSome_none, Bool.false_eq_true, if_false, h, if_true]

theorem recUnitWants_ready (hw : s.recUnit.writing = none) (hp : s.recUnit.producerAsk = false)
    (h : s.boot.ready = .consumerWord) : s.recUnitWants = some (.consumerWord 0) := by
  simp only [State.recUnitWants, hw, Option.isSome_none, hp, Bool.false_eq_true, if_false, h, if_true]

/-- The job of the record unit's state and of the command in hand. -/
def RecordUnit.ownJob (r : RecordUnit) : Option Job :=
  match r.state, r.work with
  | .fetching, _ => some .commandFetch
  | .advancing, _ => some (.consumerWord r.consumer)
  | .executing, some (.query q) => some (.queryWrite q.second)
  | _, _ => none

theorem recUnitWants_own (hw : s.recUnit.writing = none) (hp : s.recUnit.producerAsk = false)
    (h : s.boot.ready ≠ .consumerWord) : s.recUnitWants = s.recUnit.ownJob := by
  simp only [State.recUnitWants, hw, Option.isSome_none, hp, Bool.false_eq_true, if_false, if_neg h]
  rfl

theorem ownJob_fetching {r : RecordUnit} (h : r.state = .fetching) :
    r.ownJob = some .commandFetch := by
  simp only [RecordUnit.ownJob, h]

theorem ownJob_advancing {r : RecordUnit} (h : r.state = .advancing) :
    r.ownJob = some (.consumerWord r.consumer) := by
  simp only [RecordUnit.ownJob, h]

theorem ownJob_query {r : RecordUnit} {q : Query} (h : r.state = .executing)
    (hw : r.work = some (.query q)) : r.ownJob = some (.queryWrite q.second) := by
  simp only [RecordUnit.ownJob, h, hw]

theorem ownJob_not_query {r : RecordUnit} (h : r.state = .executing)
    (hw : ∀ q, r.work ≠ some (.query q)) : r.ownJob = none := by
  unfold RecordUnit.ownJob
  split
  case h_1 he => exact RecState.noConfusion (h.symm.trans he)
  case h_2 he => exact RecState.noConfusion (h.symm.trans he)
  case h_3 q _ hq => exact absurd hq (hw q)
  case h_4 => rfl

theorem ownJob_waiting {r : RecordUnit} (h : r.state = .waiting ∨ r.state = .completing) :
    r.ownJob = none := by
  rcases h with h | h <;> simp only [RecordUnit.ownJob, h]

/-! ## The loader: the burst of a LOAD TABLE before that of a store (09 R178) -/

theorem loaderWants_load {l : Load} (h : s.recUnit.work = some (.load l)) :
    s.loaderWants = some (.tableBurst (l.source + 2 * l.table.entryWords * l.got)
      (min 128 (l.table.entryWords * (l.count - l.got)))) := by
  simp only [State.loaderWants, h]

theorem entryWords_shading {t : Table} (h : ∃ b, t = .shading b) : t.entryWords = 2 := by
  obtain ⟨b, rfl⟩ := h
  rfl

theorem entryWords_of_not_shading {t : Table} (h : ¬∃ b, t = .shading b) : t.entryWords = 1 := by
  cases t with
  | shading b => exact absurd ⟨b, rfl⟩ h
  | _ => rfl

theorem loaderWants_not_load (h : ∀ l, s.recUnit.work ≠ some (.load l)) :
    s.loaderWants = s.boot.store.bind fun o =>
      if o.phase = .source then
        some (.storeBurst (o.source + 2 * o.next) (min 128 (o.count - o.next)))
      else none := by
  unfold State.loaderWants
  split
  · exact absurd ‹_› (h _)
  · rfl

/-! ## A channel: its entry fetch or its line transfer (01 R22, 03 R66) -/

section
variable {ch : Channel}

theorem chanWants_no_fetch (h : (s.chan ch).fetch = none) : s.chanWants ch = s.lineJob ch := by
  simp only [State.chanWants, h]

theorem chanWants_fetch (h : (s.chan ch).fetch.isSome = true) (hj : s.lineJob ch = none) :
    s.chanWants ch = some (.entryFetch ch) := by
  obtain ⟨f, hf⟩ := Option.isSome_iff_exists.mp h
  simp only [State.chanWants, hf, hj]

/-- Which of the two comes first is a free value (log 11). -/
theorem chanWants_either {j : Job} (h : (s.chan ch).fetch.isSome = true)
    (hj : s.lineJob ch = some j) :
    s.chanWants ch = some (.entryFetch ch) ∨ s.chanWants ch = some j := by
  obtain ⟨f, hf⟩ := Option.isSome_iff_exists.mp h
  simp only [State.chanWants, hf, hj]
  split
  · exact .inl rfl
  · exact .inr rfl

end

theorem bufAsks_iff (b : BufId) : s.bufAsks b = true ↔
    (s.buf b).state = .ready ∧
      ((s.buf b.other).state = .free ∨ (s.buf b).line < (s.buf b.other).line) := by
  simp [State.bufAsks]

/-- A channel that reads a page asks for the line at its position. -/
theorem lineJob_reader {ch : Channel} (h : isWriter ch = false) :
    s.lineJob ch =
      if (s.chan ch).reading then
        (s.chan ch).openPage.map fun p => .lineRead ch (s.lineAddr p.slot (s.chan ch).position)
      else none := by
  cases ch with
  | print => rfl
  | codeOut => rfl
  | scan => exact Bool.noConfusion h
  | codeIn => exact Bool.noConfusion h

theorem lineJob_codeIn_of_not (h : s.coder.recv ≠ .storing ∨ (s.chan .codeIn).openPage = none) :
    s.lineJob .codeIn = none := by
  unfold State.lineJob
  rcases h with hr | hp
  · exact if_neg hr
  · have hp' : s.chans.codeIn.openPage = none := hp
    simp only [hp', Option.map_none, ite_self]

theorem lineJob_codeIn {p : PageRef} {n : Nat} (hr : s.coder.recv = .storing)
    (hp : (s.chan .codeIn).openPage = some p) (hn : (s.chan .codeIn).held = some n) :
    s.lineJob .codeIn = some (.codeInWrite (s.lineAddr p.slot n)) := by
  have hp' : s.chans.codeIn.openPage = some p := hp
  have hn' : s.chans.codeIn.held = some n := hn
  simp only [State.lineJob, if_pos hr, hp', hn', Option.map_some, Option.getD_some]

end

/-- Settles O20: the rows of host word and refresh, the order and the effect of the grants, the arbiter,
what the requesters ask for, and the line transfers. -/
theorem dramPortServesWordsAndRefreshes : Obligations.DramPortServesWordsAndRefreshes := by
  refine ⟨⟨fun s c w hm hc hb hw => ?write, fun s c hc hb hr => ?read, fun s => exec_refreshDue,
    fun s => exec_refreshEnd⟩,
    fun s => ⟨fun h => ?refresh, fun j => grantFree_of_print s, fun h hp => ?order, fun j => ?grant,
      rotationAfter_split⟩,
    fun s => ⟨arbitrate_idle, fun j hm hb hs hr hh => arbitrate_resumes hm hb hs (not_urgent s hr hh),
      fun j hm hb hs hu => ?again, fun j hm hb hs h => ?goesOn, fun j n hm hb hs hn hu => ?suspends,
      arbitrate_not_running s⟩,
    fun s => ⟨rfl, fun ch => rfl, rfl, recUnitWants_report s, fun hw => ⟨recUnitWants_producer s hw,
      fun hp => ⟨recUnitWants_ready s hw hp, fun hr => ?own⟩⟩, fun l hl => ?load, fun hl => ?store,
      fun ch => ⟨chanWants_no_fetch s, chanWants_fetch s, fun j => chanWants_either s⟩⟩,
    fun s => ⟨fun ha => ?bufA, fun ha hb => ?bufB, fun ha hb => ?noBuf, fun ch hch => ?reader,
      fun p n => lineJob_codeIn s, lineJob_codeIn_of_not s, fun i n => rfl⟩⟩
  case write =>
    refine ⟨{ s with
      mem := Memory.writeBytes s.mem c.addr (le16 w.toNat)
      host := { s.host with cycle := none }
      port := { s.port with busy := none } }, ?_, ?_, ?_, fun a h0 h1 => ?_, rfl⟩
    · rw [exec_hostWordServed hc hb, serveHost_write s hw]
      rfl
    · exact (Memory.read_writeBytes_inside (le16 w.toNat) c.addr 0 hm (by simp [le16])).trans
        (word_lowByte w)
    · exact (Memory.read_writeBytes_inside (le16 w.toNat) c.addr 1 hm (by simp [le16])).trans
        (word_highByte w)
    · exact Memory.read_writeBytes_outside _ _ _ hm (by simp only [le16, List.length]; omega)
  case read =>
    rw [exec_hostWordServed hc hb, serveHost_read s hr]
    rfl
  case refresh => rw [grantFree_of_refresh s h, grantUrgent_of_refresh s h]
  case order =>
    rw [grantFree_of_host_or_rotation s h hp]
    refine ⟨fun hw => ?_, fun hw => ⟨fun before q after j hrot hb hq => ?_, fun hnone => ?_⟩⟩
    · rw [if_pos hw, grantUrgent_of_host s h]
      simp only [State.backlogAfter, State.indexWaits, recState_beq]
    · rw [if_neg (by simp [hw]), hrot, grantRotation_of_first s hb hq]
    · rw [if_neg (by simp [hw]), grantRotation_of_none s fun q _ => hnone q]
  case grant =>
    refine ⟨?_, fun hb => ?_, ?_, ?_, ?_, grant_scan_of_ne s, fun hp => ⟨grant_recUnit_of_ne s hp,
      fun hc hh => (grant_backlog s j).trans (backlogAfter_of_ne s hp hc hh)⟩, grant_only s j⟩
    · rw [grant_backlog, grant_port]
    · rw [grant_backlog, backlogAfter_of_not_backlog s hb]
    · rintro v rfl
      exact ⟨by rw [grant_backlog, State.backlogAfter, recState_beq], rfl, rfl⟩
    · rintro v rfl
      rfl
    · rintro b a rfl
      exact grant_scanWrite_buf s b a
  case again =>
    have hlt := drawBelow_lt s (min 9 (s.wordsLeft j))
    rw [arbitrate_suspends_again hm hb hs ((urgent_iff s).mpr hu)]
    obtain ⟨hsus, hbusy, hheld, hdone, -⟩ := grantUrgent_of_suspended s
      (u := (s.passWords j (s.drawBelow (min 9 (s.wordsLeft j)))).drawn)
      ((passWords_port s j _).trans (by rw [← hs]))
    exact ⟨hsus, hbusy, hheld, by omega, by omega⟩
  case goesOn =>
    refine arbitrate_goes_on hm hb hs fun ⟨hburst, hu⟩ => ?_
    rcases h with hn | ⟨hr, hh⟩
    · simp [hn] at hburst
    · exact not_urgent s hr hh hu
  case suspends =>
    rw [arbitrate_suspends hm hb hs ⟨by simp [hn], (urgent_iff s).mpr hu⟩]
    obtain ⟨hsus, hbusy, hheld, hdone, hrot⟩ :=
      grantUrgent_of_suspended s (suspendAfter_port s j (s.drawBelow (s.wordsLeft j)))
    exact ⟨hsus, hbusy, hheld, hdone ▸ Nat.le_add_right _ _, hrot⟩
  case own =>
    rw [recUnitWants_own s hw hp hr]
    exact ⟨ownJob_fetching, ownJob_advancing, fun q => ownJob_query, ownJob_not_query, ownJob_waiting⟩
  case load =>
    rw [loaderWants_load s hl]
    by_cases ht : ∃ b, l.table = .shading b
    · rw [entryWords_shading ht, if_pos ht]
    · rw [entryWords_of_not_shading ht, if_neg ht]
  case store =>
    rw [loaderWants_not_load s hl]
    refine ⟨fun o ho hphase => ?_, fun hno => ?_⟩
    · rw [ho, Option.bind_some, if_pos hphase]
    · rw [Option.bind_eq_none_iff]
      exact fun o ho => if_neg (hno o ho)
  case bufA => exact if_pos ((bufAsks_iff s .bufA).mpr ha)
  case bufB =>
    exact (if_neg (mt (bufAsks_iff s .bufA).mp ha)).trans (if_pos ((bufAsks_iff s .bufB).mpr hb))
  case noBuf =>
    exact (if_neg (mt (bufAsks_iff s .bufA).mp ha)).trans
      (if_neg (mt (bufAsks_iff s .bufB).mp hb))
  case reader =>
    rw [lineJob_reader s hch]
    refine ⟨fun p hr hp => ?_, fun h => ?_⟩
    · rw [if_pos hr, hp, Option.map_some]
    · rcases h with hr | hp
      · exact if_neg (by simp [hr])
      · rw [hp, Option.map_none, ite_self]

end Sys2Proof.Machine
end

section
/-! PROOFS. The samples of a line on their way to dots: shading, tone, threshold and error diffusion
(03 R67 to R70). -/

namespace Sys2Proof.Machine

/-! ## Shading and tone (03 R67, R68) -/

theorem shade_of_le {v : Nat} {e : Nat × Nat} (h : v ≤ e.1) : shade v e = 0 := if_pos h

theorem shade_of_gt {v : Nat} {e : Nat × Nat} (h : e.1 < v) :
    shade v e = min 255 (((v - e.1) * e.2 + 128) / 256) := if_neg (Nat.not_le.mpr h)

/-- The power-on contents of a shading bank leave a sample as it is (03 R67, R72). -/
theorem shade_powerOn {v : Nat} (h : v ≤ 255) : shade v (0, 256) = v := by
  rcases Nat.eq_zero_or_pos v with rfl | hv
  · exact shade_of_le (Nat.le_refl 0)
  · rw [shade_of_gt hv, Nat.sub_zero]
    omega

/-- Sample `i` meets entry `i` of the shading bank, and its shaded value picks the entry of the tone bank. -/
theorem corrected_getElem? {shading : List (Nat × Nat)} {tone : List Nat} {samples : List Byte} {i : Nat}
    {v : Byte} {e : Nat × Nat} {t : Nat} (hv : samples[i]? = some v) (he : shading[i]? = some e)
    (ht : tone[shade v.toNat e]? = some t) : (corrected shading tone samples)[i]? = some t := by
  have hpair : (samples.zip shading)[i]? = some (v, e) :=
    List.getElem?_zip_eq_some.mpr ⟨hv, he⟩
  rw [corrected, List.getElem?_map, hpair, Option.map_some, List.getD_eq_getElem?_getD, ht,
    Option.getD_some]

/-- Settles O12, from the two cases of the shading step and the place of a sample in its line. -/
theorem shadingCorrectsASample : Obligations.ShadingCorrectsASample :=
  ⟨fun _ _ _ h => shade_of_le h, fun _ _ _ h => shade_of_gt h, fun _ => shade_powerOn,
    fun _ _ _ _ _ _ _ => corrected_getElem?, by decide, by decide, by decide, by decide⟩

/-! ## THRESHOLD mode (03 R69) -/

theorem convert_threshold (s : State) {x : Selection} (samples : List Byte) (h : x.diffuse = false) :
    s.convert x samples = thresholdDots x.threshold
      (corrected (if x.shadingB then s.scan.shadingB else s.scan.shadingA)
        (if x.toneB then s.scan.toneB else s.scan.toneA) samples) := by
  simp only [State.convert, h, Bool.false_eq_true, if_false]

theorem thresholdDots_getElem? (th : Nat) {ts : List Nat} {i t : Nat} (h : ts[i]? = some t) :
    (thresholdDots th ts)[i]? = some (decide (t < th)) := by
  rw [thresholdDots, List.getElem?_map, h, Option.map_some]

/-- No value lies below the threshold 0. -/
theorem thresholdDots_zero (ts : List Nat) : thresholdDots 0 ts = ts.map fun _ => false :=
  List.map_congr_left fun t _ => decide_eq_false (Nat.not_lt_zero t)

/-- Below the threshold 255 lie all values but 255 itself. -/
theorem thresholdDots_max {ts : List Nat} (h : ∀ t ∈ ts, t ≤ 255) :
    thresholdDots 255 ts = ts.map fun t => decide (t ≠ 255) :=
  List.map_congr_left fun t ht => decide_eq_decide.mpr
    ⟨Nat.ne_of_lt, Nat.lt_of_le_of_ne (h t ht)⟩

/-- Settles O13, pixel by pixel, with the two thresholds at the ends of the range. -/
theorem thresholdDecidesADot : Obligations.ThresholdDecidesADot :=
  ⟨fun s _ => convert_threshold s, fun th _ _ _ => thresholdDots_getElem? th, thresholdDots_zero,
    fun _ => thresholdDots_max, by decide, by decide⟩

/-! ## DIFFUSE mode (03 R70) -/

theorem convert_diffuse (s : State) {x : Selection} (samples : List Byte) (h : x.diffuse = true) :
    s.convert x samples = diffuseDots x.threshold 0
      (corrected (if x.shadingB then s.scan.shadingB else s.scan.shadingA)
        (if x.toneB then s.scan.toneB else s.scan.toneA) samples) := by
  simp only [State.convert, h, if_true]

theorem pixelError_black {th : Nat} {u : Int} (h : u < th) : pixelError th u = u := if_pos h

theorem pixelError_white {th : Nat} {u : Int} (h : (th : Int) ≤ u) : pixelError th u = u - 255 :=
  if_neg (Int.not_lt.mpr h)

theorem diffuseDots_black {th t : Nat} {e : Int} (rest : List Nat) (h : (t : Int) + e < th) :
    diffuseDots th e (t :: rest) = true :: diffuseDots th (carryError ((t : Int) + e)) rest := by
  rw [diffuseDots, pixelError_black h, decide_eq_true h]

theorem diffuseDots_white {th t : Nat} {e : Int} (rest : List Nat) (h : (th : Int) ≤ (t : Int) + e) :
    diffuseDots th e (t :: rest) =
      false :: diffuseDots th (carryError ((t : Int) + e - 255)) rest := by
  rw [diffuseDots, pixelError_white h, decide_eq_false (Int.not_lt.mpr h)]

/-- The error of a pixel stays in −255..254, whichever dot is chosen. -/
theorem pixelError_range {th : Nat} {u : Int} (hth : th ≤ 255) (hlo : -128 ≤ u) (hhi : u ≤ 382) :
    -255 ≤ pixelError th u ∧ pixelError th u ≤ 254 := by
  by_cases h : u < th
  · rw [pixelError_black h]
    omega
  · rw [pixelError_white (Int.not_lt.mp h)]
    omega

/-- The clamp of the carried error never acts on the error of a pixel. -/
theorem carryError_of_range {err : Int} (hlo : -255 ≤ err) (hhi : err ≤ 254) :
    carryError err = err.tdiv 2 := by
  have hhalf : -127 ≤ err.tdiv 2 ∧ err.tdiv 2 ≤ 127 := by
    rcases Int.le_total 0 err with h | h
    · rw [Int.tdiv_eq_ediv_of_nonneg h]
      omega
    · have hneg : err.tdiv 2 = -(-err / 2) := by
        rw [← Int.tdiv_eq_ediv_of_nonneg (Int.neg_nonneg.mpr h), Int.neg_tdiv, Int.neg_neg]
      omega
  unfold carryError
  omega

theorem pixel_ranges {th t : Nat} {e : Int} (hth : th ≤ 255) (ht : t ≤ 255) (hlo : -128 ≤ e)
    (hhi : e ≤ 127) :
    -128 ≤ (t : Int) + e ∧ (t : Int) + e ≤ 382 ∧
      -255 ≤ pixelError th ((t : Int) + e) ∧ pixelError th ((t : Int) + e) ≤ 254 ∧
        carryError (pixelError th ((t : Int) + e)) = (pixelError th ((t : Int) + e)).tdiv 2 := by
  have ulo : -128 ≤ (t : Int) + e := by omega
  have uhi : (t : Int) + e ≤ 382 := by omega
  obtain ⟨plo, phi⟩ := pixelError_range hth ulo uhi
  exact ⟨ulo, uhi, plo, phi, carryError_of_range plo phi⟩

/-- Settles O14, from the two dots a pixel can get, with the ranges of its error and the half carried. -/
theorem diffusionCarriesHalfTheError : Obligations.DiffusionCarriesHalfTheError :=
  ⟨fun s _ => convert_diffuse s, fun _ _ _ => diffuseDots_black, fun _ _ _ => diffuseDots_white,
    fun _ _ => rfl, fun _ _ _ => pixel_ranges, by decide, by decide, by decide, by decide⟩

end Sys2Proof.Machine
end

section
/-! PROOFS. Dots in their bytes and sections (03 R71), and the buffer at the end of a capture (03 R65). -/

namespace Sys2Proof.Machine

/-! ## Eight dots in a byte (03 R71) -/

/-- The byte of eight dots, the leftmost in the most significant bit. -/
def dotByte (a b c d e f g h : Bool) : Byte :=
  BitVec.ofNat 8
    (flag a 128 + flag b 64 + flag c 32 + flag d 16 + flag e 8 + flag f 4 + flag g 2 + flag h 1)

theorem packDots_eight (a b c d e f g h : Bool) (rest : List Bool) :
    packDots (a :: b :: c :: d :: e :: f :: g :: h :: rest) = dotByte a b c d e f g h :: packDots rest :=
  rfl

theorem flag_eq_mul_toNat (b : Bool) (w : Nat) : flag b w = w * b.toNat := by
  cases b <;> simp [flag]

theorem dotByte_getLsbD (a b c d e f g h : Bool) {k : Nat} (hk : k < 8) :
    (dotByte a b c d e f g h).getLsbD (7 - k) = [a, b, c, d, e, f, g, h].getD k false := by
  have bit (x : Bool) : x = decide (x.toNat = 1) := by cases x <;> rfl
  have le (x : Bool) : x.toNat ≤ 1 := Bool.toNat_le x
  have ha := le a; have hb := le b; have hc := le c; have hd := le d
  have he := le e; have hf := le f; have hg := le g; have hh := le h
  have h7 : 7 - k < 8 := by omega
  simp only [dotByte, flag_eq_mul_toNat, BitVec.getLsbD_ofNat, h7, decide_true, Bool.true_and,
    Nat.testBit_eq_decide_div_mod_eq]
  match k, hk with
  | 0, _ => exact (decide_eq_decide.mpr (by omega)).trans (bit a).symm
  | 1, _ => exact (decide_eq_decide.mpr (by omega)).trans (bit b).symm
  | 2, _ => exact (decide_eq_decide.mpr (by omega)).trans (bit c).symm
  | 3, _ => exact (decide_eq_decide.mpr (by omega)).trans (bit d).symm
  | 4, _ => exact (decide_eq_decide.mpr (by omega)).trans (bit e).symm
  | 5, _ => exact (decide_eq_decide.mpr (by omega)).trans (bit f).symm
  | 6, _ => exact (decide_eq_decide.mpr (by omega)).trans (bit g).symm
  | 7, _ => exact (decide_eq_decide.mpr (by omega)).trans (bit h).symm

/-- A byte is the byte of its own bits. -/
theorem dotByte_bits (b : Byte) :
    dotByte (b.getLsbD 7) (b.getLsbD 6) (b.getLsbD 5) (b.getLsbD 4) (b.getLsbD 3) (b.getLsbD 2)
      (b.getLsbD 1) (b.getLsbD 0) = b := by
  refine BitVec.eq_of_getLsbD_eq fun i hi => ?_
  have h := dotByte_getLsbD (b.getLsbD 7) (b.getLsbD 6) (b.getLsbD 5) (b.getLsbD 4) (b.getLsbD 3)
    (b.getLsbD 2) (b.getLsbD 1) (b.getLsbD 0) (k := 7 - i) (by omega)
  rw [Nat.sub_sub_self (by omega)] at h
  rw [h]
  match i, hi with
  | 0, _ | 1, _ | 2, _ | 3, _ | 4, _ | 5, _ | 6, _ | 7, _ => rfl

theorem packDots_unpackDots (bytes : List Byte) : packDots (unpackDots bytes) = bytes := by
  induction bytes with
  | nil => rfl
  | cons b rest ih => rw [unpackDots, packDots_eight, dotByte_bits, ih]

/-- A list of eight or more dots begins with eight of them. -/
theorem exists_eight_dots {dots : List Bool} {n : Nat} (h : dots.length = 8 * (n + 1)) :
    ∃ a b c d e f g i rest,
      dots = a :: b :: c :: d :: e :: f :: g :: i :: rest ∧ rest.length = 8 * n := by
  match dots, h with
  | a :: b :: c :: d :: e :: f :: g :: i :: rest, h =>
    exact ⟨a, b, c, d, e, f, g, i, rest, rfl, by simpa [Nat.mul_succ] using h⟩

theorem length_packDots {n : Nat} {dots : List Bool} (h : dots.length = 8 * n) :
    (packDots dots).length = n := by
  induction n generalizing dots with
  | zero => rw [List.eq_nil_of_length_eq_zero h]; rfl
  | succ n ih =>
    obtain ⟨a, b, c, d, e, f, g, i, rest, rfl, hrest⟩ := exists_eight_dots h
    rw [packDots_eight, List.length_cons, ih hrest]

/-- Dot `x` stands in byte `x / 8` at bit `7 - x % 8`. -/
theorem packDots_bit {n : Nat} {dots : List Bool} (h : dots.length = 8 * n) {x : Nat} (hx : x < 8 * n) :
    ((packDots dots).getD (x / 8) 0).getLsbD (7 - x % 8) = dots.getD x false := by
  induction n generalizing dots x with
  | zero => omega
  | succ n ih =>
    obtain ⟨a, b, c, d, e, f, g, i, rest, rfl, hrest⟩ := exists_eight_dots h
    rw [packDots_eight]
    by_cases hlt : x < 8
    · rw [Nat.div_eq_of_lt hlt, Nat.mod_eq_of_lt hlt, List.getD_cons_zero,
        dotByte_getLsbD _ _ _ _ _ _ _ _ hlt]
      exact congrArg (Option.getD · false)
        (List.getElem?_append_left (l₁ := [a, b, c, d, e, f, g, i]) (l₂ := rest) hlt).symm
    · obtain ⟨y, rfl⟩ := Nat.exists_eq_add_of_le' (Nat.not_lt.mp hlt)
      rw [Nat.add_div_right y (by decide), Nat.add_mod_right, List.getD_cons_succ,
        ih hrest (by omega)]
      rfl

/-! ## Black dots by section (03 R71) -/

/-- A run of a list, read off place by place. -/
theorem take_drop_eq_map_range (l : List Bool) {m n : Nat} (h : m + n ≤ l.length) :
    (l.drop m).take n = (List.range n).map fun k => l.getD (m + k) false := by
  refine List.ext_getElem (by simp; omega) fun i h1 h2 => ?_
  have hi : i < n := by simpa using h2
  have hlen : m + i < l.length := by omega
  simp [List.getD_eq_getElem?_getD, hlen]

theorem blackIn_eq_length_filter {dots : List Bool} {i : Nat} (h : 432 * i + 432 ≤ dots.length) :
    blackIn dots i = ((List.range 432).filter fun k => dots.getD (432 * i + k) false).length := by
  unfold blackIn
  rw [show Config.dotsPerSection = 432 from rfl, take_drop_eq_map_range dots h, List.countP_map,
    List.countP_eq_length_filter]
  rfl

theorem countsOf_get (dots : List Bool) {i : Nat} (h : i < 4) :
    (countsOf dots).get i = blackIn dots i := by
  match i, h with
  | 0, _ | 1, _ | 2, _ | 3, _ => rfl

/-! ## The end of a capture (03 R65) -/

theorem BufId.other_ne (b : BufId) : b.other ≠ b := by cases b <;> decide

/-- A buffer with its line finished under its latched selection. -/
def State.finishedBuf (s : State) (b : BufId) (samples : List Byte) : LineBuf :=
  { s.buf b with
    state := .ready
    dots := packDots (s.convert (s.buf b).sel samples)
    counts := countsOf (s.convert (s.buf b).sel samples)
    error := 0 }

section
variable (s : State) (b : BufId) (samples : List Byte)

theorem setBuf_other (x : LineBuf) : (s.setBuf b x).buf b.other = s.buf b.other :=
  buf_setBuf_of_ne s x b.other_ne

/-- The other buffer's ARMED line begins its capture as that of a buffer ends. -/
theorem finishCapture_of_armed (h : (s.buf b.other).state = .armed) :
    s.finishCapture b samples =
      { (s.setBuf b (s.finishedBuf b samples)).setBuf b.other
          { s.buf b.other with state := .capturing } with
        scan := ((s.setBuf b (s.finishedBuf b samples)).setBuf b.other
          { s.buf b.other with state := .capturing }).scan.startCapture } := by
  have hother := setBuf_other s b (s.finishedBuf b samples)
  unfold State.finishCapture
  dsimp only
  rw [← State.finishedBuf, hother, if_pos h]

theorem finishCapture_of_not_armed (h : (s.buf b.other).state ≠ .armed) :
    s.finishCapture b samples =
      { s.setBuf b (s.finishedBuf b samples) with
        scan := { (s.setBuf b (s.finishedBuf b samples)).scan with busy := false } } := by
  have hother := setBuf_other s b (s.finishedBuf b samples)
  unfold State.finishCapture
  dsimp only
  rw [← State.finishedBuf, hother, if_neg h]

theorem finishCapture_buf : (s.finishCapture b samples).buf b = s.finishedBuf b samples := by
  by_cases h : (s.buf b.other).state = .armed
  · rw [finishCapture_of_armed s b samples h]
    cases b <;> rfl
  · rw [finishCapture_of_not_armed s b samples h]
    cases b <;> rfl

end

/-- Settles O52: a dot in its byte and its section, and the buffer at the end of a capture. -/
theorem dotsArePackedAndCounted : Obligations.DotsArePackedAndCounted := by
  refine ⟨fun dots x hl hx => ⟨length_packDots (n := 216) hl, packDots_bit (n := 216) hl hx⟩,
    fun dots i hl hi => ?_, fun bytes _ => packDots_unpackDots bytes, fun s b samples => ?_⟩
  · rw [countsOf_get dots hi, blackIn_eq_length_filter (by omega)]
  · rw [finishCapture_buf]
    exact ⟨rfl, rfl⟩

end Sys2Proof.Machine
end

section
/-! PROOFS. CAPTURE_END and SCAN_WRITE_END (03 R59, R65, R66; 01 R12, R14). -/

namespace Sys2Proof.Machine

/-! ## CAPTURE_END (03 R59, R65) -/

section
variable {s : State} {b : BufId} {samples : List Byte}

theorem capturingBuf_of (h : (s.buf b).state = .capturing) (ho : (s.buf b.other).state ≠ .capturing) :
    s.capturingBuf = some b := by
  cases b with
  | bufA => exact if_pos h
  | bufB => exact (if_neg ho).trans (if_pos h)

theorem exec_captureEnd (h : (s.buf b).state = .capturing)
    (ho : (s.buf b.other).state ≠ .capturing) (hl : samples.length = 1728) :
    exec (.captureEnd samples) s = .next (State.settle (s.finishCapture b samples)) := by
  change execCaptureEnd samples s = _
  simp only [execCaptureEnd, capturingBuf_of h ho]
  exact runIf_of (decide_eq_true hl) s _

/-- The sensor goes over to the ARMED line, with a pulse of SSTART. -/
theorem finishCapture_starts (h : (s.buf b.other).state = .armed) :
    let e := s.finishCapture b samples
    e.buf b.other = { s.buf b.other with state := .capturing } ∧ e.scan.busy = true ∧
      e.scan.captureTicks = s.scan.tLine ∧ e.scan.starts = s.scan.starts + 1 ∧
      sstart s e = true := by
  rw [finishCapture_of_armed s b samples h]
  have hstart : decide (s.scan.starts < s.scan.starts + 1) = true :=
    decide_eq_true (Nat.lt_succ_self _)
  cases b with
  | bufA => exact ⟨rfl, rfl, rfl, rfl, hstart⟩
  | bufB => exact ⟨rfl, rfl, rfl, rfl, hstart⟩

/-- With no line ARMED the sensor is FREE. -/
theorem finishCapture_rests (h : (s.buf b.other).state ≠ .armed) :
    let e := s.finishCapture b samples
    e.buf b.other = s.buf b.other ∧ e.scan.busy = false ∧
      e.scan.captureTicks = s.scan.captureTicks ∧ e.scan.starts = s.scan.starts := by
  rw [finishCapture_of_not_armed s b samples h]
  cases b with
  | bufA => exact ⟨rfl, rfl, rfl, rfl⟩
  | bufB => exact ⟨rfl, rfl, rfl, rfl⟩

variable (s b samples)

/-- The end of a capture concerns the buffers and the sensor alone. -/
theorem finishCapture_frame :
    let e := s.finishCapture b samples
    e.scan = { s.scan with
      busy := e.scan.busy, bufA := e.scan.bufA, bufB := e.scan.bufB
      captureTicks := e.scan.captureTicks, starts := e.scan.starts } ∧
    e = { s with scan := e.scan } := by
  by_cases h : (s.buf b.other).state = .armed
  · rw [finishCapture_of_armed s b samples h]
    cases b <;> exact ⟨rfl, rfl⟩
  · rw [finishCapture_of_not_armed s b samples h]
    cases b <;> exact ⟨rfl, rfl⟩

end

/-! ## The memory behind a burst that has ended (01 R22) -/

/-- A state that differs in its memory and in the words its grant has passed releases the port alike. -/
theorem releasePort_of_grant (s : State) (m : List Host.Cell) (d : Nat) (ws : List Byte) :
    State.releasePort { s with mem := m, port := { s.port with done := d, partialData := ws } } =
      { s.releasePort with mem := m } := by
  unfold State.releasePort State.afterGrant
  simp only [State.dropGrant]
  split <;> rfl

theorem releasePort_endBurst (s : State) (j : Job) :
    (s.endBurst j).releasePort = { s.releasePort with mem := (s.endBurst j).mem } := by
  unfold State.endBurst State.passWords
  dsimp only
  split
  · exact releasePort_of_grant s _ _ s.port.partialData
  · exact releasePort_of_grant s s.mem _ _

/-- A write burst from its first word on writes all its bytes. -/
theorem endBurst_mem_of_write {s : State} {j : Job} {bs : List Byte} {n : Nat}
    (hw : s.writeData j = some bs) (hj : j.burstWords = some n) (hd : s.port.done = 0)
    (hl : bs.length = 2 * n) :
    (s.endBurst j).mem = Memory.writeBytes s.mem j.burstAddr bs := by
  simp only [State.endBurst, State.passWords, State.wordsLeft, hw, hj, hd, Option.getD_some,
    Nat.mul_zero, Nat.add_zero, Nat.sub_zero, List.drop_zero]
  rw [← hl, List.take_length]

/-! ## SCAN_WRITE_END (03 R66; 01 R12, R14) -/

theorem length_slotBytes (dots : List Byte) (c : Counts) (concealed tail : Bool) (n : Nat)
    (h : dots.length = 216) : (slotBytes dots c concealed tail n).length = 256 := by
  simp [slotBytes, le16, h]

/-- The 256 bytes that a buffer's line leaves in its slot. -/
def LineBuf.bytes (x : LineBuf) : List Byte := slotBytes x.dots x.counts false x.tail x.line

theorem LineBuf.bytes_eq (x : LineBuf) :
    x.bytes = x.dots ++ le16 x.counts.c0 ++ le16 x.counts.c1 ++ le16 x.counts.c2 ++
      le16 x.counts.c3 ++ le16 (if x.tail then 2 else 0) ++ le16 x.line ++ List.replicate 28 0 := by
  simp only [LineBuf.bytes, slotBytes, flag, Bool.false_eq_true, if_false, Nat.zero_add]

theorem endBurst_scanWrite_mem {s : State} {b : BufId} (a : Nat) (hd : s.port.done = 0)
    (hl : (s.buf b).dots.length = 216) :
    (s.endBurst (.scanWrite b a)).mem = Memory.writeBytes s.mem a (s.buf b).bytes :=
  endBurst_mem_of_write (n := 128) rfl rfl hd (length_slotBytes _ _ _ _ _ hl)

theorem exec_scanWriteEnd {s : State} {b : BufId} {a : Nat} (h : s.port.busy = some (.scanWrite b a)) :
    exec .scanWriteEnd s =
      .next (State.settle ((s.endBurst (.scanWrite b a)).releasePort.storeScan b)) := by
  change execScanWriteEnd s = _
  simp only [execScanWriteEnd, h]
  exact runIf_of rfl s _

section
variable (s : State) (b : BufId)

theorem storeScan_slot_self : (s.storeScan b).slot (s.buf b).page.slot =
    { s.slot (s.buf b).page.slot with stored := (s.slot (s.buf b).page.slot).stored + 1 } := by
  rw [State.storeScan, setBuf_slot]
  exact slot_setSlot_self s _ _

theorem storeScan_slot_of_ne {j : Fin 16} (h : j ≠ (s.buf b).page.slot) :
    (s.storeScan b).slot j = s.slot j := by
  rw [State.storeScan, setBuf_slot]
  exact slot_setSlot_of_ne s _ h

theorem storeScan_chan_scan : (s.storeScan b).chan .scan =
    { s.chan .scan with moved := (s.chan .scan).moved + 1 } := by
  rw [State.storeScan, setBuf_chan]
  rfl

theorem storeScan_chan_of_ne {d : Channel} (h : d ≠ .scan) :
    (s.storeScan b).chan d = s.chan d := by
  rw [State.storeScan, setBuf_chan, State.countMoved, chan_setChan_of_ne _ _ h]
  exact setSlot_chan s _ _ d

theorem storeScan_buf_self : (s.storeScan b).buf b = { s.buf b with state := .free } := by
  rw [State.storeScan, buf_setBuf_self, State.countMoved, setChan_buf]
  exact congrArg (fun x : LineBuf => { x with state := .free }) (setSlot_buf s _ _ b)

theorem storeScan_buf_other : (s.storeScan b).buf b.other = s.buf b.other := by
  rw [State.storeScan, setBuf_other, State.countMoved, setChan_buf]
  exact setSlot_buf s _ _ b.other

theorem storeScan_only : s.storeScan b = { s with
    page := { s.page with slots := (s.storeScan b).page.slots }
    chans := (s.storeScan b).chans
    scan := { s.scan with bufA := (s.storeScan b).scan.bufA, bufB := (s.storeScan b).scan.bufB } } := by
  cases b <;> rfl

@[simp] theorem storeScan_mem : (s.storeScan b).mem = s.mem := by rw [storeScan_only]
@[simp] theorem storeScan_port : (s.storeScan b).port = s.port := by rw [storeScan_only]

theorem releasePort_busy : s.releasePort.port.busy = none := by
  unfold State.releasePort State.afterGrant
  split <;> rfl

end

/-- Settles O53: the line finished and the sensor's next capture, and the line stored in its slot. -/
theorem capturesEndAndLinesAreStored : Obligations.CapturesEndAndLinesAreStored := by
  refine ⟨fun s b samples h ho hl => ⟨s.finishCapture b samples, exec_captureEnd h ho hl,
      finishCapture_buf s b samples, finishCapture_starts, finishCapture_rests,
      finishCapture_frame s b samples⟩,
    fun s b a hm hb hd hl => ?_, fun s b a _ hb => ?_⟩
  · have hmem : ((s.endBurst (.scanWrite b a)).releasePort.storeScan b).mem =
        Memory.writeBytes s.mem a (s.buf b).bytes := by
      rw [storeScan_mem, releasePort_mem, endBurst_scanWrite_mem a hd hl]
    have hbytes : (s.buf b).bytes.length = 256 := length_slotBytes _ _ _ _ _ hl
    have hslot := storeScan_slot_self (s.endBurst (.scanWrite b a)).releasePort b
    have hslots (j : Fin 16) := storeScan_slot_of_ne (s.endBurst (.scanWrite b a)).releasePort b (j := j)
    have hscan := storeScan_chan_scan (s.endBurst (.scanWrite b a)).releasePort b
    have hchans (d : Channel) := storeScan_chan_of_ne (s.endBurst (.scanWrite b a)).releasePort b (d := d)
    have hbuf := storeScan_buf_self (s.endBurst (.scanWrite b a)).releasePort b
    have hother := storeScan_buf_other (s.endBurst (.scanWrite b a)).releasePort b
    simp only [releasePort_buf, releasePort_slot, releasePort_chan, endBurst_buf, endBurst_slot,
      endBurst_chan] at hslot hslots hscan hchans hbuf hother
    refine ⟨_, exec_scanWriteEnd hb, ?_, fun x hx => ?_, hslot, hslots, hscan, hchans, hbuf, hother,
      by rw [storeScan_port, releasePort_busy], ?_⟩
    · rw [hmem, ← LineBuf.bytes_eq, ← hbytes, Memory.readBytes_writeBytes _ a hm]
    · rw [hmem, Memory.read_writeBytes_outside _ a x hm (by rw [hbytes]; exact hx)]
    · rw [storeScan_only, releasePort_endBurst]
      simp only [releasePort_page, releasePort_scan]
  · refine ⟨_, exec_scanWriteEnd hb, ?_, ?_, by rw [storeScan_port, releasePort_busy]⟩
    · simpa using storeScan_slot_self (s.endBurst (.scanWrite b a)).releasePort b
    · simpa using storeScan_buf_self (s.endBurst (.scanWrite b a)).releasePort b

end Sys2Proof.Machine
end

section
/-! PROOFS. A trigger of Scan's motor and the line it assigns (03 R59, R62, R63, R64; 02 R39). -/

namespace Sys2Proof.Machine

/-! ## The line that page memory assigns to a trigger (01 R9, R10) -/

section
variable (s : State) (i : Fin 16)

/-- The assignment of a line concerns page memory and the events of its band pool. -/
theorem assignLine_only (scan : Bool) : (s.assignLine i scan).1 =
    { s with
      page := (s.assignLine i scan).1.page
      sensor := (s.assignLine i scan).1.sensor } := by
  by_cases hl : (s.slot i).assigned = (s.slot i).limit
  · rw [assignLine_at_limit s hl]
  by_cases hm : (s.slot i).assigned % 64 = 0
  · by_cases hb : (if scan then s.freeCount else s.unreserved) = 0
    · rw [assignLine_without_band s hl hm hb]
    · rw [assignLine_at_band s hl hm hb]
      exact takeBand_only s i scan
  · rw [assignLine_in_band s hl hm]
    rfl

@[simp] theorem assignLine_scan (scan : Bool) : (s.assignLine i scan).1.scan = s.scan := by
  rw [assignLine_only]

@[simp] theorem assignLine_chan (scan : Bool) (d : Channel) :
    (s.assignLine i scan).1.chan d = s.chan d := by
  rw [assignLine_only]; rfl

@[simp] theorem assignLine_buf (scan : Bool) (b : BufId) :
    (s.assignLine i scan).1.buf b = s.buf b := by
  rw [assignLine_only]; rfl

variable {s i}

/-- No line is to be had for Scan where a new band is needed and none is FREE. -/
theorem assignLine_noBand (hl : (s.slot i).assigned ≠ (s.slot i).limit)
    (hm : (s.slot i).assigned % 64 = 0) (hf : s.page.free = []) :
    s.assignLine i true = (s, .noBand) :=
  assignLine_without_band s hl hm (by simp [State.freeCount, hf])

/-- Below its limit, and with a band where one is needed, the page gets its next line. -/
theorem assignLine_of_line (hl : (s.slot i).assigned ≠ (s.slot i).limit)
    (hb : (s.slot i).assigned % 64 ≠ 0 ∨ s.page.free ≠ []) :
    s.assignLine i true = ((s.assignLine i true).1,
        .line ((s.slot i).assigned + 1)
          ((s.assignLine i true).1.lineAddr i ((s.slot i).assigned + 1))) ∧
      ((s.assignLine i true).1.slot i).assigned = (s.slot i).assigned + 1 ∧
      ((s.assignLine i true).1.slot i).limit = (s.slot i).limit := by
  by_cases hm : (s.slot i).assigned % 64 = 0
  · obtain ⟨b, rest, hf⟩ := List.exists_cons_of_ne_nil (hb.resolve_left (not_not_intro hm))
    obtain ⟨t, ht, hslot, -⟩ := takeBand_of s hf i true
    obtain ⟨chain, freed, hfreed⟩ := freeBehind_slot t i
    rw [assignLine_at_band s hl hm (band_available s hf (.inl rfl)), ht, hfreed, hslot]
    exact ⟨rfl, rfl, rfl⟩
  · rw [assignLine_in_band s hl hm, withLine_slot_self]
    exact ⟨rfl, rfl, rfl⟩

end

/-! ## The buffer and the sensor (03 R63) -/

section
variable (s : State) (b : BufId) (p : PageRef) (n addr : Nat) (tail : Bool)

theorem armBuffer_of_busy (h : s.scan.busy = true) :
    s.armBuffer b p n addr tail =
      s.setBuf b
        { state := .armed, line := n, page := p, addr, sel := s.chans.scan.sel, tail, dots := []
          counts := Counts.zero, error := 0 } := by
  simp only [State.armBuffer, h, if_true]

theorem armBuffer_of_free (h : s.scan.busy = false) :
    s.armBuffer b p n addr tail =
      (let s1 := s.setBuf b
        { state := .capturing, line := n, page := p, addr, sel := s.chans.scan.sel, tail, dots := []
          counts := Counts.zero, error := 0 }
       { s1 with scan := s1.scan.startCapture }) := by
  simp only [State.armBuffer, h, Bool.false_eq_true, if_false]

theorem armBuffer_only :
    s.armBuffer b p n addr tail = { s with scan := (s.armBuffer b p n addr tail).scan } := by
  cases h : s.scan.busy
  · rw [armBuffer_of_free s b p n addr tail h]
    cases b <;> rfl
  · rw [armBuffer_of_busy s b p n addr tail h]
    cases b <;> rfl

theorem armBuffer_buf_self : (s.armBuffer b p n addr tail).buf b =
    { state := if s.scan.busy then .armed else .capturing
      line := n, page := p, addr, sel := s.chans.scan.sel, tail, dots := []
      counts := Counts.zero, error := 0 } := by
  cases h : s.scan.busy
  · rw [armBuffer_of_free s b p n addr tail h]
    cases b <;> rfl
  · rw [armBuffer_of_busy s b p n addr tail h]
    cases b <;> rfl

theorem armBuffer_buf_other : (s.armBuffer b p n addr tail).buf b.other = s.buf b.other := by
  cases h : s.scan.busy
  · rw [armBuffer_of_free s b p n addr tail h]
    cases b <;> rfl
  · rw [armBuffer_of_busy s b p n addr tail h]
    exact setBuf_other s b _

/-- The sensor is BUSY behind a trigger; SSTART is pulsed where it was FREE. -/
theorem armBuffer_sensor : (s.armBuffer b p n addr tail).scan.busy = true ∧
    (s.armBuffer b p n addr tail).scan.starts =
      if s.scan.busy then s.scan.starts else s.scan.starts + 1 := by
  cases h : s.scan.busy
  · rw [armBuffer_of_free s b p n addr tail h]
    cases b <;> exact ⟨rfl, rfl⟩
  · rw [armBuffer_of_busy s b p n addr tail h]
    cases b <;> exact ⟨h, rfl⟩

end

/-! ## What a trigger comes to (03 R62, R63, R64) -/

/-- The line of a trigger assigned, latched in its buffer and counted, before what ends its entry. -/
def State.triggered (s : State) (p : PageRef) (b : BufId) : State :=
  ((s.assignLine p.slot true).1.armBuffer b p ((s.slot p.slot).assigned + 1)
    ((s.assignLine p.slot true).1.lineAddr p.slot ((s.slot p.slot).assigned + 1))
    (s.chan .scan).nextIsTail).countLine .scan

section
variable {s : State} {p : PageRef} {b : BufId}

theorem offerTrigger_of_none (h : s.chans.scan.openPage = none) : s.offerTrigger = s := by
  simp only [State.offerTrigger, h]

theorem truncateScan_of (h : s.chans.scan.openPage = some p) :
    s.truncateScan = s.setSlot p.slot { s.slot p.slot with truncated := true } := by
  simp only [State.truncateScan, h]

/-- The buffer of a trigger: A if FREE, otherwise B. -/
theorem freeBuffer_of (h : s.scan.bufA.state = .free ∧ b = .bufA ∨
    s.scan.bufA.state ≠ .free ∧ s.scan.bufB.state = .free ∧ b = .bufB) : s.freeBuffer = some b := by
  rcases h with ⟨ha, rfl⟩ | ⟨ha, hb, rfl⟩
  · exact if_pos ha
  · exact (if_neg ha).trans (if_pos hb)

theorem freeBuffer_of_held (ha : s.scan.bufA.state ≠ .free) (hb : s.scan.bufB.state ≠ .free) :
    s.freeBuffer = none :=
  (if_neg ha).trans (if_neg hb)

variable (hp : s.chans.scan.openPage = some p)
include hp

theorem offerTrigger_of_not_lines
    (h : (s.chan .scan).state ≠ .running ∨ (s.chan .scan).inLines = false) :
    s.offerTrigger = s.setSlot p.slot { s.slot p.slot with truncated := true } := by
  have hn : ¬(s.chans.scan.state = .running ∧ s.chans.scan.inLines = true) := fun ⟨hr, hi⟩ =>
    h.elim (fun hr' => hr' hr) fun hi' => Bool.false_ne_true (hi'.symm.trans hi)
  rw [← truncateScan_of hp]
  simp only [State.offerTrigger, hp, if_neg hn]

variable (hr : (s.chan .scan).state = .running) (hi : (s.chan .scan).inLines = true)
include hr hi

theorem offerTrigger_of_held (hb : s.freeBuffer = none) :
    s.offerTrigger = s.setSlot p.slot { s.slot p.slot with truncated := true } := by
  rw [← truncateScan_of hp]
  simp only [State.offerTrigger, hp, hb]
  exact if_pos ⟨hr, hi⟩

variable (hb : s.freeBuffer = some b)
include hb

theorem offerTrigger_of_limit (h : s.assignLine p.slot true = (s, .limit)) : s.offerTrigger = s := by
  simp only [State.offerTrigger, hp, hb, h]
  exact if_pos ⟨hr, hi⟩

theorem offerTrigger_of_noBand (h : s.assignLine p.slot true = (s, .noBand)) :
    s.offerTrigger = s.setSlot p.slot { s.slot p.slot with truncated := true } := by
  rw [← truncateScan_of hp]
  simp only [State.offerTrigger, hp, hb, h]
  exact if_pos ⟨hr, hi⟩

theorem offerTrigger_of_line
    (h : s.assignLine p.slot true = ((s.assignLine p.slot true).1,
      .line ((s.slot p.slot).assigned + 1)
        ((s.assignLine p.slot true).1.lineAddr p.slot ((s.slot p.slot).assigned + 1)))) :
    s.offerTrigger =
      let u := s.triggered p b
      if u.chans.scan.remaining = 0 then u.endIfDone .scan
      else if u.atLimit .scan then u.endAtLimit .scan
      else u := by
  simp only [State.offerTrigger, hp, hb]
  rw [h]
  exact if_pos ⟨hr, hi⟩

end

/-! ## The state behind an assigned line -/

section
variable (s : State) (p : PageRef) (b : BufId)

theorem triggered_page : (s.triggered p b).page = (s.assignLine p.slot true).1.page := by
  rw [State.triggered, State.countLine, setChan_page, armBuffer_only]

theorem triggered_slot (i : Fin 16) :
    (s.triggered p b).slot i = (s.assignLine p.slot true).1.slot i := by
  simp only [State.slot, triggered_page]

theorem triggered_buf_self : (s.triggered p b).buf b =
    { state := if s.scan.busy then .armed else .capturing
      line := (s.slot p.slot).assigned + 1
      page := p
      addr := (s.assignLine p.slot true).1.lineAddr p.slot ((s.slot p.slot).assigned + 1)
      sel := (s.chan .scan).sel
      tail := (s.chan .scan).nextIsTail
      dots := []
      counts := Counts.zero
      error := 0 } := by
  rw [State.triggered, State.countLine, setChan_buf, armBuffer_buf_self, assignLine_scan,
    assignLine_chans, chan_scan]

theorem triggered_buf_other : (s.triggered p b).buf b.other = s.buf b.other := by
  rw [State.triggered, State.countLine, setChan_buf, armBuffer_buf_other, assignLine_buf]

theorem triggered_sensor : (s.triggered p b).scan.busy = true ∧
    (s.triggered p b).scan.starts = if s.scan.busy then s.scan.starts else s.scan.starts + 1 := by
  have h := armBuffer_sensor (s.assignLine p.slot true).1 b p ((s.slot p.slot).assigned + 1)
    ((s.assignLine p.slot true).1.lineAddr p.slot ((s.slot p.slot).assigned + 1))
    (s.chan .scan).nextIsTail
  rw [assignLine_scan] at h
  exact h

/-- The context of a channel before the line is counted. -/
theorem armed_chan (d : Channel) :
    ((s.assignLine p.slot true).1.armBuffer b p ((s.slot p.slot).assigned + 1)
      ((s.assignLine p.slot true).1.lineAddr p.slot ((s.slot p.slot).assigned + 1))
      (s.chan .scan).nextIsTail).chan d = s.chan d := by
  rw [armBuffer_only]
  exact assignLine_chan s p.slot true d

theorem triggered_chan_scan : (s.triggered p b).chan .scan =
    { s.chan .scan with
      remaining := (s.chan .scan).remaining - 1
      edge := (s.chan .scan).edge.map (· + 1) } := by
  rw [State.triggered, State.countLine, chan_setChan_self, armed_chan]

theorem triggered_chan_of_ne {d : Channel} (h : d ≠ .scan) : (s.triggered p b).chan d = s.chan d := by
  rw [State.triggered, State.countLine, chan_setChan_of_ne _ _ h, armed_chan]

theorem triggered_only : s.triggered p b = { s with
    page := (s.triggered p b).page
    scan := (s.triggered p b).scan
    chans := (s.triggered p b).chans
    sensor := (s.triggered p b).sensor } := by
  rw [State.triggered, State.countLine, armBuffer_only, assignLine_only]
  rfl

theorem setChan_chan (ch : Channel) : s.setChan ch (s.chan ch) = s := by cases ch <;> rfl

variable {s p b}

/-- A LINES entry with no line remaining ends. -/
theorem endIfDone_scan_of (hr : (s.chan .scan).state = .running) (hi : (s.chan .scan).inLines = true)
    (h0 : (s.chan .scan).remaining = 0) : s.endIfDone .scan = s.endEntry .scan := by
  have hw : (s.chan .scan).working = true := by simp only [Chan.working, hr]; rfl
  have hs : { s.chan .scan with state := .running } = s.chan .scan := by rw [← hr]
  unfold State.endIfDone
  dsimp only
  rw [if_pos ⟨hw, hi, h0, fun h => by cases h⟩, hs, setChan_chan]

/-- A page at its limit calls for PAGE LIMIT. -/
theorem endAtLimit_of (ch : Channel) (hp : (s.chan ch).openPage = some p) :
    s.endAtLimit ch = s.setChan ch
      { s.chan ch with
        phase := .ending
        notices := (s.chan ch).notices ++
          [{ body := .pageLimit (s.slot p.slot).limit, page := some p }] } := by
  unfold State.endAtLimit
  rw [hp]
  rfl

theorem atLimit_iff (ch : Channel) (hp : (s.chan ch).openPage = some p) :
    s.atLimit ch = true ↔ (s.slot p.slot).assigned = (s.slot p.slot).limit := by
  simp only [State.atLimit, hp, Option.any_some, beq_iff_eq]

end

/-- Settles O54: the triggers without a line case by case, and the line assigned with what ends its entry. -/
theorem triggersAssignLines : Obligations.TriggersAssignLines := by
  refine ⟨fun s => offerTrigger_of_none, fun s p hp => ⟨offerTrigger_of_not_lines hp,
    fun hr hi ha hb => offerTrigger_of_held hp hr hi (freeBuffer_of_held ha hb),
    fun b hr hi hfree => ⟨fun hl => offerTrigger_of_limit hp hr hi (freeBuffer_of hfree)
      (assignLine_at_limit s hl), fun hl => ⟨fun hm hf => offerTrigger_of_noBand hp hr hi
        (freeBuffer_of hfree) (assignLine_noBand hl hm hf), fun hb => ?_⟩⟩⟩⟩
  obtain ⟨hline, hassigned, hlimit⟩ := assignLine_of_line hl hb
  have htrigger := offerTrigger_of_line hp hr hi (freeBuffer_of hfree) hline
  have hchan := triggered_chan_scan s p b
  have huA : ((s.triggered p b).slot p.slot).assigned = (s.slot p.slot).assigned + 1 := by
    rw [triggered_slot, hassigned]
  have huL : ((s.triggered p b).slot p.slot).limit = (s.slot p.slot).limit := by
    rw [triggered_slot, hlimit]
  have hrem : (s.triggered p b).chans.scan.remaining = (s.chan .scan).remaining - 1 :=
    congrArg Chan.remaining hchan
  have hpage : ((s.triggered p b).chan .scan).openPage = some p := by rw [hchan]; exact hp
  refine ⟨s.triggered p b, huA, huL, triggered_buf_self s p b, triggered_buf_other s p b,
    (triggered_sensor s p b).1, (triggered_sensor s p b).2, hchan, fun d => triggered_chan_of_ne s p b,
    triggered_page s p b, triggered_only s p b, fun h1 => ?_, fun h2 hat => ?_, fun h2 hbelow => ?_⟩
  · have h0 : (s.triggered p b).chans.scan.remaining = 0 := by omega
    rw [htrigger]
    dsimp only
    rw [if_pos h0]
    exact endIfDone_scan_of (by rw [hchan]; exact hr) (by rw [hchan]; exact hi) h0
  · have hne : (s.triggered p b).chans.scan.remaining ≠ 0 := by omega
    have hlim : (s.triggered p b).atLimit .scan = true :=
      (atLimit_iff .scan hpage).mpr (by rw [huA, huL, hat])
    rw [htrigger]
    dsimp only
    rw [if_neg hne, if_pos hlim, endAtLimit_of .scan hpage, huL]
    congr 2
    rw [hchan]
  · have hne : (s.triggered p b).chans.scan.remaining ≠ 0 := by omega
    have hlim : ¬(s.triggered p b).atLimit .scan = true :=
      fun h => hbelow (huA ▸ huL ▸ (atLimit_iff .scan hpage).mp h)
    rw [htrigger]
    dsimp only
    rw [if_neg hne, if_neg hlim]

end Sys2Proof.Machine
end

section
/-! PROOFS. LOAD TABLE: its checks, its acceptance, and when a table is busy (03 R72, R73; 04 R92;
06 R116, R117; 10 R183). -/

namespace Sys2Proof.Machine

/-! ## The rows of LOAD TABLE and their selectors (10 R183; log 25) -/

/-- The selectors that the row of a table answers: those of its kind, and those that name no table. -/
def Table.takes (t : Table) (n : Nat) : Bool :=
  match t with
  | .shading _ => decide (n < 4) || decide (11 < n)
  | .tone _ => decide (n < 4) || decide (11 < n)
  | .strobe => n == 4 || decide (11 < n)
  | .ramp _ => (decide (5 ≤ n) && decide (n ≤ 8)) || decide (11 < n)
  | .phase _ => decide (9 ≤ n)

theorem takes_of_tableOf {n : Nat} {t : Table} (h : tableOf n = some t) : t.takes n = true := by
  unfold tableOf at h
  split at h <;> cases h <;> rfl

theorem takes_of_gt (t : Table) {n : Nat} (h : 11 < n) : t.takes n = true := by
  cases t with
  | phase m => exact decide_eq_true (by omega)
  | _ => simp [Table.takes, h]

theorem tableOf_of_gt {n : Nat} (h : 11 < n) : tableOf n = none := by
  obtain ⟨k, rfl⟩ := Nat.exists_eq_add_of_le' h
  rfl

/-- LOAD TABLE in hand is answered by the row of its table. -/
theorem exec_loadTable {s : State} {bs : List Byte} {t : Table} (h : InHand s 8 bs)
    (ht : t.takes (wordAt bs 4) = true) : exec t.row s = .next (State.settle s.loadCommand) := by
  cases t with
  | shading b => exact runIf_of ((cmdIs_of_inHand h _).trans ht) s _
  | tone b => exact runIf_of ((cmdIs_of_inHand h _).trans ht) s _
  | strobe => exact runIf_of ((cmdIs_of_inHand h _).trans ht) s _
  | ramp n => exact runIf_of ((cmdIs_of_inHand h _).trans ht) s _
  | phase m => exact runIf_of ((cmdIs_of_inHand h _).trans ht) s _

/-! ## The checks in their order, and the acceptance (03 R73, 08 R159) -/

section
variable {s : State} {bs : List Byte} {t : Table} (h : s.cmdBytes = bs)
include h

theorem loadCommand_badTarget (ht : 11 < wordAt bs 4) : s.loadCommand = s.refuse .badTarget := by
  subst h
  simp only [State.loadCommand, tableOf_of_gt ht]

variable (ht : tableOf (wordAt bs 4) = some t)
include ht

theorem loadCommand_badRange (hr : t.rangeOk (wordAt bs 6) (wordAt bs 8) = false) :
    s.loadCommand = s.refuse .badRange := by
  subst h
  simp only [State.loadCommand, ht, hr, Bool.not_false, if_true]

variable (hr : t.rangeOk (wordAt bs 6) (wordAt bs 8) = true)
include hr

theorem loadCommand_badAddress
    (ha : s.page.geo.goodSource (dwordAt bs 10) (2 * t.entryWords * wordAt bs 8) = false) :
    s.loadCommand = s.refuse .badAddress := by
  subst h
  simp only [State.loadCommand, ht, hr, ha, Bool.not_true, Bool.not_false, Bool.false_eq_true, if_false,
    if_true]

variable (ha : s.page.geo.goodSource (dwordAt bs 10) (2 * t.entryWords * wordAt bs 8) = true)
include ha

theorem loadCommand_tableBusy (hb : s.tableBusy t = true) :
    s.loadCommand = s.refuse .tableBusy := by
  subst h
  simp only [State.loadCommand, ht, hr, ha, hb, Bool.not_true, Bool.false_eq_true, if_false, if_true]

theorem loadCommand_accepted (hb : s.tableBusy t = false) :
    s.loadCommand = (s.leaveDoze 8).startWork
      (.load
        { table := t, first := wordAt bs 6, count := wordAt bs 8, source := dwordAt bs 10
          got := 0, clamped := 0 }) := by
  subst h
  simp only [State.loadCommand, ht, hr, ha, hb, Bool.not_true, Bool.false_eq_true, if_false]

end

/-- Work that begins behind the end of DOZE: its record, RUN with RESUMED, and nothing else. -/
theorem leaveDoze_startWork (s : State) (k : Nat) (w : Work) :
    let e := (s.leaveDoze k).startWork w
    e.recUnit = { s.recUnit with work := some w } ∧
      e.power = { s.power with
        state := if s.power.state = .doze then .run else s.power.state } ∧
      e.sensor =
        (if s.power.state = .doze then (s.raise 22 .resumed (.word k)).sensor else s.sensor) ∧
      e = { s with recUnit := e.recUnit, power := e.power, sensor := e.sensor } := by
  refine ⟨?_, leaveDoze_power s k, leaveDoze_sensor s k, ?_⟩
  · simp only [State.startWork, leaveDoze_recUnit]
  · rw [State.startWork, leaveDoze_only]

/-! ## The ranges and the busy tables (03 R72, R73; 04 R92; 06 R116, R117) -/

theorem rangeOk_shading (b : Bool) (f c : Nat) :
    (Table.shading b).rangeOk f c = true ↔ 1 ≤ c ∧ f + c ≤ 1728 := by simp [Table.rangeOk]

theorem rangeOk_tone (b : Bool) (f c : Nat) :
    (Table.tone b).rangeOk f c = true ↔ 1 ≤ c ∧ f + c ≤ 256 := by simp [Table.rangeOk]

theorem rangeOk_strobe (f c : Nat) : Table.strobe.rangeOk f c = true ↔ 1 ≤ c ∧ f + c ≤ 8 := by
  simp [Table.rangeOk]

theorem rangeOk_ramp (n : Fin 4) (f c : Nat) :
    (Table.ramp n).rangeOk f c = true ↔ f = 0 ∧ 2 ≤ c ∧ c ≤ 64 := by simp [Table.rangeOk, and_assoc]

theorem rangeOk_phase (m : MotorId) (f c : Nat) :
    (Table.phase m).rangeOk f c = true ↔ f = 0 ∧ (c = 4 ∨ c = 8) := by simp [Table.rangeOk]

section
variable (s : State)

theorem bankInUse_iff (t : Table) : s.bankInUse t = true ↔
    ((s.chan .scan).state ≠ .idle ∧ (s.chan .scan).sel.names t = true) ∨
      (s.scan.bufA.state ≠ .free ∧ s.scan.bufA.sel.names t = true) ∨
      (s.scan.bufB.state ≠ .free ∧ s.scan.bufB.sel.names t = true) := by
  simp only [State.bankInUse, Bool.or_eq_true, Bool.and_eq_true, bne_iff_ne, or_assoc, chan_scan]

theorem names_shading (x : Selection) (b : Bool) :
    x.names (.shading b) = true ↔ x.shadingB = b := beq_iff_eq

theorem names_tone (x : Selection) (b : Bool) : x.names (.tone b) = true ↔ x.toneB = b := beq_iff_eq

theorem moving_iff (x : Motor) : x.moving = true ↔ x.state = .moving := beq_iff_eq

/-- The ramp of a motor is that of its host move, else that of its link. -/
theorem rampUsed_iff (x : Motor) (n : Fin 4) : x.rampUsed = some n ↔
    (∃ v, x.move = some v ∧ v.ramp = n) ∨
      (x.move = none ∧ ∃ l, x.link = some l ∧ l.ramp = n) := by
  unfold Motor.rampUsed
  cases x.move <;> simp

theorem rampInUse_iff (n : Fin 4) : s.rampInUse n = true ↔
    ∃ m, (s.motor m).state = .moving ∧
      ((∃ v, (s.motor m).move = some v ∧ v.ramp = n) ∨
        ((s.motor m).move = none ∧ ∃ l, (s.motor m).link = some l ∧ l.ramp = n)) := by
  have hall (m : MotorId) : m ∈ allMotors := by cases m <;> decide
  simp only [State.rampInUse, List.any_eq_true, hall, true_and, Bool.and_eq_true, beq_iff_eq, moving_iff,
    rampUsed_iff]

end

/-- Settles O29: the checks of LOAD TABLE in their order, its acceptance, the ranges and the busy tables. -/
theorem loadTableIsCheckedAndAccepted : Obligations.LoadTableIsCheckedAndAccepted := by
  refine ⟨fun s bs t hin ht => ?_, fun s bs t hin hn => ?_,
    fun b f c => ⟨rangeOk_shading b f c, rangeOk_tone b f c⟩, rangeOk_strobe, rangeOk_ramp,
    rangeOk_phase, fun s => ⟨fun b => ?_, fun b => ?_, rfl, rampInUse_iff s, fun m => moving_iff _⟩⟩
  · have hc := cmdBytes_of_inHand hin
    rw [exec_loadTable hin (takes_of_tableOf ht)]
    refine ⟨fun hr => ?_, fun hr ha => ?_, fun hr ha hb => ?_, fun hr ha hb => ?_⟩
    · rw [loadCommand_badRange hc ht hr]
    · rw [loadCommand_badAddress hc ht hr ha]
    · rw [loadCommand_tableBusy hc ht hr ha hb]
    · rw [loadCommand_accepted hc ht hr ha hb]
      exact ⟨_, rfl, leaveDoze_startWork s 8 _⟩
  · rw [exec_loadTable hin (takes_of_gt t hn), loadCommand_badTarget (cmdBytes_of_inHand hin) hn]
  · exact (bankInUse_iff s (.shading b)).trans (by simp only [names_shading])
  · exact (bankInUse_iff s (.tone b)).trans (by simp only [names_tone])

end Sys2Proof.Machine
end

section
/-! PROOFS. The ends of the bursts that carry scan and strobe tables (03 R74, R75; 04 R92). -/

namespace Sys2Proof.Machine

/-! ## The words and entries of a burst (03 R74) -/

/-- A burst that was not suspended has carried the words that stand at its source. -/
theorem burstData_of_whole {s : State} (a n : Nat) (hd : s.port.done = 0)
    (hp : s.port.partialData = []) :
    s.burstData (.tableBurst a n) = wordsOf (Memory.readBytes s.mem a (2 * n)) := by
  simp only [State.burstData, State.endBurst, State.passWords, State.writeData, State.wordsLeft,
    Job.burstWords, Job.burstAddr, hd, hp, Option.getD_some, Nat.mul_zero, Nat.add_zero, Nat.sub_zero,
    List.nil_append]

theorem clampShading_eq (p : Nat × Nat) :
    clampShading p = (min 255 p.1, max 256 (min 1023 p.2)) := by
  simp only [clampShading, clamp, Nat.zero_max]

theorem clamp_tone (v : Nat) : clamp 0 255 v = min 255 v := Nat.zero_max _

/-- The clamp changes the tone entries above 255. -/
theorem changedBy_tone (ws : List Nat) :
    changedBy (clamp 0 255) ws = (ws.filter fun v => 255 < v).length := by
  unfold changedBy
  refine congrArg List.length (List.filter_congr fun v _ => decide_eq_decide.mpr ?_)
  rw [clamp_tone]
  omega

theorem setRun_map {α β : Type} (t : List α) (i : Nat) (f : β → α) (es : List β) :
    setRun t i (es.map f) = t.take i ++ es.map f ++ t.drop (i + es.length) := by
  rw [setRun, List.length_map]

/-! ## The banks (03 R72) -/

/-- The scan path with a shading bank replaced. -/
def ScanPath.setShading (x : ScanPath) (b : Bool) (t : List (Nat × Nat)) : ScanPath :=
  if b then { x with shadingB := t } else { x with shadingA := t }

/-- The scan path with a tone bank replaced. -/
def ScanPath.setTone (x : ScanPath) (b : Bool) (t : List Nat) : ScanPath :=
  if b then { x with toneB := t } else { x with toneA := t }

theorem setShading_bufs (x : ScanPath) (b : Bool) (t : List (Nat × Nat)) :
    (x.setShading b t).bufA = x.bufA ∧ (x.setShading b t).bufB = x.bufB := by
  cases b <;> exact ⟨rfl, rfl⟩

theorem setTone_bufs (x : ScanPath) (b : Bool) (t : List Nat) :
    (x.setTone b t).bufA = x.bufA ∧ (x.setTone b t).bufB = x.bufB := by
  cases b <;> exact ⟨rfl, rfl⟩

theorem fillScan_shading (s : State) (b : Bool) (i : Nat) (ws : List Nat) :
    s.fillScan (.shading b) i ws =
      { s with
        scan := s.scan.setShading b
            (setRun (if b then s.scan.shadingB else s.scan.shadingA) i
              ((pairsOf ws).map clampShading)) } := by
  cases b <;> rfl

theorem fillScan_tone (s : State) (b : Bool) (i : Nat) (ws : List Nat) :
    s.fillScan (.tone b) i ws =
      { s with
        scan := s.scan.setTone b
            (setRun (if b then s.scan.toneB else s.scan.toneA) i (ws.map (clamp 0 255))) } := by
  cases b <;> rfl

/-! ## Scan's wait for a table (03 R75, 02 R42) -/

section
variable {s t : State}

theorem setChan_setChan (s : State) (ch : Channel) (c d : Chan) :
    (s.setChan ch c).setChan ch d = s.setChan ch d := by cases ch <;> rfl

/-- A channel in WAIT_TABLE is about to execute no entry, so none of its entries gives a fault. -/
theorem faultStands_of_waiting_table {ch : Channel} (h : (s.chan ch).state = .waiting .table) :
    s.faultStands ch = false := by
  have hturn : s.atTurn ch = none := by
    unfold State.atTurn
    dsimp only
    split
    · exact if_neg (by simp [h])
    · rfl
  simp only [State.faultStands, hturn, Option.any_none]

/-- Scan's boundary in WAIT_TABLE looks at its context, the line buffers and the motors alone. -/
theorem boundaryDue_scan_congr (hc : t.chans = s.chans) (hA : t.scan.bufA = s.scan.bufA)
    (hB : t.scan.bufB = s.scan.bufB) (hm : t.motors = s.motors)
    (hw : (s.chan .scan).state = .waiting .table) : t.boundaryDue .scan = s.boundaryDue .scan := by
  have hchan : t.chan .scan = s.chan .scan := congrArg Chans.scan hc
  have hfault : t.faultStands .scan = s.faultStands .scan := by
    rw [faultStands_of_waiting_table hw, faultStands_of_waiting_table (by rw [hchan, hw])]
  have hquiet : t.scanQuiet = s.scanQuiet := by simp only [State.scanQuiet, hA, hB]
  have hat (abort : Bool) : t.atBoundary .scan abort = s.atBoundary .scan abort := by
    simp only [State.atBoundary, hquiet, hm, hc]
  simp only [State.boundaryDue, hchan, hfault, hat]

theorem select_of_not_lines {ch : Channel} (x : Selection) (h : (s.chan ch).atLines = false) :
    s.select ch x = s.setChan ch
      (Chan.shift { s.chan ch with state := .running, sel := x } s.page.geo) := by
  have hlines : ((s.setChan ch { s.chan ch with state := .running, sel := x }).chan ch).atLines =
      false := by rw [chan_setChan_self]; exact h
  rw [State.select, endEntry_of_not_lines hlines, chan_setChan_self, setChan_setChan, setChan_page]

/-- What Scan waits for in WAIT_TABLE is the selection of the SET PROCESSING that is current. -/
theorem tableAwaited_some {x : Selection} (h : s.tableAwaited = some x) :
    (s.chan .scan).state = .waiting .table ∧ (s.chan .scan).atLines = false := by
  unfold State.tableAwaited at h
  split at h
  · rename_i sb tb mode th hcur
    split at h
    · rename_i hwait
      obtain ⟨e, he, hentry⟩ := Option.map_eq_some_iff.mp hcur
      have hw : s.waitsFor .scan .table = true := hwait.1
      simp only [State.waitsFor, Bool.and_eq_true, beq_iff_eq] at hw
      exact ⟨hw.1, by rw [Chan.atLines, he, Option.any_some, hentry]; rfl⟩
    · cases h
  · cases h

theorem tableAwaited_of_atWait {sb tb : Bool} {mode th : Nat}
    (h : AtWait s .scan .table (.setProcessing sb tb mode th)) (hw : s.recUnit.work = none) :
    s.tableAwaited =
      some { shadingB := sb, toneB := tb, diffuse := decide (mode = 1), threshold := th } := by
  have hload : s.bankLoading sb tb = false := by simp only [State.bankLoading, hw]
  simp only [State.tableAwaited, currentEntry_of_atWait h]
  exact if_pos ⟨waitsFor_of_atWait h, hload⟩

theorem endTableWait_of_atWait {sb tb : Bool} {mode th : Nat}
    (h : AtWait s .scan .table (.setProcessing sb tb mode th)) (hw : s.recUnit.work = none) :
    s.endTableWait.chan .scan = Chan.shift
      { s.chan .scan with
        state := .running
        sel := { shadingB := sb, toneB := tb, diffuse := decide (mode = 1), threshold := th } }
      s.page.geo := by
  simp only [State.endTableWait, tableAwaited_of_atWait h hw]
  rw [select_of_not_lines _ (atLines_of_atWait h), chan_setChan_self]

theorem endTableWait_of_not_waiting (h : (s.chan .scan).state ≠ .waiting .table) :
    s.endTableWait = s := by
  unfold State.endTableWait
  split
  · rename_i x hx
    exact absurd (tableAwaited_some hx).1 h
  · rfl

/-- The end of the wait replaces Scan's context, if anything. -/
theorem endTableWait_setChan (s : State) : ∃ c, s.endTableWait = s.setChan .scan c := by
  unfold State.endTableWait
  split
  · rename_i x hx
    exact ⟨_, select_of_not_lines x (tableAwaited_some hx).2⟩
  · exact ⟨s.chan .scan, (setChan_chan s .scan).symm⟩

end

/-! ## A load goes on or completes (03 R74, R75) -/

section
variable (s : State) (l : Load)

theorem loadOn_of_lt (h : l.got < l.count) : s.loadOn l = s.startWork (.load l) :=
  if_neg (Nat.not_le.mpr h)

theorem loadOn_of_le (h : l.count ≤ l.got) :
    s.loadOn l = (s.complete .done [l.got, l.clamped]).endTableWait := if_pos h

/-- A completion behind the end of a burst is that of the state before it. -/
theorem complete_recUnit_of_release (x : ScanPath) (y : PrintPath) (z : MotorUnit) (c : ResultCode)
    (r : List Nat) :
    (State.complete { s.releasePort with scan := x, print := y, motors := z } c r).recUnit =
      (s.complete c r).recUnit :=
  complete_recUnit_congr (releasePort_recUnit s)
    (by simp only [State.ringFull, releasePort_recUnit, releasePort_page, releasePort_host]) c r

variable {s} in
/-- The completion of a load that replaces a bank leaves Scan in the wait it was in. -/
theorem atWait_of_filled {x : ScanPath} (hA : x.bufA = s.scan.bufA) (hB : x.bufB = s.scan.bufB)
    (c : ResultCode) (r : List Nat) {e : Entry} (h : AtWait s .scan .table e) :
    AtWait (State.complete { s.releasePort with scan := x } c r) .scan .table e := by
  have hchans : (State.complete { s.releasePort with scan := x } c r).chans = s.chans :=
    releasePort_chans s
  obtain ⟨hcur, hstate, hdue⟩ := h
  have hchan : (State.complete { s.releasePort with scan := x } c r).chan .scan = s.chan .scan :=
    congrArg Chans.scan hchans
  unfold AtWait
  rw [hchan]
  refine ⟨hcur, hstate, ?_⟩
  rw [← hdue]
  exact boundaryDue_scan_congr hchans hA hB (releasePort_motors s) hstate

/-- The state behind a burst of a scan table: the bank replaced, and the load going on or complete, with the
end of Scan's wait for it. -/
theorem loadOn_filled {x : ScanPath} (hA : x.bufA = s.scan.bufA) (hB : x.bufB = s.scan.bufB) :
    let e := State.loadOn { s.releasePort with scan := x } l
    e.scan = x ∧
      (l.got < l.count → e.recUnit.work = some (.load l) ∧ e.chans = s.chans) ∧
      (l.count ≤ l.got →
        e.recUnit = (s.complete .done [l.got, l.clamped]).recUnit ∧
          (∀ sb tb mode th, AtWait s .scan .table (.setProcessing sb tb mode th) →
            e.chan .scan = Chan.shift
              { s.chan .scan with
                state := .running
                sel :=
                  { shadingB := sb, toneB := tb, diffuse := decide (mode = 1), threshold := th } }
              s.page.geo) ∧
          ((s.chan .scan).state ≠ .waiting .table → e.chan .scan = s.chan .scan)) ∧
      (∀ d, d ≠ .scan → e.chan d = s.chan d) ∧
      e = { s.releasePort with scan := e.scan, recUnit := e.recUnit, chans := e.chans } := by
  intro e
  rcases Nat.lt_or_ge l.got l.count with hlt | hle
  · have he : e = { s.releasePort with
        scan := x, recUnit := { s.releasePort.recUnit with work := some (.load l) } } :=
      loadOn_of_lt _ l hlt
    rw [he]
    exact ⟨rfl, fun _ => ⟨rfl, releasePort_chans s⟩, fun hle => absurd hle (Nat.not_le.mpr hlt),
      fun d _ => releasePort_chan s d, rfl⟩
  · have he : e = (State.complete { s.releasePort with scan := x } .done [l.got, l.clamped]).endTableWait :=
      loadOn_of_le _ l hle
    have hrec : (State.complete { s.releasePort with scan := x } .done [l.got, l.clamped]).recUnit =
        (s.complete .done [l.got, l.clamped]).recUnit :=
      complete_recUnit_of_release s x s.releasePort.print s.releasePort.motors _ _
    have hchan (d : Channel) :
        (State.complete { s.releasePort with scan := x } .done [l.got, l.clamped]).chan d = s.chan d :=
      releasePort_chan s d
    have hpage : (State.complete { s.releasePort with scan := x } .done [l.got, l.clamped]).page =
        s.page := releasePort_page s
    have hwait (sb tb mode th) (h : AtWait s .scan .table (.setProcessing sb tb mode th)) :=
      endTableWait_of_atWait (atWait_of_filled hA hB .done [l.got, l.clamped] h) rfl
    have hstay := endTableWait_of_not_waiting
      (s := State.complete { s.releasePort with scan := x } .done [l.got, l.clamped])
    rw [hchan] at hstay
    simp only [hchan, hpage] at hwait
    obtain ⟨c, hc⟩ := endTableWait_setChan
      (State.complete { s.releasePort with scan := x } .done [l.got, l.clamped])
    rw [he]
    refine ⟨by rw [hc]; rfl, fun hlt => absurd hle (Nat.not_le.mpr hlt),
      fun _ => ⟨by rw [hc, setChan_recUnit, hrec], hwait, fun h => by rw [hstay h, hchan]⟩,
      fun d hd => by rw [hc, chan_setChan_of_ne _ _ hd, hchan], by rw [hc]; rfl⟩

end

/-! ## SCAN_TABLE_BURST_END and STROBE_LOAD_END (03 R74, 04 R92) -/

section
variable {s : State} {l : Load} {a n : Nat} (hw : s.recUnit.work = some (.load l))
  (hb : s.port.busy = some (.tableBurst a n))
include hw hb

theorem exec_scanTableBurstEnd_shading {b : Bool} (ht : l.table = .shading b) :
    exec .scanTableBurstEnd s = .next (State.settle
      ((s.releasePort.fillScan (.shading b) (l.first + l.got) (s.burstData (.tableBurst a n))).loadOn
        { l with
          got := l.got + (pairsOf (s.burstData (.tableBurst a n))).length
          clamped :=
            l.clamped + changedBy clampShading (pairsOf (s.burstData (.tableBurst a n))) })) := by
  change execScanTableBurstEnd s = _
  simp only [execScanTableBurstEnd, hw, hb, ht, scanCounts]
  exact runIf_of rfl s _

theorem exec_scanTableBurstEnd_tone {b : Bool} (ht : l.table = .tone b) :
    exec .scanTableBurstEnd s = .next (State.settle
      ((s.releasePort.fillScan (.tone b) (l.first + l.got) (s.burstData (.tableBurst a n))).loadOn
        { l with
          got := l.got + (s.burstData (.tableBurst a n)).length
          clamped := l.clamped + changedBy (clamp 0 255) (s.burstData (.tableBurst a n)) })) := by
  change execScanTableBurstEnd s = _
  simp only [execScanTableBurstEnd, hw, hb, ht, scanCounts]
  exact runIf_of rfl s _

theorem exec_strobeLoadEnd (ht : l.table = .strobe) :
    exec .strobeLoadEnd s = .next (State.settle
      (State.complete
        { s.releasePort with print :=
            { s.releasePort.print with
              strobe := setRun s.releasePort.print.strobe l.first
                ((s.burstData (.tableBurst a n)).map (clamp 50 4000)) } }
        .done [(s.burstData (.tableBurst a n)).length,
          changedBy (clamp 50 4000) (s.burstData (.tableBurst a n))])) := by
  change execStrobeLoadEnd s = _
  simp only [execStrobeLoadEnd, hw, hb]
  exact runIf_of (by simp [ht]) s _

end

end Sys2Proof.Machine
end

section
/-! PROOFS. The ends of the loads of a ramp and of a phase table (06 R116, R117, R122; 04 R85). -/

namespace Sys2Proof.Machine

/-! ## The first interval above the one before it (06 R116) -/

theorem firstRise_of_lt {a b : Nat} (k : Nat) (rest : List Nat) (h : a < b) :
    firstRise k (a :: b :: rest) = some (k + 1) := if_pos h

theorem firstRise_of_le {a b : Nat} (k : Nat) (rest : List Nat) (h : b ≤ a) :
    firstRise k (a :: b :: rest) = firstRise (k + 1) (b :: rest) := if_neg (Nat.not_lt.mpr h)

/-- No interval up to place `j` lies above the one before it. -/
def FallsTo (t : List Nat) (j : Nat) : Prop := ∀ m, 1 ≤ m → m < j → t.getD m 0 ≤ t.getD (m - 1) 0

theorem fallsTo_cons {a b : Nat} {rest : List Nat} {j : Nat} (h : b ≤ a)
    (hf : FallsTo (b :: rest) j) : FallsTo (a :: b :: rest) (j + 1) := by
  intro m h1 hm
  match m, h1, hm with
  | 1, _, _ => exact h
  | m + 2, _, hm => exact hf (m + 1) (Nat.succ_pos m) (Nat.lt_of_succ_lt_succ hm)

theorem firstRise_some {t : List Nat} {k i : Nat} (h : firstRise k t = some i) :
    ∃ j, i = k + j ∧ 1 ≤ j ∧ t.getD (j - 1) 0 < t.getD j 0 ∧ j < t.length ∧ FallsTo t j := by
  induction t generalizing k with
  | nil => cases h
  | cons a rest ih =>
    cases rest with
    | nil => cases h
    | cons b rest =>
      rcases Nat.lt_or_ge a b with hlt | hle
      · rw [firstRise_of_lt k rest hlt] at h
        cases h
        exact ⟨1, rfl, Nat.le_refl 1, hlt, by simp, fun m h1 hm => absurd h1 (Nat.not_le.mpr hm)⟩
      · rw [firstRise_of_le k rest hle] at h
        obtain ⟨j, hi, h1, hrise, hj, hf⟩ := ih h
        obtain ⟨m, rfl⟩ := Nat.exists_eq_add_of_le' h1
        exact ⟨m + 1 + 1, by omega, Nat.succ_pos _, hrise, Nat.succ_lt_succ hj, fallsTo_cons hle hf⟩

theorem firstRise_none {t : List Nat} {k : Nat} (h : firstRise k t = none) : FallsTo t t.length := by
  induction t generalizing k with
  | nil => exact fun m _ hm => absurd hm (Nat.not_lt_zero m)
  | cons a rest ih =>
    cases rest with
    | nil => exact fun m h1 hm => absurd h1 (Nat.not_le.mpr hm)
    | cons b rest =>
      rcases Nat.lt_or_ge a b with hlt | hle
      · rw [firstRise_of_lt k rest hlt] at h
        cases h
      · rw [firstRise_of_le k rest hle] at h
        exact fallsTo_cons hle (ih h)

/-! ## What a replaced ramp does to links and copies (06 R116, R122; 04 R85) -/

/-- The motor unit with a ramp replaced and its links within it, before the caps of the copies. -/
def State.relinked (s : State) (n : Fin 4) (t : List Nat) : State :=
  { s with motors :=
      { s.motors with
        m0 := { s.motors.m0 with link := s.motors.m0.link.map (relink n t (some s.scan.tLine)) }
        m1 := { s.motors.m1 with link := s.motors.m1.link.map (relink n t none) }
        ramps := s.motors.ramps.set n.val t n.isLt } }

/-- A queued copy after a ramp has been replaced: its cap afresh while its burn has not ended, where Print's
link names the ramp. -/
def State.recapped (s : State) (n : Fin 4) (c : Copy) : Copy :=
  if (s.motors.m1.link.any fun l => l.ramp == n) = true ∧ c.ended = false then
    { c with cap := s.printCap c.burn }
  else c

section
variable (s : State) (n : Fin 4) (t : List Nat)

theorem replaceRamp_eq : s.replaceRamp n t = (s.relinked n t).recap n := rfl

theorem recap_eq : s.recap n =
    { s with print := { s.print with queue := s.print.queue.map (s.recapped n) } } := by
  unfold State.recap
  split
  · rename_i h
    have hmap : (fun c : Copy => if c.ended then c else { c with cap := s.printCap c.burn }) =
        s.recapped n := by
      funext c
      unfold State.recapped
      by_cases hc : c.ended = true
      · rw [if_pos hc, if_neg fun hn => Bool.false_ne_true (hn.2.symm.trans hc)]
      · rw [if_neg hc, if_pos ⟨h, eq_false_of_ne_true hc⟩]
    rw [hmap]
  · rename_i h
    have hid : s.recapped n = id := by
      funext c
      exact if_neg fun hn => h hn.1
    rw [hid, List.map_id]

theorem recapped_but (c : Copy) : s.recapped n c = { c with cap := (s.recapped n c).cap } := by
  unfold State.recapped
  split <;> rfl

theorem recapped_of_ended {c : Copy} (h : c.ended = true) : s.recapped n c = c :=
  if_neg fun hn => Bool.false_ne_true (hn.2.symm.trans h)

variable {s n t}

theorem relink_of_eq (tLine : Option Nat) {l : Link} (h : l.ramp = n) :
    relink n t tLine l =
      { l with
        top := min l.top (t.length - 1)
        kLine := tLine.elim l.kLine (lineCap t l.spl) } := if_pos h

theorem relink_of_ne (tLine : Option Nat) {l : Link} (h : l.ramp ≠ n) : relink n t tLine l = l :=
  if_neg h

theorem relink_ramp (tLine : Option Nat) (l : Link) : (relink n t tLine l).ramp = l.ramp := by
  unfold relink
  split <;> rfl

theorem relink_spl (tLine : Option Nat) (l : Link) : (relink n t tLine l).spl = l.spl := by
  unfold relink
  split <;> rfl

theorem relinked_link (l : Link) (h : s.motors.m1.link = some l) :
    (s.relinked n t).motors.m1.link = some (relink n t none l) := by
  simp only [State.relinked, h, Option.map_some]

/-- The cap of a copy is that of the new ramp, at the steps per line of Print's link. -/
theorem recapped_cap {l : Link} {c : Copy} (h : s.motors.m1.link = some l) (hr : l.ramp = n)
    (hc : c.ended = false) : ((s.relinked n t).recapped n c).cap = capOf t l.spl c.burn := by
  have hlink := relinked_link (n := n) (t := t) l h
  have hramp : (s.relinked n t).ramp n = t := ramp_setRamp_self s n t
  have hany : ((s.relinked n t).motors.m1.link.any fun l => l.ramp == n) = true := by
    rw [hlink, Option.any_some, relink_ramp, hr]
    exact beq_self_eq_true n
  rw [State.recapped, if_pos ⟨hany, hc⟩]
  simp only [State.printCap, hlink, Option.bind_some, relink_ramp, relink_spl, hr, hramp]

theorem recapped_of_other_ramp {c : Copy}
    (h : ∀ l : Link, s.motors.m1.link = some l → l.ramp ≠ n) :
    (s.relinked n t).recapped n c = c := by
  refine if_neg fun hn => ?_
  obtain ⟨l, hl, hr⟩ := (Option.any_eq_true _ _).mp hn.1
  obtain ⟨l', hl', rfl⟩ := Option.map_eq_some_iff.mp hl
  rw [relink_ramp, beq_iff_eq] at hr
  exact h l' hl' hr

/-- A link of a scan or print motor keeps what does not depend on the ramp. -/
theorem relinked_motor_link {m : MotorId} {l : Link} (hl : (s.motor m).link = some l) (hm : m ≠ .m2) :
    (l.ramp = n →
      ∃ y : Link, ((s.relinked n t).motor m).link = some y ∧ y.spl = l.spl ∧ y.ramp = n ∧
        y.top = min l.top (t.length - 1) ∧
        y.kLine = if m = .m0 then lineCap t l.spl s.scan.tLine else l.kLine) ∧
      (l.ramp ≠ n → ((s.relinked n t).motor m).link = some l) := by
  have key (tLine : Option Nat) (k : Nat) (hk : tLine.elim l.kLine (lineCap t l.spl) = k)
      (hlink : ((s.relinked n t).motor m).link = some (relink n t tLine l)) :
      (l.ramp = n →
        ∃ y : Link, ((s.relinked n t).motor m).link = some y ∧ y.spl = l.spl ∧ y.ramp = n ∧
          y.top = min l.top (t.length - 1) ∧ y.kLine = k) ∧
        (l.ramp ≠ n → ((s.relinked n t).motor m).link = some l) := by
    refine ⟨fun hr => ⟨_, hlink, relink_spl tLine l, (relink_ramp tLine l).trans hr, ?_, ?_⟩,
      fun hr => by rw [hlink, relink_of_ne tLine hr]⟩
    · rw [relink_of_eq tLine hr]
    · rw [relink_of_eq tLine hr, hk]
  cases m with
  | m0 =>
    exact key (some s.scan.tLine) _ rfl (congrArg (Option.map (relink n t (some s.scan.tLine))) hl)
  | m1 => exact key none _ rfl (congrArg (Option.map (relink n t none)) hl)
  | m2 => exact absurd rfl hm

theorem relinked_motor_but (m : MotorId) :
    (s.relinked n t).motor m = { s.motor m with link := ((s.relinked n t).motor m).link } := by
  cases m <;> rfl

end

/-! ## RAMP_LOAD_END and PHASE_LOAD_END (06 R116, R117) -/

section
variable {s : State} {l : Load} {a n : Nat} (hw : s.recUnit.work = some (.load l))
  (hb : s.port.busy = some (.tableBurst a n))
include hw hb

theorem exec_rampLoadEnd_of_rise {r : Fin 4} {i : Nat} (ht : l.table = .ramp r)
    (hi : firstRise 0 ((s.burstData (.tableBurst a n)).map (clamp 25 32767)) = some i) :
    exec .rampLoadEnd s = .next (State.settle (s.releasePort.complete .tableInvalid [i])) := by
  change execRampLoadEnd s = _
  simp only [execRampLoadEnd, hw, hb, ht, hi]
  exact runIf_of rfl s _

theorem exec_rampLoadEnd_of_fall {r : Fin 4} (ht : l.table = .ramp r)
    (hi : firstRise 0 ((s.burstData (.tableBurst a n)).map (clamp 25 32767)) = none) :
    exec .rampLoadEnd s = .next (State.settle
      ((s.releasePort.replaceRamp r ((s.burstData (.tableBurst a n)).map (clamp 25 32767))).complete
        .done [((s.burstData (.tableBurst a n)).map (clamp 25 32767)).length,
          changedBy (clamp 25 32767) (s.burstData (.tableBurst a n))])) := by
  change execRampLoadEnd s = _
  simp only [execRampLoadEnd, hw, hb, ht, hi]
  exact runIf_of rfl s _

/-- The new phase table replaces the old one whole, the pointer taken modulo its length. -/
theorem exec_phaseLoadEnd {m : MotorId} (ht : l.table = .phase m) :
    exec .phaseLoadEnd s = .next (State.settle
      ((s.releasePort.setMotor m
        ((s.motor m).setPhases (phaseTableOf (s.burstData (.tableBurst a n)))
          (s.burstData (.tableBurst a n)).length)).complete .done
        [(s.burstData (.tableBurst a n)).length,
          changedBy (· % 16) (s.burstData (.tableBurst a n))])) := by
  change execPhaseLoadEnd s = _
  simp only [execPhaseLoadEnd, hw, hb, ht, releasePort_motor]
  exact runIf_of rfl s _

end

theorem phaseTableOf_eq (ws : List Nat) : phaseTableOf ws =
    if ws.length = 4 then ws.map (BitVec.ofNat 4) ++ ws.map (BitVec.ofNat 4)
    else ws.map (BitVec.ofNat 4) := by
  simp only [phaseTableOf, List.length_map]

/-- The state behind a load of a ramp whose intervals do not rise. -/
theorem replacedRamp_result (s : State) (r : Fin 4) (t : List Nat) (res : List Nat) :
    let e := (s.releasePort.replaceRamp r t).complete .done res
    e.ramp r = t ∧ (∀ q, q ≠ r → e.ramp q = s.ramp q) ∧
      (∀ m, ∀ x : Link, (s.motor m).link = some x → m ≠ .m2 →
        (x.ramp = r →
          ∃ y : Link, (e.motor m).link = some y ∧ y.spl = x.spl ∧ y.ramp = r ∧
            y.top = min x.top (t.length - 1) ∧
            y.kLine = if m = .m0 then lineCap t x.spl s.scan.tLine else x.kLine) ∧
        (x.ramp ≠ r → (e.motor m).link = some x)) ∧
      (∀ m, e.motor m = { s.motor m with link := (e.motor m).link }) ∧
      e.motors = { s.motors with
        m0 := e.motors.m0, m1 := e.motors.m1, ramps := e.motors.ramps } ∧
      e.print.queue.length = s.print.queue.length ∧
      (∀ (i : Nat) (c d : Copy), s.print.queue[i]? = some c → e.print.queue[i]? = some d →
        d = { c with cap := d.cap } ∧ (c.ended = true → d = c) ∧
          (∀ x : Link, s.motors.m1.link = some x → x.ramp = r → c.ended = false →
            d.cap = capOf t x.spl c.burn) ∧
          ((∀ x : Link, s.motors.m1.link = some x → x.ramp ≠ r) → d = c)) ∧
      e.recUnit = (s.complete .done res).recUnit ∧
      e = { s.releasePort with
        motors := e.motors
        print := { s.print with queue := e.print.queue }
        recUnit := e.recUnit } := by
  intro e
  have hmotors : e.motors = (s.relinked r t).motors := by
    simp only [e, complete_motors, replaceRamp_eq, recap_eq, State.relinked, releasePort_motors,
      releasePort_scan]
  have hmotor (m : MotorId) : e.motor m = (s.relinked r t).motor m := by
    simp only [State.motor, hmotors]
  have hramp (q : Fin 4) : e.ramp q = (s.setRamp r t).ramp q := by
    rw [State.ramp, hmotors]
    rfl
  have hprint : e.print = { s.print with
      queue := s.print.queue.map ((s.releasePort.relinked r t).recapped r) } := by
    have hp : (s.releasePort.relinked r t).print = s.print := releasePort_print s
    simp only [e, complete_print, replaceRamp_eq, recap_eq, hp]
  have hqueue : e.print.queue = s.print.queue.map ((s.releasePort.relinked r t).recapped r) :=
    congrArg PrintPath.queue hprint
  have hlink : s.releasePort.motors.m1.link = s.motors.m1.link := by rw [releasePort_motors]
  refine ⟨by rw [hramp, ramp_setRamp_self], fun q hq => by rw [hramp, ramp_setRamp_of_ne s t hq],
    fun m x hx hm => ?_, fun m => ?_, ?_, by rw [hqueue, List.length_map], fun i c d hc hd => ?_, ?_, ?_⟩
  · rw [hmotor]
    exact relinked_motor_link hx hm
  · rw [hmotor]
    exact relinked_motor_but m
  · rw [hmotors]
    rfl
  · rw [hqueue, List.getElem?_map, hc, Option.map_some, Option.some.injEq] at hd
    subst hd
    refine ⟨recapped_but _ r c, recapped_of_ended _ r, fun x hx hr hc => ?_, fun h => ?_⟩
    · exact recapped_cap (hlink.trans hx) hr hc
    · exact recapped_of_other_ramp fun x hx => h x (hlink.symm.trans hx)
  · refine complete_recUnit_congr (s := s.releasePort.replaceRamp r t) ?_ ?_ .done res
    · rw [replaceRamp_eq, recap_eq]
      exact releasePort_recUnit s
    · rw [replaceRamp_eq, recap_eq]
      simp only [State.ringFull, State.relinked, releasePort_recUnit, releasePort_page, releasePort_host]
  · have honly : e = State.complete
        { s.releasePort.relinked r t with print :=
            { (s.releasePort.relinked r t).print with
              queue := (s.releasePort.relinked r t).print.queue.map
                ((s.releasePort.relinked r t).recapped r) } } .done res := by
      simp only [e, replaceRamp_eq, recap_eq]
    rw [honly, ← releasePort_print s]
    rfl

/-- The state behind the load of the strobe table. -/
theorem strobe_result (s : State) (x : PrintPath) (res : List Nat) :
    let e := State.complete { s.releasePort with print := x } .done res
    e.print = x ∧ e.recUnit = (s.complete .done res).recUnit ∧
      e = { s.releasePort with print := e.print, recUnit := e.recUnit } :=
  ⟨rfl, complete_recUnit_of_release s s.releasePort.scan x s.releasePort.motors .done res, rfl⟩

/-- Settles O30: the runs of entries that scan and strobe bursts replace, and the ramp and phase tables that
are replaced whole, or not at all. -/
theorem loadedTablesReplaceTheirEntries : Obligations.LoadedTablesReplaceTheirEntries := by
  refine ⟨⟨fun s a n => burstData_of_whole a n, fun s l a n b hw hb ht => ?shading,
    fun s l a n b hw hb ht => ?tone, fun s l a n hw hb ht => ?strobe⟩,
    fun s l a n r hw hb ht => ⟨fun i hi => exec_rampLoadEnd_of_rise hw hb ht hi, fun hi =>
      ⟨_, exec_rampLoadEnd_of_fall hw hb ht hi, replacedRamp_result s r _ _⟩⟩,
    fun t i h => ?rise, fun t h => firstRise_none h, fun s l a n m hw hb ht => ?phase⟩
  case shading =>
    have hclamp : clampShading = fun p => (min 255 p.1, max 256 (min 1023 p.2)) :=
      funext clampShading_eq
    refine ⟨_, exec_scanTableBurstEnd_shading hw hb ht, ?_⟩
    rw [fillScan_shading, releasePort_scan, setRun_map, changedBy, hclamp]
    obtain ⟨hA, hB⟩ := setShading_bufs s.scan b _
    obtain ⟨hscan, hmore, hdone, hothers, honly⟩ := loadOn_filled s
      { l with
        got := l.got + (pairsOf (s.burstData (.tableBurst a n))).length
        clamped := _ } hA hB
    exact ⟨⟨hscan, hmore, hdone⟩, hothers, honly⟩
  case tone =>
    refine ⟨_, exec_scanTableBurstEnd_tone hw hb ht, ?_⟩
    rw [fillScan_tone, releasePort_scan, setRun_map, changedBy_tone,
      show clamp 0 255 = min 255 from funext clamp_tone]
    obtain ⟨hA, hB⟩ := setTone_bufs s.scan b _
    obtain ⟨hscan, hmore, hdone, hothers, honly⟩ := loadOn_filled s
      { l with
        got := l.got + (s.burstData (.tableBurst a n)).length
        clamped := _ } hA hB
    exact ⟨⟨hscan, hmore, hdone⟩, hothers, honly⟩
  case strobe =>
    refine ⟨_, exec_strobeLoadEnd hw hb ht, ?_⟩
    rw [releasePort_print, setRun_map]
    obtain ⟨hprint, hrec, honly⟩ := strobe_result s _ _
    exact ⟨⟨hprint, hrec⟩, honly⟩
  case rise =>
    obtain ⟨j, hj, h1, hrise, hlt, hf⟩ := firstRise_some h
    rw [hj, Nat.zero_add]
    exact ⟨h1, hrise, hlt, hf⟩
  case phase =>
    rw [exec_phaseLoadEnd hw hb ht, phaseTableOf_eq]
    rfl

end Sys2Proof.Machine
end

section
/-! PROOFS. The print queue: its room, the phases of a copy, and the burn of the head copy (04 R77 to R79, R82,
R86 to R88, R94). -/

namespace Sys2Proof.Machine

/-- Settles O5: copies enter the queue as a read was promised them, and a read is promised only copies that the
queue has room for. -/
theorem everyStepKeepsPrintQueueRoom : Obligations.EveryStepKeepsPrintQueueRoom :=
  fun s t hs ht => (step_carries s t ht).queue hs

/-! ## The phases of a copy (04 R82) -/

section
variable {d : Nat} {c : Counts}

theorem phasesOf_of_sum_le (h : c.c0 + c.c1 + c.c2 + c.c3 ≤ d) : phasesOf d c = 1 := if_pos h

theorem phasesOf_of_halves_le (h : d < c.c0 + c.c1 + c.c2 + c.c3)
    (hh : c.c0 + c.c1 ≤ d ∧ c.c2 + c.c3 ≤ d) : phasesOf d c = 2 :=
  (if_neg (Nat.not_le.mpr h)).trans (if_pos hh)

theorem phasesOf_of_half_gt (hh : ¬(c.c0 + c.c1 ≤ d ∧ c.c2 + c.c3 ≤ d)) : phasesOf d c = 4 :=
  have hsum : ¬c.c0 + c.c1 + c.c2 + c.c3 ≤ d := by omega
  (if_neg hsum).trans (if_neg hh)

/-- A section above Dmax makes its half exceed it. -/
theorem phasesOf_of_section_gt (h : d < c.c0 ∨ d < c.c1 ∨ d < c.c2 ∨ d < c.c3) : phasesOf d c = 4 :=
  phasesOf_of_half_gt (by omega)

end

/-- Settles O15: the three cases of the rule, the section above Dmax falling under the last, and the four full
sections at the largest Dmax and the blank line under the first. -/
theorem phasesFollowTheCounts : Obligations.PhasesFollowTheCounts :=
  ⟨fun _ _ _ _ => rfl, fun _ _ => phasesOf_of_sum_le, fun _ _ h h01 h23 => phasesOf_of_halves_le h ⟨h01, h23⟩,
    fun _ _ _ => phasesOf_of_half_gt, fun _ _ => phasesOf_of_section_gt,
    fun _ _ _ _ _ => phasesOf_of_sum_le (by omega), fun d => phasesOf_of_sum_le (Nat.zero_le d)⟩

/-! ## The shift of the head copy (04 R86) -/

theorem length_unpackDots (bytes : List Byte) : (unpackDots bytes).length = 8 * bytes.length := by
  induction bytes with
  | nil => rfl
  | cons b rest ih =>
    simp only [unpackDots, List.length_cons, ih]
    omega

/-- Dot `x` of a run of bytes is bit `7 - x % 8` of byte `x / 8`. -/
theorem unpackDots_getElem? {bytes : List Byte} {x : Nat} (h : x < 8 * bytes.length) :
    (unpackDots bytes)[x]? = some ((bytes.getD (x / 8) 0).getLsbD (7 - x % 8)) := by
  have hlen := length_unpackDots bytes
  have hbit := packDots_bit hlen h
  rw [packDots_unpackDots] at hbit
  rw [hbit, List.getD_eq_getElem?_getD, List.getElem?_eq_getElem (by omega), Option.getD_some]

section
variable {s : State} {c : Copy} {rest : List Copy}

theorem exec_shiftLatchEnd (h : s.print.head = .shifting) :
    exec .shiftLatchEnd s =
      .next (State.settle
        { s with print :=
          { s.print with head := .strobing 1, latches := s.print.latches + 1 } }) :=
  runIf_of (beq_iff_eq.mpr h) s _

theorem pclk_iff : s.pclk = true ↔ s.print.head = .shifting := beq_iff_eq

theorem pdat_of_not_shifting (h : s.print.head ≠ .shifting) (i : Nat) : s.pdat i = [] := by
  unfold State.pdat
  split
  next hhead _ => exact absurd hhead h
  next => rfl

/-- The output of section `i` carries the 432 dots that stand from dot `432 * i` on. -/
theorem pdat_getElem? (h : s.print.head = .shifting) (hq : s.print.queue = c :: rest) (i : Nat) {k : Nat}
    (hk : k < 432) : (s.pdat i)[k]? = (unpackDots c.dots)[432 * i + k]? := by
  simp only [State.pdat, h, hq]
  rw [show Config.dotsPerSection = 432 from rfl, List.getElem?_take_of_lt hk, List.getElem?_drop]

/-! ## The strobe phases and the end of the burn (04 R87, R88, R94) -/

/-- The head copy's burn has ended, before what follows of it. -/
def State.headBurnt (s : State) (c : Copy) (rest : List Copy) : State :=
  { s with print := { s.print with queue := { c with ended := true } :: rest, head := .ended } }

theorem burnEnd_of_clearing {n : Notice} (h : s.print.clearing = some n) :
    s.burnEnd =
      { s with print := { s.print with queue := [], head := .idle, clearing := none } }.setChan .print
        { s.chan .print with notices := (s.chan .print).notices ++ [n] } := by
  simp only [State.burnEnd, h]
  rfl

theorem burnEnd_of_kept (hq : s.print.queue = c :: rest) (h : s.print.clearing = none) :
    s.burnEnd =
      if s.motors.m1.heldStep then (s.headBurnt c rest).issueStep .m1 else s.headBurnt c rest := by
  simp only [State.burnEnd, State.headBurnt, h, hq, List.modifyHead_cons]

variable {k : Nat} (hh : s.print.head = .strobing k) (hq : s.print.queue = c :: rest)
include hh hq

/-- The row answers the next phase, or after the last one the end of the burn. -/
theorem exec_strobePhaseEnd :
    exec .strobePhaseEnd s =
      .next (State.settle
        (if k < c.phases then { s with print := { s.print with head := .strobing (k + 1) } }
          else s.burnEnd)) := by
  show execStrobePhaseEnd s = _
  simp only [execStrobePhaseEnd, hh, hq]
  exact runIf_of rfl s _

theorem exec_strobePhaseEnd_next (hk : k < c.phases) :
    exec .strobePhaseEnd s =
      .next (State.settle { s with print := { s.print with head := .strobing (k + 1) } }) := by
  rw [exec_strobePhaseEnd hh hq, if_pos hk]

theorem exec_strobePhaseEnd_last (hk : c.phases ≤ k) :
    exec .strobePhaseEnd s = .next (State.settle s.burnEnd) := by
  rw [exec_strobePhaseEnd hh hq, if_neg (Nat.not_lt.mpr hk)]

/-! ## The strobe outputs (04 R87) -/

theorem strobeOut_iff (i : Nat) :
    s.strobeOut i = true ↔ i ∈ phaseSections c.phases k ∧ 0 < c.counts.get i := by
  simp only [State.strobeOut, hh, hq, Bool.and_eq_true, List.contains_iff_mem, decide_eq_true_eq]

end

theorem strobeOut_of_not_strobing {s : State} (h : ∀ k, s.print.head ≠ .strobing k) (i : Nat) :
    s.strobeOut i = false := by
  unfold State.strobeOut
  split
  next k _ _ hhead _ => exact absurd hhead (h k)
  next => rfl

/-- All sections in the only phase, a half in each of two, and one section in each of four. -/
theorem mem_phaseSections {p k i : Nat} (hp : p = 1 ∨ p = 2 ∨ p = 4) (h1 : 1 ≤ k) (hk : k ≤ p) (hi : i < 4) :
    i ∈ phaseSections p k ↔ p = 1 ∨ (p = 2 ∧ (i < 2 ↔ k = 1)) ∨ (p = 4 ∧ k = i + 1) := by
  rcases hp with rfl | rfl | rfl
  case inl => simp [phaseSections]; omega
  case inr.inl =>
    by_cases hfirst : k = 1
    · simp [phaseSections, hfirst]; omega
    · simp [phaseSections, hfirst]; omega
  case inr.inr => simp [phaseSections]; omega

theorem ppwr_iff (s : State) : s.ppwr = true ↔ (s.chan .print).state ≠ .idle := bne_iff_ne

/-- Settles O57: the shift with its outputs, the phases one after another with the end of the burn, and the
strobe and power outputs. -/
theorem burnsRunThroughTheirPhases : Obligations.BurnsRunThroughTheirPhases := by
  refine ⟨⟨fun s h => ⟨pclk_iff.mpr h, exec_shiftLatchEnd h⟩,
      fun s i k c rest h hq hdots hi hk => ?dots,
      fun s h => ⟨Bool.eq_false_iff.mpr (mt pclk_iff.mp h), pdat_of_not_shifting h⟩⟩,
    fun s k c rest hh hq => ⟨exec_strobePhaseEnd_next hh hq, fun hk hc => ?kept, fun n hk hc => ?cleared⟩,
    fun s i k c rest hh hq hp h1 hk hi => ?strobe, fun s i h => strobeOut_of_not_strobing h i, ppwr_iff⟩
  case dots =>
    rw [pdat_getElem? h hq i hk, unpackDots_getElem? (by omega)]
  case kept =>
    rw [exec_strobePhaseEnd_last hh hq hk, burnEnd_of_kept hq hc]
    exact ⟨fun hheld => by rw [hheld]; rfl, fun hheld => by rw [hheld]; rfl⟩
  case cleared =>
    rw [exec_strobePhaseEnd_last hh hq hk, burnEnd_of_clearing hc]
  case strobe =>
    rw [strobeOut_iff hh hq, mem_phaseSections hp h1 hk hi, and_comm]

end Sys2Proof.Machine
end

section
/-! PROOFS. HEAD CLASS, EVENT PRIORITY and EVENT THRESHOLD (04 R91, 07 R145, R147). -/

namespace Sys2Proof.Machine

section
variable {s : State} {bs : List Byte}

theorem exec_headClass (h : InHand s 9 bs) :
    exec .headClass s = .next (State.settle s.headClassCommand) :=
  runIf_of (cmdIs_of_inHand h _) s _

theorem exec_eventPriority (h : InHand s 13 bs) :
    exec .eventPriority s = .next (State.settle s.priorityCommand) :=
  runIf_of (cmdIs_of_inHand h _) s _

theorem exec_eventThreshold (h : InHand s 14 bs) :
    exec .eventThreshold s = .next (State.settle s.thresholdCommand) :=
  runIf_of (cmdIs_of_inHand h _) s _

theorem sourceOf_val (i : Fin 24) : sourceOf i.val = some i := dif_pos i.isLt

theorem sourceOf_of_gt {n : Nat} (h : 23 < n) : sourceOf n = none := dif_neg (by omega)

/-- A priority held to 7 withdraws the pending entry exactly when the operand itself is 0. -/
theorem setPriority_min (i : Fin 24) (v : Nat) :
    s.setPriority i (min 7 v) =
      s.setSource i
        { priority := min 7 v, entry := if v = 0 then none else (s.source i).entry } := by
  have hzero : min 7 v = 0 ↔ v = 0 := by omega
  simp only [State.setPriority, hzero]

theorem priorityCommand_badTarget (h : s.cmdBytes = bs) (ht : 23 < wordAt bs 4) :
    s.priorityCommand = s.refuse .badTarget := by
  subst h
  simp only [State.priorityCommand, sourceOf_of_gt ht]

theorem priorityCommand_accepted {i : Fin 24} (h : s.cmdBytes = bs) (hi : wordAt bs 4 = i.val) :
    s.priorityCommand =
      (s.setPriority i (min 7 (wordAt bs 6))).complete .done [min 7 (wordAt bs 6)] := by
  subst h
  simp only [State.priorityCommand, hi, sourceOf_val]

end

/-- Settles O31: the three commands in hand, each with the value of its operand held to 7. -/
theorem classPriorityAndThresholdAreSet : Obligations.ClassPriorityAndThresholdAreSet := by
  refine fun s bs => ⟨fun h => ?headClass,
    fun h => ⟨fun ht => ?badTarget, fun i hi => ?priority⟩, fun h => ?threshold⟩
  all_goals have hb := cmdBytes_of_inHand h
  case headClass => rw [exec_headClass h, State.headClassCommand, hb]
  case badTarget => rw [exec_eventPriority h, priorityCommand_badTarget hb ht]
  case priority => rw [exec_eventPriority h, priorityCommand_accepted hb hi, setPriority_min]
  case threshold => rw [exec_eventThreshold h, State.thresholdCommand, hb]

end Sys2Proof.Machine
end

section
/-! PROOFS. Frames toward the coder: their bytes, the outputs while one is sent, and the rows at which one begins
and is taken (05 R97 to R101). -/

namespace Sys2Proof.Machine

/-! ## A reader leaves its page (02 R47) -/

section
variable {s t : State}

theorem poolTest_page_congr (h : s.page = t.page) : s.poolTest.page = t.poolTest.page := by
  unfold State.poolTest State.unreserved State.freeCount
  rw [h]
  split
  · split
    · simp only [raise_page]
    · exact h
  · split
    · simp only [raise_page]
    · exact h

theorem releaseTest_page_congr (h : s.page = t.page) (i : Fin 16) :
    (s.releaseTest i).page = (t.releaseTest i).page := by
  have hslot : s.slot i = t.slot i := by simp only [State.slot, h]
  unfold State.releaseTest
  dsimp only
  rw [hslot]
  split
  · exact poolTest_page_congr (by simp only [State.returnBands, State.setSlot, h])
  · exact h

/-- What a reader's leaving makes of page memory depends on page memory alone. -/
theorem leave_page_congr (h : s.page = t.page) (i : Fin 16) (ch : Channel) (release : Bool) :
    (s.leave i ch release).page = (t.leave i ch release).page := by
  have hslot : s.slot i = t.slot i := by simp only [State.slot, h]
  unfold State.leave
  dsimp only
  rw [hslot]
  exact releaseTest_page_congr (by simp only [State.setSlot, h]) i

variable (s)

/-- At a CLOSE a reader's leaving moves its window on. -/
theorem leavePage_of_close {ch : Channel} {a : Nat}
    (h : (s.chan ch).current = some { addr := a, entry := .close }) (ref : PageRef) :
    s.leavePage ch ref =
      (s.leave ref.slot ch (s.chan ch).releaseOnClose).setChan ch
        (Chan.shift { s.chan ch with openPage := none, releaseOnClose := false } s.page.geo) := by
  have hgeo : (s.leave ref.slot ch (s.chan ch).releaseOnClose).page.geo = s.page.geo :=
    kept_geo (kept_of_held (leave_held s _ _ _))
  unfold State.leavePage
  dsimp only
  rw [endEntry_of_not_lines (by simp only [chan_setChan_self, leave_chan, Chan.atLines, h]; rfl),
    chan_setChan_self, leave_chan, setChan_page, hgeo, setChan_setChan]

end

/-! ## The bytes of a frame and the outputs (05 R97 to R99) -/

section
variable {s : State}

theorem cdOut_of_sending {f : Frame} (hs : s.coder.send = .sending) (hf : s.coder.sendBuf = some f) :
    s.cdOut = f.bytes[s.coder.bytesSent]? := by
  rw [State.cdOut, if_pos hs, hf]
  rfl

theorem cdOut_of_not_sending (h : s.coder.send ≠ .sending) : s.cdOut = none := if_neg h

theorem linesReceive_eq_false (hr : s.coder.recv ≠ .receiving) (hd : s.coder.recv ≠ .discard) :
    s.linesReceive = false := by
  simp only [State.linesReceive, beq_eq_false_iff_ne.mpr hr, beq_eq_false_iff_ne.mpr hd, Bool.or_self]

theorem crxr_of_sending (hs : s.coder.send = .sending) (h : s.linesReceive = false) : s.crxr = false := by
  rw [State.crxr, hs, h, Bool.or_false]
  exact Bool.and_false _

/-! ## FRAME_SEND_START (05 R99, R100) -/

theorem maySend_of (ho : s.coder.send = .offering) (hreset : s.coder.resetLow = false)
    (hi : (s.chan .codeOut).state ≠ .idle) (hp : (s.chan .codeOut).state ≠ .paused)
    (hq : (s.chan .codeOut).pauseReq = none) : s.maySend = true := by
  simp only [chan_codeOut] at hi hp hq
  simp [State.maySend, ho, hreset, hi, hp, hq]

/-- The coder's offer is none that the receive direction would take. -/
theorem wouldTake_eq_false {o : CoderOffer}
    (h : o = .nothing ∨ (o = .inLines ∧ s.mayReceive false = false) ∨
      (o = .outside ∧ s.mayReceive true = false)) : s.wouldTake o = false := by
  rcases h with rfl | ⟨rfl, h⟩ | ⟨rfl, h⟩
  · rfl
  · exact h
  · exact h

theorem exec_frameSendStart {o : CoderOffer} (hm : s.maySend = true) (hl : s.linesReceive = false)
    (h : s.wouldTake o = false ∨ s.coder.lastReceive = true) :
    exec (.frameSendStart o) s =
      .next (State.settle
        ({ s with coder :=
            { s.coder with send := .sending, bytesSent := 1, lastReceive := false } }.setChan
          .codeOut
          { s.chan .codeOut with
            state :=
              if (s.chan .codeOut).state = ChState.waiting .device then .running
              else (s.chan .codeOut).state })) := by
  refine runIf_of ?_ s _
  rcases h with h | h
  · simp only [hm, hl, h, Bool.not_false, Bool.true_or, Bool.and_self]
  · simp only [hm, hl, h, Bool.not_false, Bool.or_true, Bool.and_self]

/-! ## FRAME_TAKEN (05 R100, R101) -/

/-- The coder has taken the last byte of the frame in the send buffer. -/
def State.frameGone (s : State) (f : Frame) : State :=
  { s with coder :=
    { s.coder with
      sendBuf := none
      send := .idle
      bytesSent := f.length
      sent := s.coder.sent + 1 } }

theorem exec_frameTaken {f : Frame} (hs : s.coder.send = .sending) (hf : s.coder.sendBuf = some f) :
    exec .frameTaken s = .next (State.settle ((s.frameGone f).closeSent f)) := by
  change execFrameTaken s = _
  simp only [execFrameTaken, hf]
  exact runIf_of (beq_iff_eq.mpr hs) s _

theorem closeSent_of_line (s : State) (c t : Bool) (dots : List Byte) :
    s.closeSent (.line c t dots) = s := by
  unfold State.closeSent
  dsimp only
  split
  · exact if_neg fun h => Frame.noConfusion h.1
  · rfl

/-- A PAGE END that no begun entry of a reader waits for ends nothing. -/
theorem closeSent_of_no_close
    (h : (s.chan .codeOut).openPage = none ∨ (s.chan .codeOut).phase ≠ .begun) (f : Frame) :
    s.closeSent f = s := by
  unfold State.closeSent
  dsimp only
  split
  next ref hpage =>
    rcases h with h | h
    · exact absurd (h.symm.trans hpage) (by simp)
    · exact if_neg fun hc => h hc.2.1
  next => rfl

theorem closeSent_of_close {ref : PageRef} {a : Nat} (hpage : (s.chan .codeOut).openPage = some ref)
    (hphase : (s.chan .codeOut).phase = .begun)
    (hcur : (s.chan .codeOut).current = some { addr := a, entry := .close }) :
    s.closeSent .pageEnd = s.leavePage .codeOut ref := by
  unfold State.closeSent
  dsimp only
  rw [← chan_codeOut, hpage]
  exact if_pos ⟨rfl, hphase, by rw [State.currentEntry, hcur]; rfl⟩

end

/-- Settles O58: the bytes and outputs, the conditions under which a frame begins, and the three ends of a frame
taken, of which the PAGE END of a CLOSE takes Code-out off its page. -/
theorem framesTowardTheCoder : Obligations.FramesTowardTheCoder := by
  refine ⟨⟨fun _ _ _ => rfl, rfl, fun s f => cdOut_of_sending, fun s => cdOut_of_not_sending,
      fun s hs hr hd => crxr_of_sending hs (linesReceive_eq_false hr hd)⟩,
    fun s o ho hreset hi hp hq hr hd hoffer => ?start,
    fun s f hs hf => ⟨fun c t d hline => ?line, fun _ hno => ?noClose,
      fun ref a hend hpage hphase hcur => ?close⟩⟩
  case start =>
    refine exec_frameSendStart (maySend_of ho hreset hi hp hq) (linesReceive_eq_false hr hd) ?_
    rcases hoffer with h | h | h | h
    · exact .inl (wouldTake_eq_false (.inl h))
    · exact .inl (wouldTake_eq_false (.inr (.inl h)))
    · exact .inl (wouldTake_eq_false (.inr (.inr h)))
    · exact .inr h
  case line =>
    rw [exec_frameTaken hs hf, hline, closeSent_of_line]
    rfl
  case noClose =>
    rw [exec_frameTaken hs hf, closeSent_of_no_close (s := s.frameGone f) hno]
    rfl
  case close =>
    subst hend
    refine ⟨_, exec_frameTaken hs hf, ?_⟩
    rw [closeSent_of_close (s := s.frameGone .pageEnd) hpage hphase hcur,
      leavePage_of_close (s.frameGone .pageEnd) (ch := .codeOut) hcur]
    refine ⟨by rw [setChan_coder, leave_coder]; rfl, ?_, by rw [chan_setChan_self]; rfl, fun d hd => ?_⟩
    · rw [setChan_page]
      exact leave_page_congr (s := s.frameGone .pageEnd) (t := s) rfl _ _ _
    · rw [chan_setChan_of_ne _ _ hd, leave_chan]
      cases d <;> rfl

end Sys2Proof.Machine
end

section
/-! PROOFS. Frames from the coder: the header that begins one and the ends of received frames (05 R99, R103 to
R106, R108). -/

namespace Sys2Proof.Machine

section
variable {s : State}

/-! ## RECEIVE_FRAME_HEADER (05 R99, R103, R106) -/

theorem unsolicited_iff (out : Bool) :
    s.unsolicited out = true ↔ out = true ∨ (s.chan .codeIn).atLines = false := by
  simp only [State.unsolicited, chan_codeIn, Bool.or_eq_true, Bool.not_eq_true']

theorem mayReceive_of {out : Bool} (hreset : s.coder.resetLow = false)
    (hpower : s.power.state = .run ∨ s.power.state = .drain)
    (h : s.coder.recv = .ready ∨ s.coder.recv = .idle ∧ s.unsolicited out = true) :
    s.mayReceive out = true := by
  have hp : (s.power.state == .run || s.power.state == .drain) = true := by
    simpa only [Bool.or_eq_true, beq_iff_eq] using hpower
  have hr : (s.coder.recv == .ready || (s.coder.recv == .idle && s.unsolicited out)) = true := by
    simpa only [Bool.or_eq_true, Bool.and_eq_true, beq_iff_eq] using h
  simp only [State.mayReceive, hreset, hp, hr, Bool.not_false, Bool.and_self]

/-- The state with a frame's header received. -/
def State.headerIn (s : State) (header : Byte) (next : RecvDir) : State :=
  { s with coder :=
    { s.coder with
      recv := next
      header
      rxDots := []
      rxCounts := Counts.zero
      bytesReceived := 1
      cutShort := false
      lastReceive := true } }

theorem exec_receiveFrameHeader (header : Byte) {out ctxr : Bool} (hm : s.mayReceive out = true)
    (hs : s.coder.send ≠ .sending)
    (h : ctxr = false ∨ s.maySend = false ∨ s.coder.lastReceive = false) :
    exec (.receiveFrameHeader header out ctxr) s =
      .next (State.settle
        (s.headerIn header (if s.unsolicited out then .discard else .receiving))) := by
  have hturn : (!(s.maySend && ctxr) || !s.coder.lastReceive) = true := by
    rcases h with h | h | h
    · rw [h, Bool.and_false]; rfl
    · rw [h, Bool.false_and]; rfl
    · rw [h]; exact Bool.or_true _
  refine runIf_of ?_ s _
  simp only [hm, hturn, bne_iff_ne.mpr hs, Bool.and_self]

/-! ## The ends of frames taken for a line (05 R103 to R105) -/

theorem exec_lineReceived {dots : List Byte} (hr : s.coder.recv = .receiving)
    (hk : frameKind s.coder.header = 1) (hl : dots.length = Config.bytesPerLine) :
    exec (.lineReceived dots) s =
      .next (State.settle
        { s with coder :=
          { s.coder.frameEnd 217 .storing with
            rxDots := dots
            rxCounts := countsOf (unpackDots dots)
            conceal := false } }) :=
  runIf_of (by simp [hr, hk, hl]) s _

theorem exec_badLineReceived (hr : s.coder.recv = .receiving) (hk : frameKind s.coder.header = 2) :
    exec .badLineReceived s =
      .next (State.settle
        { s with coder := { s.coder.frameEnd 1 .storing with conceal := true } }) :=
  runIf_of (by simp [hr, hk]) s _

/-- The length of a kind's frames: 217 bytes for a LINE, one for a BAD LINE and a PAGE END. -/
theorem kindLength_eq_some_iff (k n : Nat) :
    kindLength k = some n ↔ (k = 1 ∧ n = 217) ∨ (k = 2 ∧ n = 1) ∨ (k = 3 ∧ n = 1) := by
  unfold kindLength
  split
  · simp [eq_comm]
  · simp [eq_comm]
  · simp [eq_comm]
  next h1 h2 h3 =>
    refine iff_of_false nofun fun h => ?_
    rcases h with ⟨h, -⟩ | ⟨h, -⟩ | ⟨h, -⟩
    · exact h1 h
    · exact h2 h
    · exact h3 h

theorem exec_malformedFrame {n : Nat} (hr : s.coder.recv = .receiving) (hn : 1 ≤ n)
    (hk : kindLength (frameKind s.coder.header) ≠ some n) :
    exec (.malformedFrame n) s =
      .next (State.settle
        ({ s with coder :=
            { s.coder.frameEnd n .storing with conceal := true, frameError := true } }.raise
          23 .frame (.word (min 65535 n)))) :=
  runIf_of (by simp [hr, hn, hk]) s _

theorem exec_pageEndReceived (hr : s.coder.recv = .receiving) (hk : frameKind s.coder.header = 3) :
    exec .pageEndReceived s =
      .next (State.settle
        (if (s.chan .codeIn).inLines then
            { s with coder := s.coder.frameEnd 1 .idle }.endEntry .codeIn
          else { s with coder := s.coder.frameEnd 1 .idle })) :=
  runIf_of (by simp [hr, hk]) s _

/-! ## The ends of frames that are not kept (05 R106, R108) -/

theorem exec_unsolicitedFrame {n : Nat} (hr : s.coder.recv = .discard) (hc : s.coder.cutShort = false)
    (hn : 1 ≤ n) :
    exec (.unsolicitedFrame n) s =
      .next (State.settle
        ({ s with coder := { s.coder.frameEnd n .idle with unsolicited := true } }.raise
          23 .unsolicited (.word (min 65535 n)))) :=
  runIf_of (by simp [hr, hc, hn]) s _

theorem exec_frameCutShortEnd {n : Nat} (hr : s.coder.recv = .discard) (hc : s.coder.cutShort = true)
    (hn : 1 ≤ n) :
    exec (.frameCutShortEnd n) s =
      .next (State.settle
        { s with coder := { s.coder.frameEnd n .idle with cutShort := false } }) :=
  runIf_of (by simp [hr, hc, hn]) s _

end

/-- Settles O59: a frame's header with the frame judged unsolicited or not, the four ends of a frame taken for a
line, and the two of a frame that is not kept. -/
theorem receivedFramesAreJudgedByKindAndLength : Obligations.ReceivedFramesAreJudgedByKindAndLength := by
  refine ⟨fun s h out ctxr hreset hpower hrecv hs hturn => ?header,
    fun s hr => ⟨fun dots hk hl => exec_lineReceived hr hk hl, exec_badLineReceived hr,
      fun n hn h1 h2 h3 => exec_malformedFrame hr hn ?malformed,
      fun hk => ⟨fun hi => ?pageEndInLines, fun hi => ?pageEndOutside⟩⟩,
    fun s n hr hn => ⟨fun hc => exec_unsolicitedFrame hr hc hn,
      fun hc => exec_frameCutShortEnd hr hc hn⟩⟩
  case header =>
    rw [← unsolicited_iff] at hrecv
    rw [exec_receiveFrameHeader h (mayReceive_of hreset hpower hrecv) hs hturn]
    simp only [unsolicited_iff]
    rfl
  case malformed =>
    rw [Ne, kindLength_eq_some_iff]
    exact not_or.mpr ⟨h1, not_or.mpr ⟨h2, h3⟩⟩
  case pageEndInLines =>
    rw [exec_pageEndReceived hr hk, if_pos hi]
    rfl
  case pageEndOutside =>
    rw [exec_pageEndReceived hr hk, if_neg (Bool.eq_false_iff.mp hi)]
    rfl

end Sys2Proof.Machine
end

section
/-! PROOFS. The ends of Code-in's slot writes: a line stored, good or a concealment copy (05 R102 to R104, R107;
01 R12). -/

namespace Sys2Proof.Machine

/-! ## The bytes of the slot -/

section
variable {s : State} {a n : Nat}

theorem codeInBytes_of_good (hc : s.coder.conceal = false) (hh : (s.chan .codeIn).held = some n) :
    s.codeInBytes = slotBytes s.coder.rxDots s.coder.rxCounts false false n := by
  rw [chan_codeIn] at hh
  simp [State.codeInBytes, hc, hh]

theorem codeInBytes_of_conceal (hc : s.coder.conceal = true) (hh : (s.chan .codeIn).held = some n) :
    s.codeInBytes = slotBytes s.coder.copyDots s.coder.copyCounts true false n := by
  rw [chan_codeIn] at hh
  simp [State.codeInBytes, hc, hh]

theorem endBurst_codeInWrite_mem (hd : s.port.done = 0) (hl : s.codeInBytes.length = 256) :
    (s.endBurst (.codeInWrite a)).mem = Memory.writeBytes s.mem a s.codeInBytes :=
  endBurst_mem_of_write (n := 128) rfl rfl hd hl

/-- The slot holds the bytes of the line, and every other byte is as it was. -/
theorem endBurst_codeInWrite_bytes (hm : MemoryOk s) (hd : s.port.done = 0)
    (hl : s.codeInBytes.length = 256) :
    Memory.readBytes (s.endBurst (.codeInWrite a)).mem a 256 = s.codeInBytes ∧
      ∀ x, x < a ∨ a + 256 ≤ x →
        Memory.read (s.endBurst (.codeInWrite a)).mem x = Memory.read s.mem x := by
  rw [endBurst_codeInWrite_mem hd hl]
  refine ⟨?_, fun x hx => Memory.read_writeBytes_outside _ a x hm (by rw [hl]; exact hx)⟩
  rw [← hl, Memory.readBytes_writeBytes _ a hm]

/-! ## The two rows -/

theorem exec_codeInSlotWriteEnd (hb : s.port.busy = some (.codeInWrite a))
    (hc : s.coder.conceal = false) :
    exec .codeInSlotWriteEnd s =
      .next (State.settle (s.endBurst (.codeInWrite a)).releasePort.goodStored.limitIfFull) := by
  change execCodeInSlotWriteEnd s = _
  simp only [execCodeInSlotWriteEnd, State.codeInBurst, hb]
  exact runIf_of (by rw [hc]; rfl) s _

theorem exec_concealmentStored (hb : s.port.busy = some (.codeInWrite a))
    (hc : s.coder.conceal = true) :
    exec .concealmentStored s =
      .next (State.settle
        (s.endBurst (.codeInWrite a)).releasePort.concealmentStored.limitIfFull) := by
  change execConcealmentStored s = _
  simp only [execConcealmentStored, State.codeInBurst, hb]
  exact runIf_of hc s _

end

/-! ## The held line stored (05 R103, R104, R107) -/

/-- The parts that the storing of Code-in's held line replaces: the record of its page slot, its channel context, the
coder link, and the sensor unit. -/
def State.lineIn (s : State) (i : Fin 16) (p : Page) (c : Chan) (k : CoderLink) (u : SensorUnit) : State :=
  { (s.setSlot i p).setChan .codeIn c with coder := k, sensor := u }

/-- The page with one line more stored (01 R12). -/
def Page.lineStored (p : Page) : Page := { p with stored := p.stored + 1 }

/-- The page with one line more stored, and counted as concealed (R104). -/
def Page.copyStored (p : Page) : Page :=
  { p.lineStored with concealed := min 65535 (p.concealed + 1) }

/-- Code-in's context with the held line stored and its run of bad lines at `run` (R103, R104). -/
def Chan.lineStored (c : Chan) (run : Nat) : Chan :=
  { c with moved := c.moved + 1, held := none, badRun := run }

/-- The run of bad lines with one more, staying at 65535 once there (R104). -/
def Chan.longerRun (c : Chan) : Nat := min 65535 (c.badRun + 1)

/-- The coder link with a good line stored: the line copy takes it, and its run of bad lines is over (R103). -/
def CoderLink.lineStored (k : CoderLink) : CoderLink :=
  { k with recv := .idle, copyDots := k.rxDots, copyCounts := k.rxCounts, burstReported := false }

/-- The coder link behind the test of a run's length: burst reported is set once the run has reached the limit
(R107). -/
def CoderLink.runTested (k : CoderLink) (run : Nat) : CoderLink :=
  { k with
    burstReported := k.burstReported || (decide (0 < k.burstLimit) && decide (k.burstLimit ≤ run)) }

/-- The coder link with a concealment copy stored (R104). -/
def CoderLink.copyStored (k : CoderLink) : CoderLink :=
  { k with recv := .idle, badLines := true, conceal := false }

/-- The sensor unit behind the test of a run's length: event 20 is raised for line `n` at a run that has reached the
limit, where burst reported is clear (R107). -/
def State.runRaised (s : State) (k : CoderLink) (run n : Nat) : SensorUnit :=
  if 0 < k.burstLimit ∧ k.burstLimit ≤ run ∧ k.burstReported = false then
    (s.raise 20 .burst (.word n)).sensor
  else s.sensor

section
variable (s : State) (i : Fin 16) (p : Page) (c : Chan) (k : CoderLink) (u : SensorUnit)

theorem lineIn_slot_self : (s.lineIn i p c k u).slot i = p := slot_setSlot_self s i p

theorem lineIn_slot_of_ne {j : Fin 16} (h : j ≠ i) : (s.lineIn i p c k u).slot j = s.slot j :=
  slot_setSlot_of_ne s p h

theorem lineIn_chan_self : (s.lineIn i p c k u).chan .codeIn = c := rfl

theorem lineIn_chan_of_ne {d : Channel} (h : d ≠ .codeIn) : (s.lineIn i p c k u).chan d = s.chan d :=
  (chan_setChan_of_ne (s.setSlot i p) c h).trans (setSlot_chan s i p d)

theorem lineIn_setSlot (q : Page) : (s.lineIn i p c k u).setSlot i q = s.lineIn i q c k u :=
  congrArg (fun t => { t.setChan .codeIn c with coder := k, sensor := u }) (setSlot_setSlot s i p q)

theorem runRaised_congr {s t : State} (h : s.sensor = t.sensor) (k : CoderLink) (run n : Nat) :
    s.runRaised k run n = t.runRaised k run n := by
  unfold State.runRaised
  rw [raise_sensor_congr h, h]

theorem lineIn_burstTest (n : Nat) :
    (s.lineIn i p c k s.sensor).burstTest n =
      s.lineIn i p c (k.runTested c.badRun) (s.runRaised k c.badRun n) := by
  unfold State.runRaised CoderLink.runTested
  by_cases h : 0 < k.burstLimit ∧ k.burstLimit ≤ c.badRun ∧ k.burstReported = false
  · have hraise : (s.lineIn i p c k s.sensor).burstTest n =
        (s.lineIn i p c { k with burstReported := true } s.sensor).raise 20 .burst (.word n) := if_pos h
    have hsensor : ((s.lineIn i p c { k with burstReported := true } s.sensor).raise 20 .burst
        (.word n)).sensor = (s.raise 20 .burst (.word n)).sensor := raise_sensor_congr (by rfl) _ _ _
    rw [hraise, if_pos h, raise_only, hsensor]
    obtain ⟨hlimit, hrun, -⟩ := h
    simp only [hlimit, hrun, decide_true, Bool.and_self, Bool.or_true]
    rfl
  · have hidle : (s.lineIn i p c k s.sensor).burstTest n = s.lineIn i p c k s.sensor := if_neg h
    have hkept : (k.burstReported ||
        (decide (0 < k.burstLimit) && decide (k.burstLimit ≤ c.badRun))) = k.burstReported := by
      cases hr : k.burstReported
      · simpa [hr] using h
      · rfl
    rw [hidle, if_neg h, hkept]

end

section
variable {s : State} {ref : PageRef} {n : Nat}

theorem storeHeld_of (hp : (s.chan .codeIn).openPage = some ref) :
    s.storeHeld =
      s.lineIn ref.slot (s.slot ref.slot).lineStored
        ((s.chan .codeIn).lineStored (s.chan .codeIn).badRun) { s.coder with recv := .idle } s.sensor := by
  rw [chan_codeIn] at hp
  rw [State.storeHeld, hp]
  rfl

theorem countConcealed_of (hp : (s.chan .codeIn).openPage = some ref) :
    s.countConcealed =
      s.setSlot ref.slot
        { s.slot ref.slot with concealed := min 65535 ((s.slot ref.slot).concealed + 1) } := by
  rw [chan_codeIn] at hp
  rw [State.countConcealed, hp]

theorem goodStored_of (hp : (s.chan .codeIn).openPage = some ref) :
    s.goodStored =
      s.lineIn ref.slot (s.slot ref.slot).lineStored ((s.chan .codeIn).lineStored 0) s.coder.lineStored
        s.sensor := by
  rw [State.goodStored, storeHeld_of hp]
  rfl

theorem concealmentStored_of (hp : (s.chan .codeIn).openPage = some ref)
    (hh : (s.chan .codeIn).held = some n) :
    s.concealmentStored =
      s.lineIn ref.slot (s.slot ref.slot).copyStored
        ((s.chan .codeIn).lineStored (s.chan .codeIn).longerRun)
        (s.coder.copyStored.runTested (s.chan .codeIn).longerRun)
        (s.runRaised s.coder (s.chan .codeIn).longerRun n) := by
  have hcount := countConcealed_of (s := s.storeHeld) (ref := ref) (by rw [storeHeld_of hp]; exact hp)
  rw [storeHeld_of hp, lineIn_slot_self, lineIn_setSlot] at hcount
  rw [chan_codeIn] at hh
  unfold State.concealmentStored
  dsimp only
  rw [storeHeld_of hp, hcount, hh]
  exact lineIn_burstTest s _ _ _ _ n

end

/-! ## PAGE LIMIT at the end of the frame (05 R102) -/

section
variable {s : State} {ref : PageRef}

theorem limitIfFull_of_due (hi : (s.chan .codeIn).inLines = true) (hd : (s.chan .codeIn).limitDue = true)
    (hp : (s.chan .codeIn).openPage = some ref) :
    s.limitIfFull = s.setChan .codeIn
      { s.chan .codeIn with
        phase := .ending
        notices := (s.chan .codeIn).notices ++
          [{ body := .pageLimit (s.slot ref.slot).limit, page := some ref }] } := by
  rw [State.limitIfFull, if_pos ⟨hi, hd⟩, endAtLimit_of .codeIn hp]

theorem limitIfFull_of_not_due
    (h : (s.chan .codeIn).inLines = false ∨ (s.chan .codeIn).limitDue = false) :
    s.limitIfFull = s := by
  refine if_neg fun hdue => ?_
  obtain ⟨hi, hd⟩ := hdue
  rcases h with h | h
  · exact Bool.noConfusion (hi.symm.trans h)
  · exact Bool.noConfusion (hd.symm.trans h)

variable (s)

/-- The test for PAGE LIMIT concerns Code-in's context alone. -/
theorem limitIfFull_only : s.limitIfFull = s.setChan .codeIn (s.limitIfFull.chan .codeIn) := by
  unfold State.limitIfFull State.endAtLimit
  split
  · split
    · rfl
    · rfl
  · rfl

@[simp] theorem limitIfFull_mem : s.limitIfFull.mem = s.mem := by rw [limitIfFull_only]; rfl
@[simp] theorem limitIfFull_coder : s.limitIfFull.coder = s.coder := by rw [limitIfFull_only]; rfl
@[simp] theorem limitIfFull_sensor : s.limitIfFull.sensor = s.sensor := by rw [limitIfFull_only]; rfl
@[simp] theorem limitIfFull_slot (j : Fin 16) : s.limitIfFull.slot j = s.slot j := by
  rw [limitIfFull_only]; rfl

theorem limitIfFull_chan_of_ne {d : Channel} (h : d ≠ .codeIn) : s.limitIfFull.chan d = s.chan d := by
  rw [limitIfFull_only, chan_setChan_of_ne _ _ h]

end

/-! ## What a row that stores the held line leaves -/

/-- The state behind the slot write at `a`, the held line stored with the parts given and PAGE LIMIT tested. -/
def State.slotWritten (s : State) (a : Nat) (i : Fin 16) (p : Page) (c : Chan) (k : CoderLink)
    (u : SensorUnit) : State :=
  ((s.endBurst (.codeInWrite a)).releasePort.lineIn i p c k u).limitIfFull

section
variable {s : State} {a : Nat} {ref : PageRef} {p : Page} {c : Chan} {k : CoderLink} {u : SensorUnit}

theorem slotWritten_mem :
    (s.slotWritten a ref.slot p c k u).mem = (s.endBurst (.codeInWrite a)).mem :=
  (limitIfFull_mem _).trans (releasePort_mem _)

theorem slotWritten_slot_self : (s.slotWritten a ref.slot p c k u).slot ref.slot = p :=
  (limitIfFull_slot _ _).trans (lineIn_slot_self _ _ _ _ _ _)

theorem slotWritten_slot_of_ne {j : Fin 16} (h : j ≠ ref.slot) :
    (s.slotWritten a ref.slot p c k u).slot j = s.slot j := by
  rw [State.slotWritten, limitIfFull_slot, lineIn_slot_of_ne _ _ _ _ _ _ h, releasePort_slot, endBurst_slot]

theorem slotWritten_chan_due (hp : c.openPage = some ref) (h : c.inLines = true ∧ c.limitDue = true) :
    (s.slotWritten a ref.slot p c k u).chan .codeIn =
      { c with
        phase := .ending
        notices := c.notices ++ [{ body := .pageLimit p.limit, page := some ref }] } := by
  obtain ⟨hi, hd⟩ := h
  rw [State.slotWritten,
    limitIfFull_of_due (s := (s.endBurst (.codeInWrite a)).releasePort.lineIn ref.slot p c k u) hi hd hp,
    chan_setChan_self, lineIn_chan_self, lineIn_slot_self]

theorem slotWritten_chan_not_due (h : c.inLines = false ∨ c.limitDue = false) :
    (s.slotWritten a ref.slot p c k u).chan .codeIn = c := by
  rw [State.slotWritten, limitIfFull_of_not_due (by rw [lineIn_chan_self]; exact h), lineIn_chan_self]

theorem slotWritten_chan_of_ne {d : Channel} (h : d ≠ .codeIn) :
    (s.slotWritten a ref.slot p c k u).chan d = s.chan d := by
  rw [State.slotWritten, limitIfFull_chan_of_ne _ h, lineIn_chan_of_ne _ _ _ _ _ _ h, releasePort_chan,
    endBurst_chan]

theorem slotWritten_coder : (s.slotWritten a ref.slot p c k u).coder = k := limitIfFull_coder _

theorem slotWritten_sensor : (s.slotWritten a ref.slot p c k u).sensor = u := limitIfFull_sensor _

/-- Beyond the end of its grant the row concerns the memory, the page records, the channel contexts, the coder link
and the sensor unit. -/
theorem slotWritten_only : s.slotWritten a ref.slot p c k u =
    { s.releasePort with
      mem := (s.slotWritten a ref.slot p c k u).mem
      page := { s.page with slots := (s.slotWritten a ref.slot p c k u).page.slots }
      chans := (s.slotWritten a ref.slot p c k u).chans
      coder := (s.slotWritten a ref.slot p c k u).coder
      sensor := u } := by
  rw [State.slotWritten, limitIfFull_only, releasePort_endBurst, ← releasePort_page s]
  rfl

end

section
variable {s : State} {a n : Nat} {ref : PageRef}

theorem exec_codeInSlotWriteEnd_stores (hb : s.port.busy = some (.codeInWrite a))
    (hc : s.coder.conceal = false) (hp : (s.chan .codeIn).openPage = some ref) :
    exec .codeInSlotWriteEnd s =
      .next (State.settle
        (s.slotWritten a ref.slot (s.slot ref.slot).lineStored ((s.chan .codeIn).lineStored 0)
          s.coder.lineStored s.releasePort.sensor)) := by
  have hpage : ((s.endBurst (.codeInWrite a)).releasePort.chan .codeIn).openPage = some ref := by
    rw [releasePort_chan, endBurst_chan, hp]
  rw [exec_codeInSlotWriteEnd hb hc, goodStored_of hpage, releasePort_slot, releasePort_chan,
    releasePort_coder, endBurst_slot, endBurst_chan, endBurst_coder, State.slotWritten,
    releasePort_endBurst]

theorem exec_concealmentStored_stores (hb : s.port.busy = some (.codeInWrite a))
    (hc : s.coder.conceal = true) (hp : (s.chan .codeIn).openPage = some ref)
    (hh : (s.chan .codeIn).held = some n) :
    exec .concealmentStored s =
      .next (State.settle
        (s.slotWritten a ref.slot (s.slot ref.slot).copyStored
          ((s.chan .codeIn).lineStored (s.chan .codeIn).longerRun)
          (s.coder.copyStored.runTested (s.chan .codeIn).longerRun)
          (s.releasePort.runRaised s.coder (s.chan .codeIn).longerRun n))) := by
  have hpage : ((s.endBurst (.codeInWrite a)).releasePort.chan .codeIn).openPage = some ref := by
    rw [releasePort_chan, endBurst_chan, hp]
  have hheld : ((s.endBurst (.codeInWrite a)).releasePort.chan .codeIn).held = some n := by
    rw [releasePort_chan, endBurst_chan, hh]
  have hsensor : (s.endBurst (.codeInWrite a)).releasePort.sensor = s.releasePort.sensor := by
    rw [releasePort_endBurst]
  rw [exec_concealmentStored hb hc, concealmentStored_of hpage hheld, runRaised_congr hsensor,
    releasePort_slot, releasePort_chan, releasePort_coder, endBurst_slot, endBurst_chan, endBurst_coder]
  rfl

end

/-- Settles O60: the good line and the concealment copy, each with the bytes of its slot, its count, its run of bad
lines and PAGE LIMIT where it is due. -/
theorem codeInLinesAreStoredOrConcealed : Obligations.CodeInLinesAreStoredOrConcealed := by
  refine fun s a n ref hm hb hp hh => ⟨fun hc => ?good, fun hc => ?conceal⟩
  case good =>
    refine ⟨_, exec_codeInSlotWriteEnd_stores hb hc hp, fun hd hl => ?_, slotWritten_slot_self,
      fun j hj => slotWritten_slot_of_ne hj,
      ⟨fun h => slotWritten_chan_due hp h, slotWritten_chan_not_due⟩,
      fun d hd => slotWritten_chan_of_ne hd, slotWritten_coder,
      slotWritten_only⟩
    rw [slotWritten_mem, ← codeInBytes_of_good hc hh]
    exact endBurst_codeInWrite_bytes hm hd
      (by rw [codeInBytes_of_good hc hh, length_slotBytes _ _ _ _ _ hl])
  case conceal =>
    refine ⟨_, exec_concealmentStored_stores hb hc hp hh, fun hd hl => ?_,
      slotWritten_slot_self, fun j hj => slotWritten_slot_of_ne hj,
      ⟨fun h => slotWritten_chan_due hp h, slotWritten_chan_not_due⟩,
      fun d hd => slotWritten_chan_of_ne hd, slotWritten_coder,
      slotWritten_sensor, by rw [slotWritten_sensor]; exact slotWritten_only⟩
    rw [slotWritten_mem, ← codeInBytes_of_conceal hc hh]
    exact endBurst_codeInWrite_bytes hm hd
      (by rw [codeInBytes_of_conceal hc hh, length_slotBytes _ _ _ _ _ hl])

end Sys2Proof.Machine
end

section
/-! PROOFS. The feed governor: the candidate it commits, what the constraints allow, and its decision from rest
(06 R112, R116, R125 to R127, R129, R130, R132; 02 R31). -/

namespace Sys2Proof.Machine

/-! ## The candidates in their order (06 R126) -/

section
variable {s : State} {m : MotorId} {k : Nat}

theorem govern_above (hlen : k + 1 < (s.motor m).run.length) (ha : s.allows m (k + 1) = true) :
    s.govern m (some k) = some (k + 1) := if_pos ⟨hlen, ha⟩

theorem govern_at (hn : ¬(k + 1 < (s.motor m).run.length ∧ s.allows m (k + 1) = true))
    (ha : s.allows m k = true) : s.govern m (some k) = some k := (if_neg hn).trans (if_pos ha)

theorem govern_below (hn : ¬(k + 1 < (s.motor m).run.length ∧ s.allows m (k + 1) = true))
    (ha : s.allows m k = false) : s.govern m (some k) = if k = 0 then none else some (k - 1) :=
  (if_neg hn).trans (if_neg (Bool.eq_false_iff.mp ha))

/-- Rest is chosen from index 0 alone. -/
theorem govern_eq_none (h : s.govern m (some k) = none) : k = 0 := by
  refine Decidable.byContradiction fun hk => ?_
  by_cases hn : k + 1 < (s.motor m).run.length ∧ s.allows m (k + 1) = true
  · rw [govern_above hn.1 hn.2] at h; cases h
  · cases ha : s.allows m k
    · rw [govern_below hn ha, if_neg hk] at h; cases h
    · rw [govern_at hn ha] at h; cases h

end

/-! ## The constraints that every motor has (06 R116, R127) -/

/-- The stop budget and a host move have room for a candidate. -/
def Motor.HostAllows (x : Motor) (j : Nat) : Prop :=
  (∀ b, x.budget = some b → j + 1 ≤ b) ∧ ∀ v, x.move = some v → j ≤ v.top ∧ j + 1 ≤ x.remaining

/-- A motor at rest may leave it on a ramp: it is not HALTED, and no load of that ramp is in flight. -/
def State.MayLeaveOn (s : State) (x : Motor) (n : Fin 4) : Prop :=
  x.halted = none ∧ ∀ d : Load, s.recUnit.work = some (.load d) → d.table ≠ .ramp n

section
variable {s : State} {m : MotorId} {j : Nat}

theorem rampLoading_eq_false_iff (n : Fin 4) :
    s.rampLoading n = false ↔ ∀ d : Load, s.recUnit.work = some (.load d) → d.table ≠ .ramp n := by
  unfold State.rampLoading
  split
  next l h => simp [h]
  next h => exact iff_of_true rfl fun d hd => absurd hd (h d)

/-- A motor that names no ramp has neither a move nor a link. -/
theorem rampUsed_isSome (x : Motor) : x.rampUsed.isSome = (x.move.isSome || x.link.isSome) := by
  unfold Motor.rampUsed
  cases x.move <;> simp

theorem allows_iff : s.allows m j = true ↔
    (s.motor m).HostAllows j ∧
      (∀ l, (s.motor m).link = some l → s.linkAllows m (s.motor m) l j = true) ∧
      ((s.motor m).moving = true ∨
        ∃ n, (s.motor m).rampUsed = some n ∧ s.MayLeaveOn (s.motor m) n) := by
  have hrest : ((s.motor m).halted.isNone &&
      ((s.motor m).move.isSome || (s.motor m).link.isSome) &&
        !((s.motor m).rampUsed.any fun n => s.rampLoading n)) = true ↔
      ∃ n, (s.motor m).rampUsed = some n ∧ s.MayLeaveOn (s.motor m) n := by
    rw [← rampUsed_isSome]
    cases (s.motor m).rampUsed <;> simp [State.MayLeaveOn, rampLoading_eq_false_iff]
  simp only [State.allows, Motor.HostAllows, Bool.and_eq_true, Bool.or_eq_true (s.motor m).moving, hrest,
    Option.all_eq_true, decide_eq_true_eq, and_assoc]

theorem allows_iff_of_unlinked (h : (s.motor m).link = none) : s.allows m j = true ↔
    (s.motor m).HostAllows j ∧
      ((s.motor m).moving = true ∨
        (s.motor m).halted = none ∧ ∃ v, (s.motor m).move = some v ∧
          ∀ d : Load, s.recUnit.work = some (.load d) → d.table ≠ .ramp v.ramp) := by
  have hused : (s.motor m).rampUsed = (s.motor m).move.map fun v => v.ramp := by
    unfold Motor.rampUsed
    cases (s.motor m).move <;> simp [h]
  rw [allows_iff, hused]
  cases (s.motor m).move <;> simp [h, State.MayLeaveOn]

theorem allows_iff_of_linked {l : Link} (h : (s.motor m).link = some l) : s.allows m j = true ↔
    (s.motor m).HostAllows j ∧ s.linkAllows m (s.motor m) l j = true ∧
      ((s.motor m).moving = true ∨
        s.MayLeaveOn (s.motor m) ((s.motor m).move.elim l.ramp fun v => v.ramp)) := by
  have hused : (s.motor m).rampUsed = some ((s.motor m).move.elim l.ramp fun v => v.ramp) := by
    unfold Motor.rampUsed
    cases (s.motor m).move <;> simp [h]
  simp [allows_iff, hused, h]

end

/-! ## Scan's link: band space, window and page (06 R129; 02 R31) -/

theorem scanAllows_iff {s : State} {x : Motor} {l : Link} {j : Nat} :
    s.scanAllows x l j = true ↔
      let c := s.chan .scan
      let n := (x.group + j + 1) / l.spl
      j ≤ l.kLine ∧ n ≤ c.windowCount ∧ (c.openPage = none → n = 0) ∧
        (∀ p, c.openPage = some p →
          n ≤ s.slotsLeft p.slot + 64 * s.page.free.length ∧
            n ≤ (s.slot p.slot).limit - (s.slot p.slot).assigned) ∧
        (x.moving = true ∨
          c.state = .running ∧ c.inLines = true ∧ c.openPage.isSome = true ∧ c.pauseReq = none) := by
  simp only [State.scanAllows, Bool.and_eq_true, Bool.or_eq_true, decide_eq_true_eq, beq_iff_eq,
    Option.isNone_iff_eq_none]
  simp only [lambda, State.freeCount, chan_scan, and_assoc]
  generalize (x.group + j + 1) / l.spl = n
  cases s.chans.scan.openPage with
  | none =>
    simp only [Option.elim_none, Option.isSome_none, Bool.false_eq_true, false_and, and_false, or_false,
      Nat.zero_add, Nat.le_zero_eq, reduceCtorEq, false_implies, implies_true, true_and, forall_const]
    constructor
    · rintro ⟨hmoving, -, hwindow, hn, hline⟩
      exact ⟨hline, hwindow, hn, hmoving⟩
    · rintro ⟨hline, hwindow, hn, hmoving⟩
      exact ⟨hmoving, by omega, hwindow, hn, hline⟩
  | some p =>
    simp only [Option.elim_some, Option.isSome_some, Option.some.injEq, reduceCtorEq, false_implies,
      forall_eq', true_and]
    constructor
    · rintro ⟨hrun, hbands, hwindow, hpage, hline⟩
      exact ⟨hline, hwindow, ⟨hbands, hpage⟩, hrun⟩
    · rintro ⟨hline, hwindow, ⟨hbands, hpage⟩, hrun⟩
      exact ⟨hrun, hbands, hwindow, hpage, hline⟩

theorem isLines_iff (e : Entry) : e.isLines = true ↔ ∃ n o b, e = .lines n o b := by
  cases e <;> simp [Entry.isLines]

theorem inLines_iff (c : Chan) : c.inLines = true ↔ c.phase = .begun ∧
    ∃ a n e b, c.current = some { addr := a, entry := .lines n e b } := by
  have hcur : (c.current.any fun e => e.entry.isLines) = true ↔
      ∃ a n e b, c.current = some { addr := a, entry := .lines n e b } := by
    cases c.current with
    | none => simp
    | some e => cases e; simp [isLines_iff]
  rw [Chan.inLines, Bool.and_eq_true, beq_iff_eq, hcur, and_comm]

theorem lineCount_of_not_lines {e : Entry} (h : ∀ n o b, e ≠ .lines n o b) : e.lineCount = 0 := by
  unfold Entry.lineCount
  split
  next n o b => exact absurd rfl (h n o b)
  next => rfl

section
variable {c : Chan}

theorem windowCount_of_not_inLines (h : c.inLines = false) : c.windowCount = 0 :=
  if_neg (Bool.eq_false_iff.mp h)

variable (h : c.inLines = true)
include h

/-- Behind the trailing edge the entry that is next adds no line. -/
theorem windowCount_of_edge (he : c.edge.isSome = true) : c.windowCount = c.remaining := by
  obtain ⟨k, hk⟩ := Option.isSome_iff_exists.mp he
  simp [Chan.windowCount, h, hk]

theorem windowCount_of_next_lines (he : c.edge = none) {a n : Nat} {e : Option EdgeOption} {b : Nat}
    (hn : c.next = some { addr := a, entry := .lines n e b }) : c.windowCount = c.remaining + n := by
  simp [Chan.windowCount, h, he, hn, Entry.lineCount]

theorem windowCount_of_next_other (he : c.edge = none)
    (hn : ∀ a n e b, c.next ≠ some { addr := a, entry := .lines n e b }) :
    c.windowCount = c.remaining := by
  have hcount : (c.next.elim 0 fun e => e.entry.lineCount) = 0 := by
    cases hnext : c.next with
    | none => rfl
    | some e => exact lineCount_of_not_lines fun n o b hb => hn e.addr n o b (by rw [hnext, ← hb])
  simp [Chan.windowCount, h, he, hcount]

end

theorem slotsLeft_of_nil {s : State} {i : Fin 16} (h : (s.slot i).chain = []) : s.slotsLeft i = 0 := by
  simp [State.slotsLeft, h]

theorem slotsLeft_of_append {s : State} {i : Fin 16} {pre : List Nat} {b : Nat}
    (h : (s.slot i).chain = pre ++ [b]) : s.slotsLeft i = 64 - s.bandUsed b := by
  simp [State.slotsLeft, h]

/-! ## Print's link: the steps owed and the caps of the copies (06 R132) -/

/-- The limit that a copy whose burn has not ended gives a candidate `j`, at the distance `d` of its group. -/
def Copy.Limits (c : Copy) (j d : Nat) : Prop :=
  (∀ k, c.cap = some k → j ≤ k + d - 1) ∧ (c.cap = none → j + 1 ≤ d - 1)

theorem copiesAllow_cons (spl g j i : Nat) (c : Copy) (rest : List Copy) :
    copiesAllow spl g j i (c :: rest) = true ↔
      (c.ended = false → c.Limits j (groupDistance spl g i)) ∧
        copiesAllow spl g j (i + 1) rest = true := by
  rw [copiesAllow, Bool.and_eq_true]
  refine and_congr_left fun _ => ?_
  unfold Copy.Limits
  cases c.ended <;> cases c.cap <;> simp

theorem copiesAllow_iff (spl g j : Nat) (cs : List Copy) (i : Nat) :
    copiesAllow spl g j i cs = true ↔
      ∀ (n : Nat) (c : Copy), cs[n]? = some c → c.ended = false → c.Limits j (groupDistance spl g (i + n)) := by
  induction cs generalizing i with
  | nil => simp [copiesAllow]
  | cons c rest ih =>
    rw [copiesAllow_cons, ih]
    constructor
    · rintro ⟨hhead, hrest⟩ n d hd he
      cases n with
      | zero => cases hd; exact hhead he
      | succ n => rw [← Nat.succ_add_eq_add_succ]; exact hrest n d hd he
    · intro h
      exact ⟨h 0 c rfl, fun n d hd he => by rw [Nat.succ_add_eq_add_succ]; exact h (n + 1) d hd he⟩

/-- Copies numbered from 0. -/
theorem groupDistance_succ (spl g i : Nat) : groupDistance spl g (1 + i) =
    if i = 0 then 1 else (spl - g) + (i - 1) * spl + 1 := by
  cases i with
  | zero => rfl
  | succ i => rw [groupDistance, if_neg (by omega), if_neg (by omega)]; congr 3; omega

theorem printAllows_iff {s : State} {x : Motor} {l : Link} {j : Nat} :
    s.printAllows x l j = true ↔
      j + 1 ≤ l.spl * s.print.queue.length - x.group ∧
        ∀ (i : Nat) (c : Copy), s.print.queue[i]? = some c → c.ended = false →
          c.Limits j (if i = 0 then 1 else (l.spl - x.group) + (i - 1) * l.spl + 1) := by
  simp only [State.printAllows, Bool.and_eq_true, decide_eq_true_eq, copiesAllow_iff, groupDistance_succ]

/-! ## The constraints of the two links together with those of every motor -/

section
variable {s : State} {j : Nat} {l : Link}

theorem allows_m2_of_linked (h : (s.motor .m2).link = some l) : s.allows .m2 j = false :=
  Bool.eq_false_iff.mpr fun ha => by
    obtain ⟨-, hlink, -⟩ := (allows_iff_of_linked h).mp ha
    simp [State.linkAllows] at hlink

theorem linkAllows_m0 (x : Motor) :
    s.linkAllows .m0 x l j = true ↔ j ≤ l.top ∧ s.scanAllows x l j = true := by
  simp [State.linkAllows]

theorem linkAllows_m1 (x : Motor) :
    s.linkAllows .m1 x l j = true ↔ j ≤ l.top ∧ s.printAllows x l j = true := by
  simp [State.linkAllows]

end

/-! ## The decision from rest (06 R112, R125, R130) -/

/-- The ramp table of a motor's host move, else of its link. -/
def State.rampTable (s : State) (x : Motor) : List Nat :=
  match x.move, x.link with
  | some v, _ => s.ramp v.ramp
  | none, some l => s.ramp l.ramp
  | none, none => []

/-- A motor that leaves rest on a ramp. -/
def Motor.started (x : Motor) (run : List Nat) : Motor :=
  { x with
    state := .moving
    committed := some 0
    due := some (run.getD 0 0)
    run
    dark := decide (x.state = .off)
    holdTimer := none }

theorem rampUsed_elim (s : State) (x : Motor) : (x.rampUsed.elim [] fun n => s.ramp n) = s.rampTable x := by
  unfold Motor.rampUsed State.rampTable
  cases x.move <;> cases x.link <;> rfl

section
variable {s : State} {m : MotorId}

theorem leaveRest_eq :
    s.leaveRest m = s.setMotor m ((s.motor m).started (s.rampTable (s.motor m))) := by
  simp only [State.leaveRest, rampUsed_elim]
  rfl

theorem restDecision_of_moving (h : (s.motor m).moving = true) : s.restDecision m = s := if_pos h

variable (h : (s.motor m).moving = false)
include h

theorem restDecision_of_not_allowed (ha : s.allows m 0 = false) :
    s.restDecision m = s.afterDecision m none := by
  simp [State.restDecision, State.govern, h, ha]

theorem restDecision_of_allowed (ha : s.allows m 0 = true) :
    s.restDecision m = (s.leaveRest m).afterDecision m (some 0) := by
  simp [State.restDecision, State.govern, h, ha]

end

/-- Settles O11: the candidates in their order, the constraints of a motor without a link and with either link,
the window and the chain they rest on, and the decision from rest. -/
theorem governorTakesTheLargestCandidate : Obligations.GovernorTakesTheLargestCandidate := by
  refine ⟨fun s m k => ⟨govern_above, govern_at, govern_below, rfl⟩,
    ⟨fun s m j => ⟨allows_iff_of_unlinked, fun l hl => ⟨?m2, ?m0, ?m1⟩⟩,
      fun c => ⟨inLines_iff c, windowCount_of_not_inLines, windowCount_of_edge,
        fun h he => ⟨fun a n e b => windowCount_of_next_lines h he, windowCount_of_next_other h he⟩⟩,
      fun s i => ⟨slotsLeft_of_nil, fun pre b => slotsLeft_of_append⟩⟩,
    fun s m => ⟨restDecision_of_moving, restDecision_of_not_allowed, restDecision_of_allowed, ?leave⟩⟩
  case m2 =>
    rintro rfl
    exact allows_m2_of_linked hl
  case m0 =>
    rintro rfl
    rw [allows_iff_of_linked hl, linkAllows_m0, scanAllows_iff]
    constructor
    · rintro ⟨hhost, ⟨htop, hline, hwindow, hnone, hpage, hrun⟩, hrest⟩
      exact ⟨hhost, htop, hline, hwindow, hnone, hpage, or_and_left.mpr ⟨hrest, hrun⟩⟩
    · rintro ⟨hhost, htop, hline, hwindow, hnone, hpage, hmove⟩
      obtain ⟨hrest, hrun⟩ := or_and_left.mp hmove
      exact ⟨hhost, ⟨htop, hline, hwindow, hnone, hpage, hrun⟩, hrest⟩
  case m1 =>
    rintro rfl
    rw [allows_iff_of_linked hl, linkAllows_m1, printAllows_iff]
    simp only [Motor.HostAllows, State.MayLeaveOn, Copy.Limits, and_assoc]
  case leave =>
    exact leaveRest_eq

end Sys2Proof.Machine
end

section
/-! PROOFS. One motor put in place of another, and the motors that reach rest or are halted at once (06 R112, R114,
R119, R121, R133, R135). -/

namespace Sys2Proof.Machine

/-! ## One motor context replaced -/

section
variable (s : State) (m : MotorId)

theorem setMotor_setMotor (x y : Motor) : (s.setMotor m x).setMotor m y = s.setMotor m y := by
  cases m <;> rfl

theorem setMotor_motor : s.setMotor m (s.motor m) = s := by cases m <;> rfl

theorem motorSet_motors (u : MotorUnit) (x : Motor) :
    u.set m x = { u with m0 := (u.set m x).m0, m1 := (u.set m x).m1, m2 := (u.set m x).m2 } := by
  cases m <;> rfl

theorem motorSet_eq (u : MotorUnit) (x : Motor) : u.set m x = { u.set m x with halts := u.halts } := by
  cases m <;> rfl

variable {s m}

/-- A motor unit in which one motor and the count of halts are replaced. -/
theorem motor_of_motors_set {t : State} {x : Motor} {k : Word}
    (h : t.motors = { s.motors.set m x with halts := k }) :
    t.motor m = x ∧ (∀ d, d ≠ m → t.motor d = s.motor d) ∧ t.motors.halts = k ∧
      t.motors.steps = s.motors.steps ∧
      t.motors = { s.motors with
        m0 := t.motors.m0, m1 := t.motors.m1, m2 := t.motors.m2, halts := t.motors.halts } := by
  have hother (d : MotorId) : t.motor d = (s.setMotor m x).motor d := by
    cases d <;> cases m <;> simp only [State.motor, h] <;> rfl
  refine ⟨(hother m).trans (motor_setMotor_self s m x), fun d hd => ?_, by rw [h], ?_, ?_⟩
  · rw [hother d, motor_setMotor_of_ne s x hd]
  · rw [h]; cases m <;> rfl
  · rw [h]; cases m <;> rfl

end

/-! ## Reaching rest (06 R112, R114, R121) -/

section
variable {s : State} {m : MotorId}

theorem hold_eq (x : Motor) (paused : Bool) : x.hold paused = { x with
    state := if x.holdTime = 0 ∧ x.autoRelease = true then .off else .hold
    k := none
    committed := none
    due := none
    run := []
    heldStep := false
    dark := false
    rampPath := none
    budget := if paused = true then some 0 else none
    move := none
    remaining := 0
    holdTimer := if x.holdTime = 0 then none else some (10 * x.holdTime)
    timerRelease := x.autoRelease } := by
  rw [Nat.mul_comm]
  rfl

theorem hold_moving (x : Motor) (paused : Bool) : (x.hold paused).moving = false := by
  rw [hold_eq]
  unfold Motor.moving
  dsimp only
  split <;> rfl

/-- A motor that reaches rest is put in HOLD, and a RAMP halt's path that has been run out is counted. -/
theorem reachRest_motors : (s.reachRest m).motors =
    { s.motors.set m ((s.motor m).hold (s.linkPaused m)) with
      halts := if (s.motor m).rampPath.isSome then s.motors.halts + 1 else s.motors.halts } := by
  unfold State.reachRest
  dsimp only
  split
  next => rw [raise_motors]; split <;> cases m <;> rfl
  next => split <;> cases m <;> rfl

theorem reachRest_sensor_halted {c : HaltCause} (h : (s.motor m).rampPath = some c) :
    (s.reachRest m).sensor =
      (s.raise (motorSource m) .halted (.motor (s.motor m).position (.halt c))).sensor := by
  simp only [State.reachRest, Motor.restReason, h]
  exact raise_sensor_congr (by rfl) _ _ _

theorem reachRest_sensor_done (h : (s.motor m).rampPath = none) {v : HostMove}
    (hv : (s.motor m).move = some v) :
    (s.reachRest m).sensor =
      (s.raise (motorSource m) .done
        (.motor (s.motor m).position (if v.shortened = true then .stopped else .complete))).sensor := by
  simp only [State.reachRest, Motor.restReason, h, hv]
  exact raise_sensor_congr (by rfl) _ _ _

theorem reachRest_sensor_silent (h : (s.motor m).rampPath = none) (hv : (s.motor m).move = none) :
    (s.reachRest m).sensor = s.sensor := by
  simp only [State.reachRest, Motor.restReason, h, hv]
  rfl

/-! ## A halt at once (06 R119, R133) -/

variable (s m) in
/-- The motor behind a halt at once: HALTED, and in HOLD where it was MOVING. -/
def State.haltedNow (c : HaltCause) : Motor :=
  let x := { s.motor m with
    halted := some (mergeHalt (s.motor m).halted { mode := .immediate, cause := c }) }
  if (s.motor m).moving then x.hold (s.linkPaused m) else x

variable (c : HaltCause)

theorem haltedNow_halted : (s.haltedNow m c).halted =
    some (mergeHalt (s.motor m).halted { mode := .immediate, cause := c }) := by
  unfold State.haltedNow
  cases (s.motor m).moving <;> rfl

theorem haltedNow_of_moving (hm : (s.motor m).moving = true) : s.haltedNow m c =
    Motor.hold { s.motor m with
      halted := some (mergeHalt (s.motor m).halted { mode := .immediate, cause := c }) }
      (s.linkPaused m) := if_pos hm

theorem haltedNow_of_rest (hm : (s.motor m).moving = false) : s.haltedNow m c =
    { s.motor m with
      halted := some (mergeHalt (s.motor m).halted { mode := .immediate, cause := c }) } :=
  if_neg (Bool.eq_false_iff.mp hm)

theorem haltMotor_of_rest (h : Halt) (hm : (s.motor m).moving = false) :
    s.haltMotor m h =
      s.setMotor m { s.motor m with halted := some (mergeHalt (s.motor m).halted h) } := by
  simp [State.haltMotor, hm]

theorem haltMotor_immediate_motors :
    (s.haltMotor m { mode := .immediate, cause := c }).motors =
      { s.motors.set m (s.haltedNow m c) with
        halts := if (s.motor m).moving then s.motors.halts + 1 else s.motors.halts } := by
  cases hm : (s.motor m).moving
  · rw [haltMotor_of_rest _ hm, haltedNow_of_rest c hm]
    exact motorSet_eq m _ _
  · rw [haltedNow_of_moving c hm]
    simp only [State.haltMotor, hm, Bool.not_true, Bool.false_eq_true, if_false, raise_motors]
    cases m <;> rfl

/-- The event of a MOVING motor's halt carries the cause that HALTED then has. -/
theorem haltMotor_immediate_sensor (hm : (s.motor m).moving = true) :
    (s.haltMotor m { mode := .immediate, cause := c }).sensor =
      (s.raise (motorSource m) .halted (.motor (s.motor m).position
        (.halt (mergeHalt (s.motor m).halted { mode := .immediate, cause := c }).cause))).sensor := by
  simp only [State.haltMotor, hm, Bool.not_true, Bool.false_eq_true, if_false]
  exact raise_sensor_congr (by rfl) _ _ _

end

/-! ## Completions behind a motor's effect -/

/-- A completion looks at no motor and no event. -/
theorem complete_recUnit_of_only {s t : State} (h : t = { s with
    motors := t.motors, power := t.power, sensor := t.sensor }) (c : ResultCode) (r : List Nat) :
    (t.complete c r).recUnit = (s.complete c r).recUnit := by
  rw [h]
  rfl

end Sys2Proof.Machine
end

section
/-! PROOFS. MOTOR MOVE: its checks in their order, and the host move it starts (06 R112, R114, R118, R126). -/

namespace Sys2Proof.Machine

/-! ## The numbers of motors, directions and ramps -/

theorem motorOf_of_gt {n : Nat} (h : 2 < n) : motorOf n = none := by
  obtain ⟨k, rfl⟩ := Nat.exists_eq_add_of_le' h
  rfl

theorem motorOf_of_le {n : Nat} (h : n ≤ 2) : ∃ m, motorOf n = some m := by
  match n, h with
  | 0, _ => exact ⟨.m0, rfl⟩
  | 1, _ => exact ⟨.m1, rfl⟩
  | 2, _ => exact ⟨.m2, rfl⟩

theorem dirOf_of_gt {n : Nat} (h : 1 < n) : dirOf n = none := by
  obtain ⟨k, rfl⟩ := Nat.exists_eq_add_of_le' h
  rfl

theorem rampOf_of_gt {n : Nat} (h : 3 < n) : rampOf n = none := dif_neg (by omega)

/-! ## The checks (06 R118) -/

section
variable {s : State} {bs : List Byte}

theorem exec_motorMove (h : InHand s 4 bs) :
    exec .motorMove s = .next (State.settle s.moveCommand) := runIf_of (cmdIs_of_inHand h _) s _

variable (h : s.cmdBytes = bs)
include h

theorem moveCommand_badTarget (hm : motorOf (wordAt bs 4) = none) :
    s.moveCommand = s.refuse .badTarget := by
  subst h
  simp only [State.moveCommand, hm]

variable {m : MotorId} (hm : motorOf (wordAt bs 4) = some m)
include hm

theorem moveCommand_badRange
    (hr : 1 < wordAt bs 6 ∨ 3 < wordAt bs 12 ∨ dwordAt bs 8 = 0 ∨ 16777215 < dwordAt bs 8) :
    s.moveCommand = s.refuse .badRange := by
  subst h
  simp only [State.moveCommand, hm]
  split
  next dir n hd hn =>
    have hcount : dwordAt s.cmdBytes 8 = 0 ∨ 16777215 < dwordAt s.cmdBytes 8 :=
      hr.elim (fun hgt => by rw [dirOf_of_gt hgt] at hd; cases hd) fun hr =>
        hr.elim (fun hgt => by rw [rampOf_of_gt hgt] at hn; cases hn) id
    exact if_pos hcount
  next => rfl

variable {dir : Dir} {n : Fin 4} (hd : dirOf (wordAt bs 6) = some dir) (hn : rampOf (wordAt bs 12) = some n)
  (h1 : 1 ≤ dwordAt bs 8) (h2 : dwordAt bs 8 ≤ 16777215)
include hd hn h1 h2

/-- With its operands in range the command looks at the power state and at the motor. -/
theorem moveCommand_of_ranges : s.moveCommand =
    if s.power.state = .drain then s.refuse .powerPending
    else if (s.motor m).link.isSome then s.refuse .motorLinked
    else if (s.motor m).moving ∨ (s.motor m).halted.isSome then s.refuse .motorBusy
    else ((s.leaveDoze 4).startMove m dir (dwordAt bs 8) n (s.clampTop n (wordAt bs 14))).complete .done
      [s.clampTop n (wordAt bs 14)] := by
  subst h
  have hcount : ¬(dwordAt s.cmdBytes 8 = 0 ∨ 16777215 < dwordAt s.cmdBytes 8) := by omega
  simp only [State.moveCommand, hm, hd, hn, if_neg hcount]

end

/-! ## The decision from rest that a host move gets (06 R125, R126) -/

section
variable {s : State} {m : MotorId}

theorem afterDecision_of_unlinked (hl : (s.motor m).link = none) (j : Option Nat) :
    s.afterDecision m j = s := by
  cases m
  · rw [motor_m0] at hl
    simp only [State.afterDecision, State.reserveFor, hl]
  · rfl
  · rfl

/-- A motor without a link that may not leave rest stays as it is. -/
theorem restDecision_of_unlinked (hl : (s.motor m).link = none) (hm : (s.motor m).moving = false) :
    s.restDecision m = if s.allows m 0 = true then s.leaveRest m else s := by
  have hl' : ((s.leaveRest m).motor m).link = none := by
    rw [leaveRest_eq, motor_setMotor_self]
    exact hl
  cases ha : s.allows m 0
  · rw [restDecision_of_not_allowed hm ha, afterDecision_of_unlinked hl]; rfl
  · rw [restDecision_of_allowed hm ha, afterDecision_of_unlinked hl']; rfl

/-- A motor with a host move in force, the decision from rest not yet made. -/
def Motor.withMove (x : Motor) (v : HostMove) (count : Nat) : Motor :=
  { x with move := some v, remaining := count }

/-- The motor of an accepted MOTOR MOVE, which the governor lets leave rest or not. -/
def Motor.movedOn (x : Motor) (v : HostMove) (count : Nat) (run : List Nat) (allowed : Bool) : Motor :=
  if allowed then (x.withMove v count).started run else x.withMove v count

theorem movedOn_move (x : Motor) (v : HostMove) (count : Nat) (run : List Nat) (allowed : Bool) :
    (x.movedOn v count run allowed).move = some v := by cases allowed <;> rfl

theorem movedOn_remaining (x : Motor) (v : HostMove) (count : Nat) (run : List Nat) (allowed : Bool) :
    (x.movedOn v count run allowed).remaining = count := by cases allowed <;> rfl

theorem leaveRest_withMove (v : HostMove) (count : Nat) :
    (s.setMotor m ((s.motor m).withMove v count)).leaveRest m =
      s.setMotor m (((s.motor m).withMove v count).started (s.ramp v.ramp)) := by
  rw [leaveRest_eq, setMotor_setMotor, motor_setMotor_self]
  simp only [State.rampTable, Motor.withMove, setMotor_ramp]

theorem startMove_eq {dir : Dir} {count top : Nat} {n : Fin 4}
    (hl : (s.motor m).link = none) (hm : (s.motor m).moving = false) :
    s.startMove m dir count n top = s.setMotor m
      ((s.motor m).movedOn { dir, ramp := n, top, shortened := false } count (s.ramp n)
        ((s.setMotor m ((s.motor m).withMove { dir, ramp := n, top, shortened := false } count)).allows
          m 0)) := by
  have hu := motor_setMotor_self s m
    ((s.motor m).withMove { dir, ramp := n, top, shortened := false } count)
  have hstart : s.startMove m dir count n top =
      (s.setMotor m ((s.motor m).withMove { dir, ramp := n, top, shortened := false } count)).restDecision
        m := rfl
  rw [hstart, restDecision_of_unlinked (by rw [hu]; exact hl) (by rw [hu]; exact hm), leaveRest_withMove]
  generalize State.allows _ m 0 = allowed
  cases allowed <;> rfl

/-- Without a stop budget a host move leaves rest: its first step is within its top index and its steps. -/
theorem withMove_allowed {v : HostMove} {count : Nat} (hw : s.recUnit.work = none)
    (hl : (s.motor m).link = none) (hh : (s.motor m).halted = none) (hb : (s.motor m).budget = none)
    (hc : 1 ≤ count) : (s.setMotor m ((s.motor m).withMove v count)).allows m 0 = true := by
  have hu := motor_setMotor_self s m ((s.motor m).withMove v count)
  rw [allows_iff_of_unlinked (by rw [hu]; exact hl), hu]
  refine ⟨⟨fun b hb' => ?budget, fun v hv => ⟨Nat.zero_le _, hc⟩⟩, .inr ⟨hh, v, rfl, fun d hd => ?load⟩⟩
  case budget => rw [Motor.withMove, hb] at hb'; cases hb'
  case load => rw [setMotor_recUnit, hw] at hd; cases hd

end

/-- Settles O26: the checks in their order, and the move that is accepted. -/
theorem motorMoveStartsAHostMove : Obligations.MotorMoveStartsAHostMove := by
  refine fun s bs hin => ⟨fun hm => ?target, fun m hm => ⟨fun hr => ?range, fun dir n hd hn h1 h2 =>
    ⟨fun hp => ?drain, fun hp hl => ?linked, fun hp hl hb => ?busy, fun hp hl hm' hh => ?accepted⟩⟩⟩
  all_goals
    have hc := cmdBytes_of_inHand hin
    rw [exec_motorMove hin]
  case target => rw [moveCommand_badTarget hc hm]
  case range => rw [moveCommand_badRange hc hm hr]
  all_goals rw [moveCommand_of_ranges hc hm hd hn h1 h2]
  case drain => rw [if_pos hp]
  case linked => rw [if_neg hp, if_pos hl]
  all_goals have hl' : ¬(s.motor m).link.isSome = true := by rw [hl]; exact Bool.false_ne_true
  case busy => rw [if_neg hp, if_neg hl', if_pos hb]
  case accepted =>
    have hb : ¬((s.motor m).moving = true ∨ (s.motor m).halted.isSome = true) := by
      rw [hm', hh]
      simp
    rw [if_neg hp, if_neg hl', if_neg hb]
    rw [startMove_eq (by rw [leaveDoze_motor, hl]) (by rw [leaveDoze_motor, hm'])]
    have hallowed (hbud : (s.motor m).budget = none) := withMove_allowed (s := s.leaveDoze 4) (m := m)
      (v := { dir, ramp := n, top := s.clampTop n (wordAt bs 14), shortened := false })
      (by rw [leaveDoze_recUnit, work_of_inHand hin]) (by rw [leaveDoze_motor, hl])
      (by rw [leaveDoze_motor, hh]) (by rw [leaveDoze_motor, hbud]) h1
    rw [leaveDoze_motor] at hallowed ⊢
    rw [leaveDoze_ramp]
    generalize ((s.leaveDoze 4).setMotor m _).allows m 0 = allowed at hallowed ⊢
    have hself (y : Motor) : (((s.leaveDoze 4).setMotor m y).complete .done
        [s.clampTop n (wordAt bs 14)]).motor m = y := by
      rw [complete_motor, motor_setMotor_self]
    refine ⟨_, rfl, by rw [hself, movedOn_move]; rfl, by rw [hself, movedOn_remaining], fun hbud => ?_,
      fun hbud hoff => ?_, fun d hd => ?_, leaveDoze_power s 4, leaveDoze_sensor s 4, ?_, ?_, ?_⟩
    · rw [hself, hallowed hbud]
      rfl
    · rw [hself, hallowed hbud]
      simp [Motor.phaseOut, Motor.movedOn, Motor.started, Motor.withMove, hoff]
    · rw [complete_motor, motor_setMotor_of_ne _ _ hd, leaveDoze_motor]
    · refine complete_recUnit_of_only ?_ _ _
      rw [State.setMotor, leaveDoze_only]
    · rw [complete_motors, setMotor_motors, leaveDoze_motors]
      exact motorSet_motors m _ _
    · rw [State.complete, State.setMotor, leaveDoze_only]

end Sys2Proof.Machine
end

section
/-! PROOFS. MOTOR STOP, MOTOR RESUME, MOTOR RELEASE, the hold timer, and a motor's outputs (06 R113, R114, R119,
R120; logs 25 to 27). -/

namespace Sys2Proof.Machine

/-! ## The rows and their commands -/

section
variable {s : State} {bs : List Byte}

theorem exec_motorStopRamp (h : InHand s 5 bs) (hmode : wordAt bs 6 ≠ 1) :
    exec .motorStopRamp s = .next (State.settle s.stopRampCommand) :=
  runIf_of ((cmdIs_of_inHand h fun bs => wordAt bs 6 != 1).trans (bne_iff_ne.mpr hmode)) s _

theorem exec_motorStopImmediate (h : InHand s 5 bs) (hmode : wordAt bs 6 ≠ 0) :
    exec .motorStopImmediate s = .next (State.settle s.stopNowCommand) :=
  runIf_of ((cmdIs_of_inHand h fun bs => wordAt bs 6 != 0).trans (bne_iff_ne.mpr hmode)) s _

theorem exec_motorResume (h : InHand s 6 bs) :
    exec .motorResume s = .next (State.settle s.motorResumeCommand) := runIf_of (cmdIs_of_inHand h _) s _

theorem exec_motorRelease (h : InHand s 7 bs) :
    exec .motorRelease s = .next (State.settle s.motorReleaseCommand) := runIf_of (cmdIs_of_inHand h _) s _

variable (h : s.cmdBytes = bs)
include h

/-! ## A motor above 2 (10 R183) -/

section
variable (hm : motorOf (wordAt bs 4) = none)
include hm

theorem stopRampCommand_badTarget : s.stopRampCommand = s.refuse .badTarget := by
  subst h; simp only [State.stopRampCommand, hm]

theorem stopNowCommand_badTarget : s.stopNowCommand = s.refuse .badTarget := by
  subst h; simp only [State.stopNowCommand, hm]

theorem motorResumeCommand_badTarget : s.motorResumeCommand = s.refuse .badTarget := by
  subst h; simp only [State.motorResumeCommand, hm]

theorem motorReleaseCommand_badTarget : s.motorReleaseCommand = s.refuse .badTarget := by
  subst h; simp only [State.motorReleaseCommand, hm]

end

/-! ## A motor of the part -/

variable {m : MotorId} (hm : motorOf (wordAt bs 4) = some m)
include hm

theorem stopRampCommand_of : s.stopRampCommand =
    if wordAt bs 6 ≠ 0 then s.refuse .badRange
    else if (s.motor m).link.isSome then s.refuse .motorLinked
    else (s.setMotor m (s.motor m).stopRamp).complete .done [] := by
  subst h; simp only [State.stopRampCommand, hm]

theorem stopNowCommand_of : s.stopNowCommand =
    if wordAt bs 6 ≠ 1 then s.refuse .badRange
    else (s.haltMotor m { mode := .immediate, cause := .command }).complete .done [] := by
  subst h; simp only [State.stopNowCommand, hm]

theorem motorResumeCommand_of : s.motorResumeCommand =
    (s.setMotor m { s.motor m with halted := none }).complete .done [] := by
  subst h; simp only [State.motorResumeCommand, hm]

theorem motorReleaseCommand_of : s.motorReleaseCommand =
    if (s.motor m).moving then s.refuse .motorBusy
    else (s.setMotor m (s.motor m).release).complete .done [] := by
  subst h; simp only [State.motorReleaseCommand, hm]

end

/-! ## What a command makes of its motor -/

section
variable {x : Motor}

theorem stopRamp_of_committed {v : HostMove} {j : Nat} (hv : x.move = some v) (hj : x.committed = some j) :
    x.stopRamp = { x with
      remaining := min x.remaining (j + 1)
      move := some { v with shortened := v.shortened || decide (j + 1 < x.remaining) } } := by
  simp only [Motor.stopRamp, hv, hj]

theorem stopRamp_of_no_path (h : x.move = none ∨ x.committed = none) : x.stopRamp = x := by
  unfold Motor.stopRamp
  split
  next v j hv hj => simp [hv, hj] at h
  next => rfl

theorem mergeHalt_none (h : Halt) : mergeHalt none h = h := rfl

theorem release_of_hold (h : x.state = .hold) : x.release = { x with state := .off, holdTimer := none } :=
  if_pos h

theorem release_of_not_hold (h : x.state ≠ .hold) : x.release = x := if_neg h

/-! ## The outputs (06 R113, R114) -/

theorem phaseOut_of_dark (h : x.state = .off ∨ x.dark = true) : x.phaseOut = 0 := if_pos h

theorem phaseOut_of_lit (h : x.state ≠ .off) (hd : x.dark = false) :
    x.phaseOut = x.phaseTable.getD x.phase 0 :=
  if_neg fun hor => hor.elim h fun hd' => Bool.false_ne_true (hd.symm.trans hd')

theorem reduced_iff : x.reduced = true ↔ x.state = .hold := beq_iff_eq

end

/-- Settles O27: the outputs; MOTOR STOP with either mode, and the refusals; MOTOR RESUME and MOTOR RELEASE; the
hold timer. -/
theorem motorStopResumeAndRelease : Obligations.MotorStopResumeAndRelease := by
  refine ⟨fun x => ⟨phaseOut_of_dark, phaseOut_of_lit, reduced_iff⟩,
    fun s bs m hin hm => ⟨fun hmode => ⟨fun hl => ?linked, fun hl => ?ramp⟩, fun hmode => ?now⟩,
    fun s bs => ⟨fun hin hgt => ⟨fun h => ?rampTarget, fun h => ?nowTarget⟩,
      fun hin hle hgt => ?badMode, fun hin hgt => ?resumeTarget, fun hin hgt => ?releaseTarget⟩,
    fun s bs m hm => ⟨fun hin => ?resume, fun hin => ⟨fun h => ?busy, fun h => ?hold, fun h => ?off⟩⟩,
    fun s m hs ht => ?timer⟩
  case linked =>
    rw [exec_motorStopRamp hin (by omega), stopRampCommand_of (cmdBytes_of_inHand hin) hm,
      if_neg (by omega), if_pos hl]
  case ramp =>
    rw [exec_motorStopRamp hin (by omega), stopRampCommand_of (cmdBytes_of_inHand hin) hm,
      if_neg (by omega), if_neg (by rw [hl]; exact Bool.false_ne_true)]
    refine ⟨_, rfl, fun v j hv hj => ?_, fun h => ?_, fun d hd => ?_, rfl, motorSet_motors m _ _, rfl⟩
    · rw [complete_motor, motor_setMotor_self, stopRamp_of_committed hv hj]
    · rw [complete_motor, motor_setMotor_self, stopRamp_of_no_path h]
    · rw [complete_motor, motor_setMotor_of_ne _ _ hd]
  case now =>
    rw [exec_motorStopImmediate hin (by omega), stopNowCommand_of (cmdBytes_of_inHand hin) hm,
      if_neg (by omega)]
    obtain ⟨hself, hother, hhalts, hsteps, hunit⟩ :=
      motor_of_motors_set (s := s) (m := m) (haltMotor_immediate_motors .command)
    have hhalted := haltedNow_halted (s := s) (m := m) .command
    refine ⟨_, rfl, ?_, fun hnone => ?_, fun hmov => ?_, fun hmov => ?_, fun d hd => ?_, hsteps,
      complete_recUnit_of_only ?_ _ _, hunit, ?_⟩
    · rw [complete_motor, hself, hhalted]
    · rw [complete_motor, hself, hhalted, hnone, mergeHalt_none]
    · rw [complete_motor, hself, haltedNow_of_moving _ hmov, complete_motors, hhalts, if_pos hmov]
      refine ⟨hold_moving _ _, rfl, rfl, rfl, rfl, rfl, rfl, rfl, rfl, rfl, rfl, rfl, rfl, rfl, rfl, rfl, rfl,
        fun c hc => ?_⟩
      rw [← Option.some.inj hc]
      exact haltMotor_immediate_sensor .command hmov
    · rw [complete_motor, hself, complete_motors, hhalts, complete_sensor, haltMotor_of_rest _ hmov,
        haltedNow_of_rest _ hmov, hmov]
      exact ⟨rfl, rfl, rfl⟩
    · rw [complete_motor, hother d hd]
    · rw [haltMotor_only]
    · rw [State.complete, haltMotor_only]
  case rampTarget =>
    rw [exec_motorStopRamp hin h, stopRampCommand_badTarget (cmdBytes_of_inHand hin) (motorOf_of_gt hgt)]
  case nowTarget =>
    rw [exec_motorStopImmediate hin h,
      stopNowCommand_badTarget (cmdBytes_of_inHand hin) (motorOf_of_gt hgt)]
  case badMode =>
    obtain ⟨m, hm⟩ := motorOf_of_le hle
    rw [exec_motorStopRamp hin (by omega), stopRampCommand_of (cmdBytes_of_inHand hin) hm,
      exec_motorStopImmediate hin (by omega), stopNowCommand_of (cmdBytes_of_inHand hin) hm,
      if_pos (by omega), if_pos (by omega)]
    exact ⟨rfl, rfl⟩
  case resumeTarget =>
    rw [exec_motorResume hin, motorResumeCommand_badTarget (cmdBytes_of_inHand hin) (motorOf_of_gt hgt)]
  case releaseTarget =>
    rw [exec_motorRelease hin, motorReleaseCommand_badTarget (cmdBytes_of_inHand hin) (motorOf_of_gt hgt)]
  case resume => rw [exec_motorResume hin, motorResumeCommand_of (cmdBytes_of_inHand hin) hm]
  case busy =>
    rw [exec_motorRelease hin, motorReleaseCommand_of (cmdBytes_of_inHand hin) hm,
      if_pos ((moving_iff _).mpr h)]
  case hold =>
    rw [exec_motorRelease hin, motorReleaseCommand_of (cmdBytes_of_inHand hin) hm,
      if_neg (by rw [moving_iff, h]; decide), release_of_hold h]
  case off =>
    rw [exec_motorRelease hin, motorReleaseCommand_of (cmdBytes_of_inHand hin) hm,
      if_neg (by rw [moving_iff, h]; decide), release_of_not_hold (by rw [h]; decide), setMotor_motor]
  case timer =>
    exact runIf_of (by rw [hs, ht]; rfl) s _

end Sys2Proof.Machine
end

section
/-! PROOFS. A motor step: the held step, the issued step with its group, the decision that goes with it, and the
reservation (06 R112 to R114, R121, R124 to R126, R130; 04 R88, R89; 01 R13). -/

namespace Sys2Proof.Machine

/-! ## The step and its group (06 R113, R124, R125) -/

/-- The step is the last of the motor's group. -/
def Motor.fillsGroup (x : Motor) : Bool := x.link.any fun l => decide (l.spl ≤ x.group + 1)

/-- A motor behind the issue of its committed step `j`, its group counted. -/
def Motor.stepped (x : Motor) (j : Nat) : Motor :=
  { x with
    k := some j
    committed := none
    due := none
    dark := false
    phase := stepPhase x.phaseLen x.phase x.dir
    position := stepPosition x.position x.dir
    group := if x.fillsGroup then 0 else if x.link.isSome then x.group + 1 else x.group }

/-- The state with another count of steps. -/
def State.withSteps (s : State) (n : Word) : State :=
  { s with motors := { s.motors with steps := n } }

/-- A step is issued and counted, a completed group not yet having had its effect. -/
def State.stepped (s : State) (m : MotorId) (j : Nat) : State :=
  (s.setMotor m ((s.motor m).stepped j)).withSteps (s.motors.steps + 1)

/-- A step is issued, and a completed group has had its effect. -/
def State.grouped (s : State) (m : MotorId) (j : Nat) : State :=
  if (s.motor m).fillsGroup then (s.stepped m j).groupDone m else s.stepped m j

/-- The budgets fall behind a step, and the governor commits an index or lets the motor rest. -/
def State.decided (w : State) (m : MotorId) (j : Nat) : State :=
  let d := w.fallBudgets m
  match d.govern m (some j) with
  | some i =>
    (d.setMotor m { d.motor m with
      committed := some i, due := some ((d.motor m).run.getD i 0) }).afterDecision m (some i)
  | none => (d.reachRest m).afterDecision m none

section
variable {s : State} {m : MotorId} {j : Nat}

theorem stepped_group (x : Motor) : (x.stepped j).group =
    match x.link with
    | none => x.group
    | some l => if l.spl ≤ x.group + 1 then 0 else x.group + 1 := by
  unfold Motor.stepped Motor.fillsGroup
  cases x.link with
  | none => rfl
  | some l => simp

theorem withSteps_motor (n : Word) (d : MotorId) : (s.withSteps n).motor d = s.motor d := by cases d <;> rfl

theorem withSteps_setMotor (n : Word) (x : Motor) :
    (s.withSteps n).setMotor m x = (s.setMotor m x).withSteps n := by cases m <;> rfl

/-- Issuing the committed step does all of the step but the count of its group. -/
theorem issue_eq {x : Motor} (hc : x.committed = some j) (hh : x.heldStep = false) (g : Nat) :
    { x.issue with group := g } = { x.stepped j with group := g } := by
  simp [Motor.issue, Motor.stepped, hc, hh]

theorem countGroup_issue (hc : (s.motor m).committed = some j) (hh : (s.motor m).heldStep = false)
    (n : Word) : ((s.setMotor m (s.motor m).issue).withSteps n).countGroup m =
      (if (s.motor m).fillsGroup then
        ((s.setMotor m ((s.motor m).stepped j)).withSteps n).groupDone m
      else (s.setMotor m ((s.motor m).stepped j)).withSteps n) := by
  have hgroup (g : Nat) (hg : ((s.motor m).stepped j).group = g) :
      { (s.motor m).issue with group := g } = (s.motor m).stepped j := by
    rw [issue_eq hc hh, ← hg]
  simp only [State.countGroup, withSteps_motor, motor_setMotor_self, withSteps_setMotor, setMotor_setMotor]
  split
  next hl =>
    have hl' : (s.motor m).link = none := hl
    rw [← hgroup _ (stepped_group _)]
    simp only [Motor.fillsGroup, hl', Option.any_none, Bool.false_eq_true, if_false]
    rfl
  next l hl =>
    have hl' : (s.motor m).link = some l := hl
    have hg := stepped_group (j := j) (s.motor m)
    simp only [hl'] at hg
    simp only [Motor.fillsGroup, hl', Option.any_some, decide_eq_true_eq]
    by_cases hf : l.spl ≤ (s.motor m).group + 1
    · rw [if_pos hf] at hg
      rw [if_pos hf, ← hgroup _ hg]
      exact if_pos hf
    · rw [if_neg hf] at hg
      rw [if_neg hf, ← hgroup _ hg]
      exact if_neg hf

/-- The head copy leaves, and the burn of the one behind it begins (04 R89). -/
theorem headLeaves_eq : s.headLeaves = { s with print := { s.print with
    queue := s.print.queue.drop 1
    head := if s.print.queue.length ≤ 1 then .idle else .shifting } } := by
  have hempty : (s.print.queue.drop 1).isEmpty = true ↔ s.print.queue.length ≤ 1 := by
    rw [List.isEmpty_iff, List.drop_eq_nil_iff]
  simp only [State.headLeaves, hempty]

end

/-! ## What a completed group leaves as it is (03 R62; 04 R89)

Of the parts that `settle` keeps, a trigger changes the count of captures begun alone. -/

section
variable {s : State}

theorem truncateScan_kept : s.truncateScan.kept = s.kept := by
  unfold State.truncateScan
  split
  · exact kept_of_held (setSlot_held s _ _)
  · rfl

theorem armBuffer_kept (b : BufId) (p : PageRef) (n addr : Nat) (tail : Bool) :
    (s.armBuffer b p n addr tail).kept =
      { s.kept with starts := (s.armBuffer b p n addr tail).scan.starts } := by
  cases h : s.scan.busy
  · rw [armBuffer_of_free s b p n addr tail h]
    cases b <;> rfl
  · rw [armBuffer_of_busy s b p n addr tail h]
    cases b <;> rfl

theorem offerTrigger_kept : ∃ n, s.offerTrigger.kept = { s.kept with starts := n } := by
  have hcut : ∃ n, s.truncateScan.kept = { s.kept with starts := n } := ⟨_, truncateScan_kept⟩
  unfold State.offerTrigger
  dsimp only
  split
  · exact ⟨_, rfl⟩
  rename_i p hp
  split
  · split
    · exact hcut
    rename_i b hb
    split
    · exact ⟨_, rfl⟩
    · exact hcut
    · rename_i s1 n addr heq
      have h1 : s1.kept = s.kept := by
        have h := kept_of_held (assignLine_held s p.slot true)
        rwa [heq] at h
      have h2 : ((s1.armBuffer b p n addr s.chans.scan.nextIsTail).countLine .scan).kept =
          { s.kept with starts := (s1.armBuffer b p n addr s.chans.scan.nextIsTail).scan.starts } := by
        rw [kept_of_held (countLine_held _ .scan), armBuffer_kept, h1]
      split
      · exact ⟨_, (kept_of_held (endIfDone_held _ .scan)).trans h2⟩
      split
      · exact ⟨_, (kept_of_held (endAtLimit_held _ .scan)).trans h2⟩
      · exact ⟨_, h2⟩
  · exact hcut

theorem groupDone_kept (m : MotorId) : ∃ n, (s.groupDone m).kept = { s.kept with starts := n } := by
  cases m with
  | m0 => exact offerTrigger_kept
  | m1 => exact ⟨_, rfl⟩
  | m2 => exact ⟨_, rfl⟩

theorem grouped_kept (m : MotorId) (j : Nat) :
    ∃ n, (s.grouped m j).kept = { (s.stepped m j).kept with starts := n } := by
  unfold State.grouped
  split
  · exact groupDone_kept m
  · exact ⟨_, rfl⟩

end

/-! ## What a decision and what follows within the step leave as they are -/

/-- `t` has the outputs' position, the groups, the counts, the tables and the units of `s` that no decision of the
governor changes. -/
structure SameSteps (s t : State) : Prop where
  motor : ∀ d, (t.motor d).phase = (s.motor d).phase ∧ (t.motor d).position = (s.motor d).position ∧
    (t.motor d).group = (s.motor d).group
  steps : t.motors.steps = s.motors.steps
  ramps : t.motors.ramps = s.motors.ramps
  strobe : t.print.strobe = s.print.strobe
  eeprom : t.eeprom = s.eeprom
  boot : t.boot = s.boot
  power : t.power = s.power

section
variable {s t u : State} {m : MotorId} {j : Nat}

theorem SameSteps.trans (h : SameSteps s t) (g : SameSteps t u) : SameSteps s u where
  motor d := by
    obtain ⟨h1, h2, h3⟩ := h.motor d
    obtain ⟨g1, g2, g3⟩ := g.motor d
    exact ⟨g1.trans h1, g2.trans h2, g3.trans h3⟩
  steps := g.steps.trans h.steps
  ramps := g.ramps.trans h.ramps
  strobe := g.strobe.trans h.strobe
  eeprom := g.eeprom.trans h.eeprom
  boot := g.boot.trans h.boot
  power := g.power.trans h.power

/-- Beyond the captures begun, `t` has the kept parts of `s`. -/
theorem motor_kept_of_starts {n : Nat} (h : t.kept = { s.kept with starts := n }) (d : MotorId) :
    (t.motor d).kept = (s.motor d).kept := by
  cases d
  · exact congrArg Kept.m0 h
  · exact congrArg Kept.m1 h
  · exact congrArg Kept.m2 h

theorem SameSteps.of_starts {n : Nat} (h : t.kept = { s.kept with starts := n }) : SameSteps s t where
  motor d := by
    have hd := motor_kept_of_starts h d
    exact ⟨congrArg KeptMotor.phase hd, congrArg KeptMotor.position hd, congrArg KeptMotor.group hd⟩
  steps := congrArg Kept.steps h
  ramps := congrArg Kept.ramps h
  strobe := congrArg Kept.strobe h
  eeprom := congrArg Kept.eeprom h
  boot := congrArg Kept.boot h
  power := congrArg Kept.power h

theorem SameSteps.of_kept (h : t.kept = s.kept) : SameSteps s t := .of_starts (n := s.kept.starts) h

/-- One motor is replaced, with no step of it, and the halts are counted. -/
theorem SameSteps.of_motors {x : Motor} {k : Word} (hm : t.motors = { s.motors.set m x with halts := k })
    (ht : t = { s with motors := t.motors, sensor := t.sensor })
    (hp : x.phase = (s.motor m).phase) (hq : x.position = (s.motor m).position)
    (hg : x.group = (s.motor m).group) : SameSteps s t where
  motor d := by
    obtain ⟨hself, hother, -⟩ := motor_of_motors_set hm
    by_cases hd : d = m
    · rw [hd, hself]; exact ⟨hp, hq, hg⟩
    · rw [hother d hd]; exact ⟨rfl, rfl, rfl⟩
  steps := by rw [hm]; exact motorSet_steps _ m x
  ramps := by rw [hm]; exact motorSet_ramps _ m x
  strobe := by rw [ht]
  eeprom := by rw [ht]
  boot := by rw [ht]
  power := by rw [ht]

theorem reachRest_sameSteps : SameSteps s (s.reachRest m) :=
  .of_motors reachRest_motors (reachRest_only s m) rfl rfl rfl

theorem setMotor_sameSteps {x : Motor} (hp : x.phase = (s.motor m).phase)
    (hq : x.position = (s.motor m).position) (hg : x.group = (s.motor m).group) :
    SameSteps s (s.setMotor m x) := .of_motors (motorSet_eq m _ x) rfl hp hq hg

theorem fallBudgets_sameSteps : SameSteps s (s.fallBudgets m) := setMotor_sameSteps rfl rfl rfl

theorem afterDecision_sameSteps (i : Option Nat) : SameSteps s (s.afterDecision m i) :=
  .of_kept (kept_of_held (afterDecision_held s m i))

theorem afterDecision_k (i : Option Nat) (d : MotorId) :
    ((s.afterDecision m i).motor d).k = (s.motor d).k :=
  congrArg KeptMotor.k (kept_motor (kept_of_held (afterDecision_held s m i)) d)

/-! ## The decision that goes with a step (06 R125, R126) -/

theorem decided_sameSteps : SameSteps s (s.decided m j) := by
  unfold State.decided
  dsimp only
  refine (fallBudgets_sameSteps (m := m)).trans ?_
  split
  · refine .trans ?_ (afterDecision_sameSteps _)
    exact setMotor_sameSteps rfl rfl rfl
  · exact reachRest_sameSteps.trans (afterDecision_sameSteps _)

/-- A step leaves the motor at its committed index, or at rest out of index 0. -/
theorem decided_k (hk : (s.motor m).k = some j) :
    ((s.decided m j).motor m).k = some j ∨ ((s.decided m j).motor m).k = none ∧ j = 0 := by
  unfold State.decided
  dsimp only
  split
  next i hi =>
    left
    rw [afterDecision_k, motor_setMotor_self, State.fallBudgets, motor_setMotor_self]
    exact hk
  next hi =>
    right
    rw [afterDecision_k, (motor_of_motors_set reachRest_motors).1]
    exact ⟨rfl, govern_eq_none hi⟩

theorem commitOrRest_fallBudgets (hk : (s.motor m).k = some j) :
    (s.fallBudgets m).commitOrRest m = s.decided m j := by
  have hk' : ((s.fallBudgets m).motor m).k = some j := by
    rw [State.fallBudgets, motor_setMotor_self]
    exact hk
  simp only [State.commitOrRest, State.decided, hk']
  cases (s.fallBudgets m).govern m (some j) <;> rfl

/-! ## The issued step -/

theorem stepped_motor_self : (s.stepped m j).motor m = (s.motor m).stepped j := by
  rw [State.stepped, withSteps_motor, motor_setMotor_self]

theorem stepped_motor_of_ne {d : MotorId} (h : d ≠ m) : (s.stepped m j).motor d = s.motor d := by
  rw [State.stepped, withSteps_motor, motor_setMotor_of_ne _ _ h]

theorem grouped_k : ((s.grouped m j).motor m).k = some j := by
  obtain ⟨n, hn⟩ := grouped_kept (s := s) m j
  have h := congrArg KeptMotor.k (motor_kept_of_starts hn m)
  rw [stepped_motor_self] at h
  exact h

theorem issueStep_eq (hc : (s.motor m).committed = some j) (hh : (s.motor m).heldStep = false) :
    s.issueStep m = (s.grouped m j).decided m j := by
  have hsteps (x : Motor) : (s.setMotor m x).motors.steps + 1 = s.motors.steps + 1 := by
    rw [setMotor_motors, motorSet_steps]
  have hissue : s.issueStep m =
      (((s.setMotor m (s.motor m).issue).withSteps ((s.setMotor m (s.motor m).issue).motors.steps + 1)
        |>.countGroup m).fallBudgets m).commitOrRest m := rfl
  rw [hissue, hsteps, countGroup_issue hc hh]
  exact commitOrRest_fallBudgets grouped_k

/-- The row of a step that is due, held or issued. -/
theorem exec_motorStep (hs : (s.motor m).state = .moving) (hc : (s.motor m).committed = some j)
    (hh : (s.motor m).heldStep = false) :
    exec (.motorStep m) s = .next (State.settle
      (if s.stepHeld m then s.setMotor m { s.motor m with heldStep := true } else s.issueStep m)) :=
  runIf_of (by rw [(moving_iff _).mpr hs, hc, hh]; rfl) s _

theorem exec_motorStep_held (hs : (s.motor m).state = .moving) (hc : (s.motor m).committed = some j)
    (hh : (s.motor m).heldStep = false) (h : s.stepHeld m = true) : exec (.motorStep m) s =
      .next (State.settle (s.setMotor m { s.motor m with heldStep := true })) := by
  rw [exec_motorStep hs hc hh, h]
  rfl

theorem exec_motorStep_issued (hs : (s.motor m).state = .moving) (hc : (s.motor m).committed = some j)
    (hh : (s.motor m).heldStep = false) (h : s.stepHeld m = false) : exec (.motorStep m) s =
      .next (State.settle ((s.grouped m j).decided m j)) := by
  rw [exec_motorStep hs hc hh, h, ← issueStep_eq hc hh]
  rfl

/-- The effect of a completed group: a trigger on motor 0, the head copy's leaving on motor 1. -/
theorem grouped_eq : s.grouped m j =
    match (s.motor m).fillsGroup, m with
    | true, .m0 => (s.stepped m j).offerTrigger
    | true, .m1 =>
      { s.stepped m j with print := { (s.stepped m j).print with
          queue := s.print.queue.drop 1
          head := if s.print.queue.length ≤ 1 then .idle else .shifting } }
    | _, _ => s.stepped m j := by
  unfold State.grouped
  cases (s.motor m).fillsGroup
  case false => rfl
  case true =>
    cases m with
    | m0 => rfl
    | m1 => exact headLeaves_eq
    | m2 => rfl

theorem stepped_ramps : (s.stepped m j).motors.ramps = s.motors.ramps := motorSet_ramps _ m _

end

/-! ## The reservation behind a decision (06 R130; 01 R13) -/

theorem afterDecision_m0_of_linked {s : State} {l : Link} (h : (s.motor .m0).link = some l)
    (j : Option Nat) : s.afterDecision .m0 j = s.reserve
      (((j.elim 0 fun k => ((s.motor .m0).group + k + 1) / l.spl) -
        ((s.chan .scan).openPage.elim 0 fun p => s.slotsLeft p.slot) + 63) / 64) := by
  rw [motor_m0] at h
  simp only [State.afterDecision, State.reserveFor, h]
  rfl

/-- Settles O28: the held step; the issued step with its whole next state and what it comes to; the reservation;
and the state and event of a motor that reaches rest. -/
theorem motorStepMovesOnePosition : Obligations.MotorStepMovesOnePosition := by
  refine ⟨fun s m j hs hc hh => ⟨fun hheld => ?held, fun hfree => ⟨?next, ?outcome⟩⟩,
    fun s j => ⟨rfl, rfl, fun hl => afterDecision_of_unlinked hl j, fun l hl => ?reservation⟩,
    fun s m => ?rest⟩
  case held => exact exec_motorStep_held hs hc hh hheld
  case next =>
    exact (exec_motorStep_issued hs hc hh hfree).trans
      (congrArg (fun w : State => Host.Outcome.next (State.settle (w.decided m j))) grouped_eq)
  case outcome =>
    rw [exec_motorStep_issued hs hc hh hfree]
    obtain ⟨n, hn⟩ := grouped_kept (s := s) m j
    have hsettle := settle_kept ((s.grouped m j).decided m j)
    have hsame : SameSteps (s.stepped m j) (State.settle ((s.grouped m j).decided m j)) :=
      .trans (.of_starts hn) (decided_sameSteps.trans (.of_kept hsettle))
    obtain ⟨hphase, hposition, hgroup⟩ := hsame.motor m
    rw [stepped_motor_self] at hphase hposition hgroup
    have hk : ((State.settle ((s.grouped m j).decided m j)).motor m).k = _ :=
      congrArg KeptMotor.k (kept_motor hsettle m)
    refine ⟨_, rfl, hphase, hposition, hgroup.trans (stepped_group _), ?_, hsame.steps, fun d hd => ?_,
      hsame.eeprom, hsame.boot, hsame.power, fun n => ?_, hsame.strobe⟩
    · rw [hk]
      exact decided_k grouped_k
    · obtain ⟨hphase, hposition, -⟩ := hsame.motor d
      rw [stepped_motor_of_ne hd] at hphase hposition
      exact ⟨hphase, hposition⟩
    · unfold State.ramp
      rw [hsame.ramps, stepped_ramps]
  case reservation =>
    rw [afterDecision_m0_of_linked hl]
    refine ⟨rfl, ?_, reserve_free' _ _, reserve_slot _ _⟩
    rw [reserve_page]
  case rest =>
    obtain ⟨hself, hother, hhalts, -, hunit⟩ := motor_of_motors_set (s := s) (m := m) reachRest_motors
    refine ⟨hself.trans (hold_eq _ _), hother, fun cause hc => ⟨?_, reachRest_sensor_halted hc⟩,
      fun hc => ⟨?_, fun v => reachRest_sensor_done hc, reachRest_sensor_silent hc⟩, hunit,
      reachRest_only s m⟩
    · rw [hhalts, hc]; rfl
    · rw [hhalts, hc]; rfl

end Sys2Proof.Machine
end

section
/-! PROOFS. Raising an event (07 R146): the source that is raised, the others, and the counters. -/

namespace Sys2Proof.Machine

section
variable (s : State)

theorem setGate_gate (g : Fin 16) : s.setGate g (s.gate g) = s := by
  simp [State.setGate, State.gate]

theorem setSource_source (i : Fin 24) : s.setSource i (s.source i) = s := by
  simp [State.setSource, State.source]

end

/-! ## What a raise makes of a source (07 R146) -/

/-- A source behind a raise: none is made pending at priority 0, and one that was pending is repeated. -/
def Source.raised (x : Source) (kind : EventKind) (data : EventData) : Source :=
  if x.priority = 0 then x
  else { x with entry := some { kind, data, repeated := x.entry.isSome } }

section
variable {x : Source} {kind : EventKind} {data : EventData}

@[simp] theorem raised_priority : (x.raised kind data).priority = x.priority := by
  unfold Source.raised
  split <;> rfl

theorem raised_of_silent (h : x.priority = 0) : x.raised kind data = x := if_pos h

theorem raised_entry (h : x.priority ≠ 0) :
    (x.raised kind data).entry = some { kind, data, repeated := x.entry.isSome } := by
  rw [Source.raised, if_neg h]

end

section
variable {s : State} {i : Fin 24} {kind : EventKind} {data : EventData}

/-- All that a raise does: it counts, and of the sources it changes the one that is raised. -/
theorem raise_sensor : (s.raise i kind data).sensor = { s.sensor with
    sources := s.sensor.sources.set i.val ((s.source i).raised kind data) i.isLt
    raises := s.sensor.raises + 1
    merged := s.sensor.merged || (s.source i).priority != 0 && (s.source i).entry.isSome } := by
  unfold State.raise
  by_cases hp : (s.source i).priority = 0
  · have hself := congrArg (fun t : State => t.sensor.sources) (setSource_source s i)
    rw [if_pos hp, raised_of_silent hp]
    simp only [hp, bne_self_eq_false, Bool.false_and, Bool.or_false]
    exact congrArg (fun v => { s.sensor with sources := v, raises := s.sensor.raises + 1 }) hself.symm
  · rw [if_neg hp, Source.raised, if_neg hp]
    cases he : (s.source i).entry <;> simp [State.setSource, hp]

@[simp] theorem raise_source_self :
    (s.raise i kind data).source i = (s.source i).raised kind data := by
  simp [State.source, raise_sensor]

theorem raise_source_of_ne {j : Fin 24} (h : j ≠ i) : (s.raise i kind data).source j = s.source j := by
  have hval : i.val ≠ j.val := fun e => h (Fin.ext e.symm)
  simp [State.source, raise_sensor, hval]

@[simp] theorem raise_source_priority (j : Fin 24) :
    ((s.raise i kind data).source j).priority = (s.source j).priority := by
  by_cases h : j = i
  · rw [h, raise_source_self, raised_priority]
  · rw [raise_source_of_ne h]

end

/-- Settles O10: the table of R146 by the priority and the pending entry of the source. -/
theorem raiseMakesOrMergesAnEntry : Obligations.RaiseMakesOrMergesAnEntry := by
  refine fun s i kind data => ⟨by rw [raise_sensor], fun j hj => raise_source_of_ne hj,
    raise_source_priority i, raise_only s i kind data, fun hp => ?silent, fun hp he => ?made,
    fun hp he => ?repeated⟩
  all_goals rw [raise_source_self, raise_sensor]
  case silent => simp [raised_of_silent, hp]
  case made => simp [raised_entry hp, he]
  case repeated =>
    have hsome : (s.source i).entry.isSome = true := Option.isSome_iff_ne_none.mpr he
    simp [raised_entry hp, hsome, hp]

end Sys2Proof.Machine
end

section
/-! PROOFS. The halts of an interlock action (06 R133; 07 R142): what each does to its motor, its event and
the counts. -/

namespace Sys2Proof.Machine

/-! ## One halt (06 R128, R133) -/

/-- A halt stops the motor at once: it is IMMEDIATE, and the motor is MOVING. -/
def Motor.stoppedBy (x : Motor) (h : Halt) : Bool := h.mode == .immediate && x.moving

/-- The data of the HALTED event of a motor stopped at once. -/
def Motor.haltData (x : Motor) (h : Halt) : EventData :=
  .motor x.position (.halt (mergeHalt x.halted h).cause)

/-- A motor behind a RAMP halt: the path it is to run out is that of its committed index. -/
def Motor.haltedRamp (x : Motor) (h : Halt) : Motor :=
  { x.shrink with
    halted := some (mergeHalt x.halted h)
    rampPath := some (mergeHalt x.halted h).cause
    remaining := min x.remaining (x.committed.elim 0 (· + 1)) }

/-- A motor behind a halt; `paused` says that a pause of its linked channel holds its stop point at 0. -/
def Motor.haltedBy (x : Motor) (paused : Bool) (h : Halt) : Motor :=
  if x.moving = false then { x with halted := some (mergeHalt x.halted h) }
  else
    match h.mode with
    | .immediate => Motor.hold { x with halted := some (mergeHalt x.halted h) } paused
    | .ramp => x.haltedRamp h

section
variable {x : Motor} {paused : Bool} {h : Halt}

theorem haltedBy_of_rest (hm : x.moving = false) :
    x.haltedBy paused h = { x with halted := some (mergeHalt x.halted h) } := if_pos hm

theorem haltedBy_ramp (hm : x.moving = true) (hr : h.mode = .ramp) :
    x.haltedBy paused h = x.haltedRamp h := by
  simp [Motor.haltedBy, hm, hr]

theorem haltedBy_immediate (hm : x.moving = true) (hi : h.mode = .immediate) :
    x.haltedBy paused h = Motor.hold { x with halted := some (mergeHalt x.halted h) } paused := by
  simp [Motor.haltedBy, hm, hi]

theorem haltedBy_halted : (x.haltedBy paused h).halted = some (mergeHalt x.halted h) := by
  cases hm : x.moving
  · rw [haltedBy_of_rest hm]
  · cases hmode : h.mode
    · rw [haltedBy_ramp hm hmode]; rfl
    · rw [haltedBy_immediate hm hmode]; rfl

end

section
variable {s : State} {m : MotorId} (h : Halt)

theorem haltMotor_ramp (hm : (s.motor m).moving = true) (hr : h.mode = .ramp) :
    s.haltMotor m h = s.setMotor m ((s.motor m).haltedRamp h) := by
  simp [State.haltMotor, Motor.haltedRamp, hm, hr]

/-- A halt changes its motor, and counts when it stops it at once. -/
theorem haltMotor_motors : (s.haltMotor m h).motors =
    { s.motors.set m ((s.motor m).haltedBy (s.linkPaused m) h) with
      halts := if (s.motor m).stoppedBy h then s.motors.halts + 1 else s.motors.halts } := by
  obtain ⟨mode, cause⟩ := h
  cases mode
  case ramp =>
    cases hm : (s.motor m).moving
    · rw [haltMotor_of_rest _ hm, haltedBy_of_rest hm]
      exact motorSet_eq m _ _
    · rw [haltMotor_ramp _ hm rfl, haltedBy_ramp hm rfl]
      exact motorSet_eq m _ _
  case immediate =>
    rw [haltMotor_immediate_motors]
    cases hm : (s.motor m).moving
    · rw [haltedNow_of_rest cause hm, haltedBy_of_rest hm]
      simp [Motor.stoppedBy, hm]
    · rw [haltedNow_of_moving cause hm, haltedBy_immediate hm rfl]
      simp [Motor.stoppedBy, hm]

/-- A halt raises the HALTED event of a motor that it stops at once, and nothing else. -/
theorem haltMotor_sensor : (s.haltMotor m h).sensor =
    if (s.motor m).stoppedBy h then
      (s.raise (motorSource m) .halted ((s.motor m).haltData h)).sensor
    else s.sensor := by
  obtain ⟨mode, cause⟩ := h
  cases hm : (s.motor m).moving
  · rw [haltMotor_of_rest _ hm]
    simp [Motor.stoppedBy, hm]
  · cases mode
    case ramp => rw [haltMotor_ramp _ hm rfl]; rfl
    case immediate => simpa [Motor.stoppedBy, Motor.haltData, hm] using haltMotor_immediate_sensor cause hm

theorem linkPaused_congr {t : State} {d : MotorId} (hm : t.motor d = s.motor d)
    (hc : t.chans = s.chans) : t.linkPaused d = s.linkPaused d := by
  have hchan (ch : Channel) : t.chan ch = s.chan ch := by cases ch <;> simp only [State.chan, hc]
  simp only [State.linkPaused, hm, hchan]

end

theorem motorSource_injective {m d : MotorId} (h : motorSource m = motorSource d) : m = d := by
  cases m <;> cases d <;> first | rfl | exact absurd h (by decide)

theorem motorSource_ne_lineSource (m : MotorId) (g : Fin 16) : motorSource m ≠ lineSource g := by
  intro h
  have hval : (motorSource m).val = g.val := congrArg Fin.val h
  have hbig : 16 ≤ (motorSource m).val := by cases m <;> decide
  omega

/-! ## The halts of an action, motor by motor (06 R133; 07 R142) -/

/-- The halt that the action of line `g` gives. -/
def GateCfg.halt (c : GateCfg) (g : Fin 16) : Halt := { mode := c.haltMode, cause := .line g }

/-- The action stops the motor at once. -/
def State.stopsNow (s : State) (c : GateCfg) (m : MotorId) : Bool :=
  c.haltSet.getLsbD (motorNumber m) && c.haltMode == .immediate && (s.motor m).moving

/-- `e` is `s` behind the halts that the action of line `g` gives the motors `ms`. -/
structure HaltsDone (g : Fin 16) (c : GateCfg) (ms : List MotorId) (s e : State) : Prop where
  motor : ∀ m ∈ ms, c.haltSet.getLsbD (motorNumber m) = true →
    e.motor m = (s.motor m).haltedBy (s.linkPaused m) (c.halt g)
  other : ∀ m, m ∉ ms ∨ c.haltSet.getLsbD (motorNumber m) = false → e.motor m = s.motor m
  raised : ∀ m ∈ ms, s.stopsNow c m = true → e.source (motorSource m) =
    (s.source (motorSource m)).raised .halted ((s.motor m).haltData (c.halt g))
  silent : ∀ i, (∀ m ∈ ms, i = motorSource m → s.stopsNow c m = false) → e.source i = s.source i
  priority : ∀ i, (e.source i).priority = (s.source i).priority
  halts : e.motors.halts = s.motors.halts + BitVec.ofNat 16 (ms.filter (s.stopsNow c)).length
  action : e.motors.haltedByAction =
    (s.motors.haltedByAction || ms.any fun m => c.haltSet.getLsbD (motorNumber m))
  ramps : e.motors.ramps = s.motors.ramps
  steps : e.motors.steps = s.motors.steps
  sensor : e.sensor = { s.sensor with
    sources := e.sensor.sources, merged := e.sensor.merged, raises := e.sensor.raises }
  only : e = { s with motors := e.motors, sensor := e.sensor }

section
variable {g : Fin 16} {c : GateCfg} {s t e : State} {m : MotorId} {ms : List MotorId}

theorem stopsNow_iff : s.stopsNow c m = true ↔ c.haltSet.getLsbD (motorNumber m) = true ∧
    c.haltMode = .immediate ∧ (s.motor m).moving = true := by
  simp [State.stopsNow, and_assoc]

theorem stopsNow_eq_false (h : c.haltSet.getLsbD (motorNumber m) = false ∨
    (s.motor m).moving = false ∨ c.haltMode = .ramp) : s.stopsNow c m = false := by
  rcases h with h | h | h <;> simp [State.stopsNow, h]

/-- Motors outside the halt set leave all as it is. -/
theorem HaltsDone.of_spared (hm : ∀ m ∈ ms, c.haltSet.getLsbD (motorNumber m) = false) :
    HaltsDone g c ms s s where
  motor m hmem hbit := absurd (hm m hmem) (by simp [hbit])
  other _ _ := rfl
  raised m hmem hstop := by simp [State.stopsNow, hm m hmem] at hstop
  silent _ _ := rfl
  priority _ := rfl
  halts := by
    have hnone : ms.filter (s.stopsNow c) = [] :=
      List.filter_eq_nil_iff.mpr fun m hmem => by simp [State.stopsNow, hm m hmem]
    rw [hnone]
    exact (BitVec.add_zero _).symm
  action := by
    have hany : (ms.any fun m => c.haltSet.getLsbD (motorNumber m)) = false :=
      List.any_eq_false.mpr fun m hmem => by simp [hm m hmem]
    rw [hany, Bool.or_false]
  ramps := rfl
  steps := rfl
  sensor := rfl
  only := rfl

/-- The halt of one motor of the halt set. -/
theorem HaltsDone.of_halt (hm : c.haltSet.getLsbD (motorNumber m) = true) :
    HaltsDone g c [m] s (s.actionHalt m c.haltMode g) := by
  have hmotors : (s.actionHalt m c.haltMode g).motors =
      { (s.haltMotor m (c.halt g)).motors with haltedByAction := true } := rfl
  have hsensor : (s.actionHalt m c.haltMode g).sensor = (s.haltMotor m (c.halt g)).sensor := rfl
  have hmotor (d : MotorId) : (s.actionHalt m c.haltMode g).motor d = (s.haltMotor m (c.halt g)).motor d := by
    cases d <;> rfl
  have hstop : s.stopsNow c m = (s.motor m).stoppedBy (c.halt g) := by
    simp [State.stopsNow, Motor.stoppedBy, GateCfg.halt, hm]
  obtain ⟨hself, hother, hhalts, hsteps, hunit⟩ :=
    motor_of_motors_set (s := s) (m := m) (haltMotor_motors (c.halt g))
  have hsource (i : Fin 24) : (s.actionHalt m c.haltMode g).source i =
      if s.stopsNow c m then (s.raise (motorSource m) .halted ((s.motor m).haltData (c.halt g))).source i
      else s.source i := by
    simp only [State.source, hsensor, haltMotor_sensor, hstop]
    split <;> rfl
  constructor
  case motor => simpa [hmotor] using fun _ => hself
  case other =>
    intro d hd
    have hne : d ≠ m := by rintro rfl; simp [hm] at hd
    rw [hmotor, hother d hne]
  case raised =>
    intro d hd hnow
    obtain rfl := List.mem_singleton.mp hd
    rw [hsource, if_pos hnow, raise_source_self]
  case silent =>
    intro i hi
    rw [hsource]
    split
    next hnow =>
      exact raise_source_of_ne fun he => Bool.false_ne_true
        ((hi m (List.mem_singleton_self m) he).symm.trans hnow)
    next => rfl
  case priority =>
    intro i
    rw [hsource]
    split
    next => rw [raise_source_priority]
    next => rfl
  case halts =>
    rw [hmotors, hhalts, ← hstop]
    cases hnow : s.stopsNow c m <;> simp [hnow]
  case action => simp [hmotors, hm]
  case ramps => rw [hmotors, hunit]
  case steps => rw [hmotors, hsteps]
  case sensor =>
    rw [hsensor, haltMotor_sensor]
    split
    next => rw [raise_sensor]
    next => rfl
  case only => exact actionHalt_only s m c.haltMode g

theorem HaltsDone.chans (h : HaltsDone g c ms s e) : e.chans = s.chans := by rw [h.only]

/-- The halts of more motors behind that of a motor which is not among them. -/
theorem HaltsDone.cons (h : HaltsDone g c [m] s t) (hs : HaltsDone g c ms t e) (hmem : m ∉ ms) :
    HaltsDone g c (m :: ms) s e := by
  have hne {d : MotorId} (hd : d ∈ ms) : d ≠ m := fun he => hmem (he ▸ hd)
  have hmotor {d : MotorId} (hd : d ≠ m) : t.motor d = s.motor d :=
    h.other d (.inl (by simpa using hd))
  have hstops {d : MotorId} (hd : d ∈ ms) : t.stopsNow c d = s.stopsNow c d := by
    simp only [State.stopsNow, hmotor (hne hd)]
  have hsource {d : MotorId} (hd : d ≠ m) : t.source (motorSource d) = s.source (motorSource d) :=
    h.silent _ fun d' hd' he => by
      obtain rfl := List.mem_singleton.mp hd'
      exact absurd (motorSource_injective he) hd
  constructor
  case motor =>
    intro d hd hbit
    obtain rfl | hd := List.mem_cons.mp hd
    · rw [hs.other d (.inl hmem), h.motor d (List.mem_singleton_self d) hbit]
    · rw [hs.motor d hd hbit, hmotor (hne hd), linkPaused_congr (hmotor (hne hd)) h.chans]
  case other =>
    intro d hd
    rw [hs.other d (hd.imp_left fun hn hin => hn (List.mem_cons_of_mem m hin)),
      h.other d (hd.imp_left fun hn hin => hn (List.mem_singleton.mp hin ▸ List.mem_cons_self))]
  case raised =>
    intro d hd hnow
    obtain rfl | hd := List.mem_cons.mp hd
    · rw [hs.silent _ fun d' hd' he => absurd (motorSource_injective he).symm (hne hd'),
        h.raised d (List.mem_singleton_self d) hnow]
    · rw [hs.raised d hd (hstops hd ▸ hnow), hsource (hne hd), hmotor (hne hd)]
  case silent =>
    intro i hi
    rw [hs.silent i fun d hd he => (hstops hd).trans (hi d (List.mem_cons_of_mem m hd) he),
      h.silent i fun d hd he => hi d (List.mem_singleton.mp hd ▸ List.mem_cons_self) he]
  case priority => exact fun i => (hs.priority i).trans (h.priority i)
  case halts =>
    have hfilter : ms.filter (t.stopsNow c) = ms.filter (s.stopsNow c) :=
      List.filter_congr fun d hd => hstops hd
    have hsplit : (m :: ms).filter (s.stopsNow c) =
        [m].filter (s.stopsNow c) ++ ms.filter (s.stopsNow c) := List.filter_append [m] ms
    rw [hs.halts, h.halts, hfilter, hsplit, List.length_append, BitVec.ofNat_add, BitVec.add_assoc]
  case action => rw [hs.action, h.action]; simp [Bool.or_assoc]
  case ramps => rw [hs.ramps, h.ramps]
  case steps => rw [hs.steps, h.steps]
  case sensor => rw [hs.sensor, h.sensor]
  case only => rw [hs.only, h.only]

theorem actHalts_done (g : Fin 16) (c : GateCfg) (hms : ms.Nodup) :
    HaltsDone g c ms s (s.actHalts g c ms) := by
  induction ms generalizing s with
  | nil => exact .of_spared (by simp)
  | cons m rest ih =>
    obtain ⟨hmem, hrest⟩ := List.nodup_cons.mp hms
    rw [State.actHalts]
    refine .cons (m := m) ?_ (ih hrest) hmem
    split
    next hbit => exact .of_halt hbit
    next hbit => exact .of_spared (by simpa using hbit)

end

end Sys2Proof.Machine
end

section
/-! PROOFS. The pause requests of an interlock action (02 R53; 07 R142): what each does to its channel and to the
motor linked to it. -/

namespace Sys2Proof.Machine

/-! ## One pause request (02 R53, 06 R128) -/

/-- A pause request of the configuration `c` is set on the channel. -/
def State.TakesPause (s : State) (c : GateCfg) (ch : Channel) : Prop :=
  c.pauseSet.getLsbD (chanNumber ch) = true ∧ (s.chan ch).state ≠ .idle ∧
    (s.chan ch).state ≠ .paused ∧ (s.chan ch).pauseReq = none ∧ s.finalPending ch = false

section
variable {s : State} {ch : Channel} {cause : PauseCause}

theorem askPause_of_refused
    (h : (s.chan ch).state = .idle ∨ (s.chan ch).state = .paused ∨ (s.chan ch).pauseReq.isSome = true ∨
      s.finalPending ch = true) : s.askPause ch cause = s := if_pos h

theorem askPause_of_taken (hidle : (s.chan ch).state ≠ .idle) (hpaused : (s.chan ch).state ≠ .paused)
    (hreq : (s.chan ch).pauseReq = none) (hfinal : s.finalPending ch = false) :
    s.askPause ch cause =
      (s.setChan ch { s.chan ch with pauseReq := some (.pause cause) }).shrinkFor ch := by
  simp [State.askPause, hidle, hpaused, hreq, hfinal]

theorem refused_of_not_takesPause {c : GateCfg} (hbit : c.pauseSet.getLsbD (chanNumber ch) = true)
    (h : ¬s.TakesPause c ch) :
    (s.chan ch).state = .idle ∨ (s.chan ch).state = .paused ∨ (s.chan ch).pauseReq.isSome = true ∨
      s.finalPending ch = true := by
  by_cases hidle : (s.chan ch).state = .idle
  · exact .inl hidle
  by_cases hpaused : (s.chan ch).state = .paused
  · exact .inr (.inl hpaused)
  cases hreq : (s.chan ch).pauseReq with
  | some r => exact .inr (.inr (.inl rfl))
  | none =>
    cases hfinal : s.finalPending ch
    · exact absurd ⟨hbit, hidle, hpaused, hreq, hfinal⟩ h
    · exact .inr (.inr (.inr rfl))

theorem shrinkFor_motors : ∃ m x, (s.shrinkFor ch).motors = s.motors.set m x := by
  have hself : s.motors = s.motors.set .m0 (s.motor .m0) := rfl
  unfold State.shrinkFor
  split
  next => exact ⟨_, _, hself⟩
  next m _ =>
    split
    next => exact ⟨m, _, rfl⟩
    next => exact ⟨_, _, hself⟩

theorem chanFor_of_motorFor {m : MotorId} (h : motorFor ch = some m) : chanFor m = some ch := by
  cases ch <;> cases h <;> rfl

theorem motorFor_injective {d : Channel} {m : MotorId} (h : motorFor ch = some m)
    (hd : motorFor d = some m) : d = ch :=
  Option.some.inj ((chanFor_of_motorFor hd).symm.trans (chanFor_of_motorFor h))

end

/-! ## The pause requests of an action, channel by channel (07 R142) -/

/-- `e` is `s` behind the pause requests that the action of line `g` puts to the channels `chs`. -/
structure PausesDone (g : Fin 16) (c : GateCfg) (chs : List Channel) (s e : State) : Prop where
  taken : ∀ ch ∈ chs, s.TakesPause c ch →
    e.chan ch = { s.chan ch with pauseReq := some (.pause (.line g)) }
  other : ∀ ch, ch ∉ chs ∨ ¬s.TakesPause c ch → e.chan ch = s.chan ch
  shrunk : ∀ ch ∈ chs, s.TakesPause c ch → ∀ m, motorFor ch = some m →
    (s.motor m).link.isSome = true → e.motor m = (s.motor m).shrink
  spared : ∀ m, (∀ ch ∈ chs, motorFor ch = some m → s.TakesPause c ch →
    (s.motor m).link.isSome = false) → e.motor m = s.motor m
  motors : e.motors = { s.motors with m0 := e.motors.m0, m1 := e.motors.m1, m2 := e.motors.m2 }
  only : e = { s with chans := e.chans, motors := e.motors }

section
variable {g : Fin 16} {c : GateCfg} {s t e : State} {ch : Channel} {chs : List Channel}

/-- Channels that take no pause request leave all as it is. -/
theorem PausesDone.of_refused (h : ∀ ch ∈ chs, ¬s.TakesPause c ch) : PausesDone g c chs s s where
  taken ch hmem htake := absurd htake (h ch hmem)
  other _ _ := rfl
  shrunk ch hmem htake := absurd htake (h ch hmem)
  spared _ _ := rfl
  motors := rfl
  only := rfl

/-- The pause request of one channel that takes it. -/
theorem PausesDone.of_taken (h : s.TakesPause c ch) :
    PausesDone g c [ch] s (s.askPause ch (.line g)) := by
  obtain ⟨-, hidle, hpaused, hreq, hfinal⟩ := id h
  have hask := askPause_of_taken (cause := .line g) hidle hpaused hreq hfinal
  have hmotor (m : MotorId) : (s.askPause ch (.line g)).motor m =
      if motorFor ch = some m ∧ (s.motor m).link.isSome = true then (s.motor m).shrink
      else s.motor m := by
    rw [hask, shrinkFor_motor, setChan_motor]
  constructor
  case taken =>
    intro d hd _
    obtain rfl := List.mem_singleton.mp hd
    rw [hask, shrinkFor_chan, chan_setChan_self]
  case other =>
    intro d hd
    have hne : d ≠ ch := by rintro rfl; simp [h] at hd
    rw [hask, shrinkFor_chan, chan_setChan_of_ne _ _ hne]
  case shrunk =>
    intro d hd _ m hm hlink
    obtain rfl := List.mem_singleton.mp hd
    rw [hmotor, if_pos ⟨hm, hlink⟩]
  case spared =>
    intro m hm
    rw [hmotor, if_neg]
    rintro ⟨hfor, hlink⟩
    exact Bool.false_ne_true ((hm ch (List.mem_singleton_self ch) hfor h).symm.trans hlink)
  case motors =>
    obtain ⟨m, x, hx⟩ := shrinkFor_motors
      (s := s.setChan ch { s.chan ch with pauseReq := some (.pause (.line g)) }) (ch := ch)
    rw [hask, hx]
    exact motorSet_motors m _ x
  case only => exact askPause_only s ch (.line g)

theorem PausesDone.print (h : PausesDone g c chs s e) : e.print = s.print := by rw [h.only]

theorem takesPause_congr (hc : t.chan ch = s.chan ch) (hp : t.print = s.print) :
    t.TakesPause c ch ↔ s.TakesPause c ch := by
  simp only [State.TakesPause, State.finalPending, hc, hp]

/-- The pause requests of more channels behind that of a channel which is not among them. -/
theorem PausesDone.cons (h : PausesDone g c [ch] s t) (hs : PausesDone g c chs t e) (hmem : ch ∉ chs) :
    PausesDone g c (ch :: chs) s e := by
  have hne {d : Channel} (hd : d ∈ chs) : d ≠ ch := fun he => hmem (he ▸ hd)
  have hchan {d : Channel} (hd : d ≠ ch) : t.chan d = s.chan d := h.other d (.inl (by simpa using hd))
  have htakes {d : Channel} (hd : d ≠ ch) : t.TakesPause c d ↔ s.TakesPause c d :=
    takesPause_congr (hchan hd) h.print
  have hmotor {d : Channel} {m : MotorId} (hd : d ∈ chs) (hm : motorFor d = some m) :
      t.motor m = s.motor m :=
    h.spared m fun d' hd' hm' => by
      obtain rfl := List.mem_singleton.mp hd'
      exact absurd (motorFor_injective hm' hm) (hne hd)
  constructor
  case taken =>
    intro d hd htake
    obtain rfl | hd := List.mem_cons.mp hd
    · rw [hs.other d (.inl hmem), h.taken d (List.mem_singleton_self d) htake]
    · rw [hs.taken d hd ((htakes (hne hd)).mpr htake), hchan (hne hd)]
  case other =>
    intro d hd
    by_cases he : d = ch
    · subst he
      rw [hs.other d (.inl hmem), h.other d (.inr (hd.resolve_left fun hn => hn List.mem_cons_self))]
    · rw [hs.other d (hd.imp (fun hn hin => hn (List.mem_cons_of_mem ch hin)) fun hn ht =>
        hn ((htakes he).mp ht)), hchan he]
  case shrunk =>
    intro d hd htake m hm hlink
    obtain rfl | hd := List.mem_cons.mp hd
    · rw [hs.spared m fun d' hd' hm' => absurd (motorFor_injective hm hm') (hne hd'),
        h.shrunk d (List.mem_singleton_self d) htake m hm hlink]
    · have hself := hmotor hd hm
      rw [hs.shrunk d hd ((htakes (hne hd)).mpr htake) m hm (hself ▸ hlink), hself]
  case spared =>
    intro m hm
    rw [hs.spared m fun d hd hfor htake => ?_, h.spared m fun d hd hfor htake => ?_]
    · exact hm d (List.mem_singleton.mp hd ▸ List.mem_cons_self) hfor htake
    · rw [hmotor hd hfor]
      exact hm d (List.mem_cons_of_mem ch hd) hfor ((htakes (hne hd)).mp htake)
  case motors => rw [hs.motors, h.motors]
  case only => rw [hs.only, h.only]

theorem actPauses_done (g : Fin 16) (c : GateCfg) (hchs : chs.Nodup) :
    PausesDone g c chs s (s.actPauses g c chs) := by
  induction chs generalizing s with
  | nil => exact .of_refused (by simp)
  | cons ch rest ih =>
    obtain ⟨hmem, hrest⟩ := List.nodup_cons.mp hchs
    rw [State.actPauses]
    refine .cons (ch := ch) ?_ (ih hrest) hmem
    by_cases htake : s.TakesPause c ch
    · rw [if_pos htake.1]
      exact .of_taken htake
    · split
      next hbit =>
        rw [askPause_of_refused (refused_of_not_takesPause hbit htake)]
        exact .of_refused (by simpa using htake)
      next => exact .of_refused (by simpa using htake)

end

end Sys2Proof.Machine
end

section
/-! PROOFS. An occurrence of a sensor line (07 R141, R142): its action, its raise, and the wake of a sleeping part
(08 R163). -/

namespace Sys2Proof.Machine

/-! ## The action of an occurrence (07 R142) -/

/-- The halts and the pause requests of the action of line `g`. -/
def State.acted (s : State) (g : Fin 16) : State :=
  (s.actHalts g (s.gate g).cfg allMotors).actPauses g (s.gate g).cfg allChannels

/-- A motor behind the halts of the action of line `g`, the pause requests not yet made. -/
def State.haltedMotor (s : State) (g : Fin 16) (m : MotorId) : Motor :=
  if (s.gate g).cfg.haltSet.getLsbD (motorNumber m) = true then
    (s.motor m).haltedBy (s.linkPaused m) ((s.gate g).cfg.halt g)
  else s.motor m

theorem mem_allMotors (m : MotorId) : m ∈ allMotors := by cases m <;> decide

theorem mem_allChannels (ch : Channel) : ch ∈ allChannels := by cases ch <;> decide

theorem any_allMotors (v : BitVec 3) :
    (allMotors.any fun m => v.getLsbD (motorNumber m)) = (v != 0) := by
  revert v
  decide

section
variable {s : State} {g : Fin 16} {m : MotorId} {ch : Channel} {c : GateCfg}

theorem allHalts_done : HaltsDone g c allMotors s (s.actHalts g c allMotors) :=
  actHalts_done g c (by decide)

theorem getLsbD_of_zero {n : Nat} {v : BitVec n} (h : v = 0) (i : Nat) : v.getLsbD i = false := by
  rw [h]
  exact BitVec.getLsbD_zero

theorem actHalts_of_spared {ms : List MotorId} (h : c.haltSet = 0) : s.actHalts g c ms = s := by
  induction ms with
  | nil => rfl
  | cons m rest ih => rw [State.actHalts, getLsbD_of_zero h]; exact ih

theorem actPauses_of_spared {chs : List Channel} (h : c.pauseSet = 0) : s.actPauses g c chs = s := by
  induction chs with
  | nil => rfl
  | cons ch rest ih => rw [State.actPauses, getLsbD_of_zero h]; exact ih

theorem not_takesPause_of_zero (h : c.pauseSet = 0) : ¬s.TakesPause c ch := by
  rintro ⟨hbit, -⟩
  exact Bool.false_ne_true ((getLsbD_of_zero h _).symm.trans hbit)

/-- The pause requests of an action meet the channels as they were before its halts. -/
theorem allPauses_done :
    PausesDone g (s.gate g).cfg allChannels (s.actHalts g (s.gate g).cfg allMotors) (s.acted g) :=
  actPauses_done g _ (by decide)

theorem actHalts_chan : (s.actHalts g c allMotors).chan ch = s.chan ch := by
  rw [allHalts_done.only]; cases ch <;> rfl

theorem takesPause_actHalts : (s.actHalts g c allMotors).TakesPause c ch ↔ s.TakesPause c ch :=
  takesPause_congr actHalts_chan (by rw [allHalts_done.only])

theorem actHalts_motor :
    (s.actHalts g (s.gate g).cfg allMotors).motor m = s.haltedMotor g m := by
  unfold State.haltedMotor
  split
  next hbit => exact allHalts_done.motor m (mem_allMotors m) hbit
  next hbit => exact allHalts_done.other m (.inr (by simpa using hbit))

theorem haltedMotor_of_halted (h : (s.gate g).cfg.haltSet.getLsbD (motorNumber m) = true) :
    s.haltedMotor g m = (s.motor m).haltedBy (s.linkPaused m) ((s.gate g).cfg.halt g) := if_pos h

theorem haltedMotor_of_spared (h : (s.gate g).cfg.haltSet.getLsbD (motorNumber m) = false) :
    s.haltedMotor g m = s.motor m := if_neg (by simp [h])

/-- A motor whose channel takes no pause request is left as the halts made it. -/
theorem acted_motor_of_spared (h : ∀ ch, motorFor ch = some m → ¬s.TakesPause (s.gate g).cfg ch) :
    (s.acted g).motor m = s.haltedMotor g m := by
  rw [allPauses_done.spared m, actHalts_motor]
  exact fun ch _ hfor htake => absurd (takesPause_actHalts.mp htake) (h ch hfor)

/-- The stop point of a linked motor is shrunk where its channel takes a pause request. -/
theorem acted_motor_of_taken (hfor : motorFor ch = some m) (htake : s.TakesPause (s.gate g).cfg ch)
    (hlink : (s.haltedMotor g m).link.isSome = true) :
    (s.acted g).motor m = (s.haltedMotor g m).shrink := by
  rw [← actHalts_motor] at hlink ⊢
  exact allPauses_done.shrunk ch (mem_allChannels ch) (takesPause_actHalts.mpr htake) m hfor hlink

theorem acted_motor_cases : (s.acted g).motor m = s.haltedMotor g m ∨
    (s.acted g).motor m = (s.haltedMotor g m).shrink := by
  by_cases h : ∃ ch, motorFor ch = some m ∧ s.TakesPause (s.gate g).cfg ch
  · obtain ⟨ch, hfor, htake⟩ := h
    cases hlink : (s.haltedMotor g m).link.isSome
    · left
      rw [allPauses_done.spared m, actHalts_motor]
      intro _ _ _ _
      rw [actHalts_motor, hlink]
    · exact .inr (acted_motor_of_taken hfor htake hlink)
  · exact .inl (acted_motor_of_spared fun ch hfor htake => h ⟨ch, hfor, htake⟩)

/-- The pause requests change no more of a motor than its stop point. -/
theorem acted_motor : (s.acted g).motor m =
    { s.haltedMotor g m with budget := ((s.acted g).motor m).budget } := by
  obtain h | h := acted_motor_cases (s := s) (g := g) (m := m)
  · rw [h]
  · rw [h]; rfl

theorem acted_chan_of_taken (h : s.TakesPause (s.gate g).cfg ch) :
    (s.acted g).chan ch = { s.chan ch with pauseReq := some (.pause (.line g)) } := by
  rw [allPauses_done.taken ch (mem_allChannels ch) (takesPause_actHalts.mpr h), actHalts_chan]

theorem acted_chan_of_refused (h : ¬s.TakesPause (s.gate g).cfg ch) :
    (s.acted g).chan ch = s.chan ch := by
  rw [allPauses_done.other ch (.inr fun ht => h (takesPause_actHalts.mp ht)), actHalts_chan]

theorem acted_sensor : (s.acted g).sensor = (s.actHalts g (s.gate g).cfg allMotors).sensor := by
  rw [allPauses_done.only]

theorem acted_source (i : Fin 24) :
    (s.acted g).source i = (s.actHalts g (s.gate g).cfg allMotors).source i := by
  simp only [State.source, acted_sensor]

theorem acted_motors : (s.acted g).motors = { s.motors with
    m0 := (s.acted g).motors.m0
    m1 := (s.acted g).motors.m1
    m2 := (s.acted g).motors.m2
    halts := s.motors.halts +
      BitVec.ofNat 16 (allMotors.filter (s.stopsNow (s.gate g).cfg)).length
    haltedByAction := s.motors.haltedByAction || (s.gate g).cfg.haltSet != 0 } := by
  have h : HaltsDone g (s.gate g).cfg allMotors s _ := allHalts_done
  rw [allPauses_done.motors]
  simp only [h.halts, h.action, h.ramps, h.steps, any_allMotors]

theorem acted_only : s.acted g = { s with
    motors := (s.acted g).motors
    chans := (s.acted g).chans
    sensor := { s.sensor with
      sources := (s.acted g).sensor.sources
      merged := (s.acted g).sensor.merged
      raises := (s.acted g).sensor.raises } } := by
  have h : HaltsDone g (s.gate g).cfg allMotors s _ := allHalts_done
  conv => lhs; rw [allPauses_done.only, h.only, h.sensor, ← acted_sensor]

theorem acted_of_no_action (hh : (s.gate g).cfg.haltSet = 0) (hp : (s.gate g).cfg.pauseSet = 0) :
    s.acted g = s := by
  rw [State.acted, actHalts_of_spared hh, actPauses_of_spared hp]

end

/-! ## A motor that the action halts (06 R128, R133) -/

section
variable {s : State} {g : Fin 16} {m : MotorId} {x : Motor} {h : Halt} {j : Nat}

theorem haltedRamp_of_committed (hc : x.committed = some j) : x.haltedRamp h = { x with
    halted := some (mergeHalt x.halted h)
    rampPath := some (mergeHalt x.halted h).cause
    budget := some (x.budget.elim (j + 1) fun b => min (j + 1) b)
    remaining := min x.remaining (j + 1) } := by
  simp only [Motor.haltedRamp, Motor.shrink, hc, Option.elim_some]

/-- A pause finds the stop point of a RAMP halt's path shrunk already. -/
theorem haltedRamp_shrink (hc : x.committed = some j) : (x.haltedRamp h).shrink = x.haltedRamp h := by
  rw [haltedRamp_of_committed hc]
  cases hb : x.budget <;> simp [Motor.shrink, hc]

/-- A motor at rest commits no step: its stop point is shrunk to 0. -/
theorem hold_shrink (paused : Bool) :
    (x.hold paused).shrink = { x.hold paused with budget := some 0 } := by
  cases paused <;> simp [Motor.shrink, hold_eq]

theorem hold_budget (paused : Bool) : (x.hold paused).budget = none ∨ (x.hold paused).budget = some 0 := by
  cases paused
  · exact .inl rfl
  · exact .inr rfl

theorem hold_budget_moving (paused : Bool) (b : Option Nat) :
    Motor.moving { x.hold paused with budget := b } = false := hold_moving x paused

variable (hbit : (s.gate g).cfg.haltSet.getLsbD (motorNumber m) = true)
include hbit

theorem acted_halted : ((s.acted g).motor m).halted =
    some (mergeHalt (s.motor m).halted ((s.gate g).cfg.halt g)) := by
  rw [acted_motor, haltedMotor_of_halted hbit, haltedBy_halted]

theorem acted_motor_of_rest (hm : (s.motor m).moving = false) : (s.acted g).motor m = { s.motor m with
    halted := some (mergeHalt (s.motor m).halted ((s.gate g).cfg.halt g))
    budget := ((s.acted g).motor m).budget } := by
  conv => lhs; rw [acted_motor, haltedMotor_of_halted hbit, haltedBy_of_rest hm]

theorem acted_budget_of_rest (hm : (s.motor m).moving = false) (hp : (s.gate g).cfg.pauseSet = 0) :
    ((s.acted g).motor m).budget = (s.motor m).budget := by
  rw [acted_motor_of_spared fun _ _ => not_takesPause_of_zero hp, haltedMotor_of_halted hbit,
    haltedBy_of_rest hm]

theorem acted_motor_ramp (hm : (s.motor m).moving = true) (hc : (s.motor m).committed = some j)
    (hr : (s.gate g).cfg.haltMode = .ramp) :
    (s.acted g).motor m = (s.motor m).haltedRamp ((s.gate g).cfg.halt g) := by
  have hy : s.haltedMotor g m = _ := (haltedMotor_of_halted hbit).trans (haltedBy_ramp hm hr)
  obtain he | he := acted_motor_cases (s := s) (g := g) (m := m)
  · rw [he, hy]
  · rw [he, hy, haltedRamp_shrink hc]

/-- A MOVING motor that an IMMEDIATE halt stops is in HOLD, its stop point at 0 or none. -/
theorem acted_motor_immediate (hm : (s.motor m).moving = true)
    (hi : (s.gate g).cfg.haltMode = .immediate) :
    ∃ b : Option Nat, (b = none ∨ b = some 0) ∧ (s.acted g).motor m =
      { Motor.hold { s.motor m with
          halted := some (mergeHalt (s.motor m).halted ((s.gate g).cfg.halt g)) } (s.linkPaused m) with
        budget := b } := by
  have hy : s.haltedMotor g m = _ := (haltedMotor_of_halted hbit).trans (haltedBy_immediate hm hi)
  obtain he | he := acted_motor_cases (s := s) (g := g) (m := m)
  · exact ⟨_, hold_budget _, by rw [he, hy]⟩
  · exact ⟨some 0, .inr rfl, by rw [he, hy, hold_shrink]⟩

end

/-! ## The occurrence (07 R141; 08 R163) -/

section
variable {s : State} {g : Fin 16} {kind : EventKind}

theorem occur_eq : s.occur g kind =
    let u := (s.acted g).raise (lineSource g) kind (.level (s.gate g).high)
    if s.power.state = .sleep ∧ (s.gate g).cfg.wake = true then u.startWake (.line g) else u := by
  have hpower : ((s.acted g).raise (lineSource g) kind (.level (s.gate g).high)).power = s.power := by
    rw [raise_power, acted_only]
  unfold State.occur
  dsimp only
  rw [← State.acted, hpower]

theorem occur_of_awake (h : s.power.state ≠ .sleep ∨ (s.gate g).cfg.wake = false) :
    s.occur g kind = (s.acted g).raise (lineSource g) kind (.level (s.gate g).high) := by
  rw [occur_eq]
  refine if_neg fun hw => ?_
  rcases h with h | h
  · exact h hw.1
  · simp [h] at hw

theorem occur_of_woken (hs : s.power.state = .sleep) (hw : (s.gate g).cfg.wake = true) :
    s.occur g kind =
      ((s.acted g).raise (lineSource g) kind (.level (s.gate g).high)).startWake (.line g) := by
  rw [occur_eq]
  exact if_pos ⟨hs, hw⟩

/-- The wake of a sleeping part concerns the power unit, the DRAM port and the sampled groups alone. -/
theorem occur_parts : s.occur g kind =
    { (s.acted g).raise (lineSource g) kind (.level (s.gate g).high) with
      power := (s.occur g kind).power
      port := (s.occur g kind).port
      sensor := { ((s.acted g).raise (lineSource g) kind (.level (s.gate g).high)).sensor with
        groups := (s.occur g kind).sensor.groups } } := by
  rw [occur_eq]
  dsimp only
  split <;> rfl

@[simp] theorem occur_motors : (s.occur g kind).motors = (s.acted g).motors := by
  rw [occur_parts]; exact raise_motors _ _ _ _

@[simp] theorem occur_motor (m : MotorId) : (s.occur g kind).motor m = (s.acted g).motor m := by
  cases m <;> simp only [State.motor, occur_motors]

theorem occur_chans : (s.occur g kind).chans = (s.acted g).chans := by
  rw [occur_parts]; exact raise_chans _ _ _ _

@[simp] theorem occur_chan (ch : Channel) : (s.occur g kind).chan ch = (s.acted g).chan ch := by
  cases ch <;> simp only [State.chan, occur_chans]

theorem occur_sensor : (s.occur g kind).sensor = { s.sensor with
    sources := ((s.acted g).raise (lineSource g) kind (.level (s.gate g).high)).sensor.sources
    merged := (s.occur g kind).sensor.merged
    raises := (s.occur g kind).sensor.raises
    groups := (s.occur g kind).sensor.groups } := by
  rw [occur_parts, raise_sensor, acted_only]

theorem acted_raise_only (i : Fin 24) (data : EventData) : (s.acted g).raise i kind data = { s with
    motors := ((s.acted g).raise i kind data).motors
    chans := ((s.acted g).raise i kind data).chans
    sensor := ((s.acted g).raise i kind data).sensor } := by
  rw [raise_motors, raise_chans]
  exact (raise_only _ _ _ _).trans (congrArg
    (fun t : State => { t with sensor := ((s.acted g).raise i kind data).sensor }) acted_only)

theorem occur_of_awake_parts (h : s.power.state ≠ .sleep ∨ (s.gate g).cfg.wake = false) :
    (s.occur g kind).power = s.power ∧ (s.occur g kind).port = s.port ∧
      (s.occur g kind).sensor.groups = s.sensor.groups := by
  rw [occur_of_awake h, raise_power, raise_port, raise_sensor, acted_only]
  exact ⟨rfl, rfl, rfl⟩

theorem occur_of_woken_parts (hs : s.power.state = .sleep) (hw : (s.gate g).cfg.wake = true) :
    (s.occur g kind).power =
        { s.power with state := .wake, wakeCause := some (.line g), sleepTimer := none } ∧
      (s.occur g kind).port = { s.port with mode := .leaving } ∧ (s.occur g kind).sensor.groups = 0 := by
  rw [occur_of_woken hs hw, acted_raise_only]
  exact ⟨rfl, rfl, rfl⟩

theorem occur_only : s.occur g kind = { s with
    motors := (s.occur g kind).motors
    chans := (s.occur g kind).chans
    sensor := (s.occur g kind).sensor
    power := (s.occur g kind).power
    port := (s.occur g kind).port } := by
  rw [occur_eq, acted_raise_only]
  dsimp only
  split <;> rfl

@[simp] theorem occur_gate (h : Fin 16) : (s.occur g kind).gate h = s.gate h := by
  rw [State.gate, occur_sensor]
  rfl

theorem occur_source (i : Fin 24) : (s.occur g kind).source i =
    ((s.acted g).raise (lineSource g) kind (.level (s.gate g).high)).source i := by
  rw [State.source, occur_sensor]
  rfl

/-- The line's own source gets the raise of the occurrence alone. -/
theorem occur_source_line : (s.occur g kind).source (lineSource g) =
    (s.raise (lineSource g) kind (.level (s.gate g).high)).source (lineSource g) := by
  have hsame : (s.acted g).source (lineSource g) = s.source (lineSource g) :=
    (acted_source _).trans
      (allHalts_done.silent _ fun m _ he => absurd he.symm (motorSource_ne_lineSource m g))
  rw [occur_source, raise_source_self, raise_source_self, hsame]

/-- The source of a motor that is stopped at once gets its HALTED event. -/
theorem occur_source_stopped {m : MotorId} (h : s.stopsNow (s.gate g).cfg m = true) :
    (s.occur g kind).source (motorSource m) =
      (s.raise (motorSource m) .halted
        ((s.motor m).haltData ((s.gate g).cfg.halt g))).source (motorSource m) := by
  rw [occur_source, raise_source_of_ne (motorSource_ne_lineSource m g), raise_source_self, acted_source]
  exact allHalts_done.raised m (mem_allMotors m) h

theorem occur_source_of_silent {i : Fin 24} (hi : i ≠ lineSource g)
    (h : ∀ m, i = motorSource m → s.stopsNow (s.gate g).cfg m = false) :
    (s.occur g kind).source i = s.source i := by
  rw [occur_source, raise_source_of_ne hi, acted_source]
  exact allHalts_done.silent i fun m _ => h m

@[simp] theorem occur_source_priority (i : Fin 24) :
    ((s.occur g kind).source i).priority = (s.source i).priority := by
  rw [occur_source, raise_source_priority, acted_source]
  exact allHalts_done.priority i

end

end Sys2Proof.Machine
end

section
/-! PROOFS. SENSOR CONFIG (07 R143): the gateway it replaces, the occurrence that may follow, and what neither it nor
any other work of the gateways touches. -/

namespace Sys2Proof.Machine

/-! ## What the gateways' work leaves as it is -/

/-- `t` has the priorities, the threshold, the EEPROM, the start-up unit and the completion of `s`. -/
structure GateFrame (s t : State) : Prop where
  priority : ∀ i, (t.source i).priority = (s.source i).priority
  threshold : t.sensor.threshold = s.sensor.threshold
  eeprom : t.eeprom = s.eeprom
  boot : t.boot = s.boot
  completion : t.recUnit.completion = s.recUnit.completion

section
variable {s t u : State} {g : Fin 16}

theorem GateFrame.refl (s : State) : GateFrame s s := ⟨fun _ => rfl, rfl, rfl, rfl, rfl⟩

theorem GateFrame.trans (h : GateFrame s t) (k : GateFrame t u) : GateFrame s u where
  priority i := (k.priority i).trans (h.priority i)
  threshold := k.threshold.trans h.threshold
  eeprom := k.eeprom.trans h.eeprom
  boot := k.boot.trans h.boot
  completion := k.completion.trans h.completion

theorem GateFrame.of_kept (h : t.kept = s.kept) : GateFrame s t where
  priority := kept_priority h
  threshold := kept_threshold h
  eeprom := kept_eeprom h
  boot := kept_boot h
  completion := kept_completion h

theorem setGate_gateFrame (x : Gateway) : GateFrame s (s.setGate g x) := ⟨fun _ => rfl, rfl, rfl, rfl, rfl⟩

theorem occur_recUnit (kind : EventKind) : (s.occur g kind).recUnit = s.recUnit := by rw [occur_only]

theorem occur_gateFrame (kind : EventKind) : GateFrame s (s.occur g kind) where
  priority := occur_source_priority
  threshold := by rw [occur_sensor]
  eeprom := by rw [occur_only]
  boot := by rw [occur_only]
  completion := by rw [occur_recUnit]

end

/-! ## The gateway and its occurrence (07 R140, R143) -/

theorem isLevel_iff (m : GateMode) : m.isLevel = (m == .levelHigh || m == .levelLow) := by
  cases m <;> rfl

theorem active_iff (m : GateMode) (high : Bool) :
    m.active high = true ↔ m = .levelHigh ∧ high = true ∨ m = .levelLow ∧ high = false := by
  cases m <;> simp [GateMode.active]

section
variable {s : State} {g : Fin 16} {c : GateCfg}

/-- A gateway under a new configuration, before the occurrence that may follow. -/
def Gateway.configured (x : Gateway) (c : GateCfg) : Gateway :=
  { x with cfg := c, run := 0, armed := x.armed || c.mode.isLevel }

theorem configGate_of_active (h : c.mode.active (s.gate g).high = true)
    (ho : (s.gate g).armed = false ∨ (s.gate g).cfg.mode.active (s.gate g).high = false) :
    s.configGate g c = (s.setGate g ((s.gate g).configured c)).occur g .active := if_pos ⟨h, ho⟩

theorem configGate_of_quiet (h : c.mode.active (s.gate g).high = false ∨
      (s.gate g).armed = true ∧ (s.gate g).cfg.mode.active (s.gate g).high = true) :
    s.configGate g c = s.setGate g ((s.gate g).configured c) :=
  if_neg fun ⟨hactive, hnew⟩ => by
    rcases h with h | ⟨harmed, hold⟩
    · simp [h] at hactive
    · simp [harmed, hold] at hnew

theorem configGate_cases :
    s.configGate g c = s.setGate g ((s.gate g).configured c) ∨
      s.configGate g c = (s.setGate g ((s.gate g).configured c)).occur g .active := by
  by_cases h : c.mode.active (s.gate g).high ∧
      ((s.gate g).armed = false ∨ (s.gate g).cfg.mode.active (s.gate g).high = false)
  · exact .inr (if_pos h)
  · exact .inl (if_neg h)

theorem configGate_gate (h : Fin 16) :
    (s.configGate g c).gate h = (s.setGate g ((s.gate g).configured c)).gate h := by
  obtain he | he := configGate_cases (s := s) (g := g) (c := c)
  · rw [he]
  · rw [he, occur_gate]

theorem configGate_gateFrame : GateFrame s (s.configGate g c) := by
  obtain he | he := configGate_cases (s := s) (g := g) (c := c)
  · rw [he]
    exact setGate_gateFrame _
  · rw [he]
    exact (setGate_gateFrame _).trans (occur_gateFrame _)

theorem configGate_recUnit : (s.configGate g c).recUnit = s.recUnit := by
  obtain he | he := configGate_cases (s := s) (g := g) (c := c)
  · rw [he, setGate_recUnit]
  · rw [he, occur_recUnit, setGate_recUnit]

end

/-! ## The command and its checks in order (07 R143) -/

theorem lineOf_val (g : Fin 16) : lineOf g.val = some g := dif_pos g.isLt

theorem lineOf_of_gt {n : Nat} (h : 15 < n) : lineOf n = none := dif_neg (by omega)

theorem gateModeOf_of_gt {n : Nat} (h : 4 < n) : gateModeOf n = none := by
  obtain ⟨k, rfl⟩ := Nat.exists_eq_add_of_le' h
  rfl

section
variable {s : State} {bs : List Byte} {g : Fin 16} {mode : GateMode}

theorem exec_sensorConfig (h : InHand s 12 bs) :
    exec .sensorConfig s = .next (State.settle s.sensorConfigCommand) :=
  runIf_of (cmdIs_of_inHand h _) s _

theorem sensorConfigCommand_badTarget (h : s.cmdBytes = bs) (ht : 15 < wordAt bs 4) :
    s.sensorConfigCommand = s.refuse .badTarget := by
  subst h
  simp only [State.sensorConfigCommand, lineOf_of_gt ht]

theorem sensorConfigCommand_badRange (h : s.cmdBytes = bs) (hg : wordAt bs 4 = g.val)
    (hr : 4 < wordAt bs 6) : s.sensorConfigCommand = s.refuse .badRange := by
  subst h
  simp only [State.sensorConfigCommand, hg, lineOf_val, gateModeOf_of_gt hr]

theorem sensorConfigCommand_accepted (h : s.cmdBytes = bs) (hg : wordAt bs 4 = g.val)
    (hmode : gateModeOf (wordAt bs 6) = some mode) :
    s.sensorConfigCommand =
      (s.configGate g (gateCfgOf bs mode)).complete .done [flag (s.gate g).high 1] := by
  subst h
  simp only [State.sensorConfigCommand, hg, lineOf_val, hmode]

theorem configGate_completion {c : GateCfg} (h : InHand s 12 bs) (r : List Nat) :
    ((s.configGate g c).complete .done r).recUnit.completion =
      some { kind := 12, tag := cmdTag bs, code := .done, result := r } := by
  obtain ⟨-, -, hcommand, hkind⟩ := h
  simp [State.complete, State.cmdBytes, configGate_recUnit, hcommand, hkind]

theorem gateCfgOf_haltMode : (gateCfgOf bs mode).haltMode = .immediate ↔
    bitOf (wordAt bs 10) 8 = true := by
  cases hb : bitOf (wordAt bs 10) 8 <;> simp [gateCfgOf, hb]

end

/-- Settles O33: the command and its refusals, the occurrence of R143 under each condition, and what the settled state
has of the gateways, the sources and the record unit. -/
theorem sensorConfigReplacesAGateway : Obligations.SensorConfigReplacesAGateway := by
  refine ⟨fun s bs g mode hin hg hmode => ?accepted, fun s g cfg => ?gateway,
    fun s bs hin => ⟨fun ht => ?badTarget, fun g hg => ⟨fun hr => ?badRange, fun mode hmode => ?settled⟩⟩⟩
  case accepted =>
    rw [exec_sensorConfig hin, sensorConfigCommand_accepted (cmdBytes_of_inHand hin) hg hmode]
    rfl
  case gateway =>
    intro x active u
    have hu : u = s.setGate g (x.configured cfg) := by
      simp only [u, Gateway.configured, isLevel_iff, Bool.or_assoc]
    have hactive (m : GateMode) : active m ↔ m.active x.high = true := (active_iff m x.high).symm
    rw [hu, hactive, hactive, Bool.not_eq_true, Bool.not_eq_true]
    exact ⟨configGate_of_active, configGate_of_quiet⟩
  case badTarget =>
    rw [exec_sensorConfig hin, sensorConfigCommand_badTarget (cmdBytes_of_inHand hin) ht]
  case badRange =>
    rw [exec_sensorConfig hin, sensorConfigCommand_badRange (cmdBytes_of_inHand hin) hg hr]
  case settled =>
    rw [exec_sensorConfig hin, sensorConfigCommand_accepted (cmdBytes_of_inHand hin) hg hmode]
    have hkept := settle_kept
      ((s.configGate g (gateCfgOf bs mode)).complete .done [flag (s.gate g).high 1])
    obtain ⟨hcfg, hhigh, hrun⟩ := kept_gate hkept g
    rw [complete_gate, configGate_gate, gate_setGate_self] at hcfg hhigh hrun
    have hframe := configGate_gateFrame (s := s) (g := g) (c := gateCfgOf bs mode)
    refine ⟨_, rfl, ?_, ?_, ?_, ?haltMode, ?_, ?_, hrun, hhigh, fun h hne => ?other,
      (kept_completion hkept).trans (configGate_completion hin _),
      fun i => (kept_priority hkept i).trans (hframe.priority i),
      (kept_threshold hkept).trans hframe.threshold, (kept_eeprom hkept).trans hframe.eeprom,
      (kept_boot hkept).trans hframe.boot⟩
    case other =>
      have hgate := kept_gate hkept h
      rwa [complete_gate, configGate_gate, gate_setGate_of_ne _ _ hne] at hgate
    case haltMode =>
      rw [hcfg]
      exact gateCfgOf_haltMode
    all_goals
      rw [hcfg]
      rfl

end Sys2Proof.Machine
end

section
/-! PROOFS. A change of a filtered level: the trailing edge of a writer's LINES entry (02 R40, 06 R131) and the answer
of the gateway (07 R139, R140). -/

namespace Sys2Proof.Machine

/-! ## The trailing edge (02 R40, 06 R131) -/

section
variable {s : State} {ch : Channel} {g : Fin 16} {high : Bool}

theorem edgeOption_iff (e : Entry) (o : EdgeOption) :
    e.edgeOption = some o ↔ ∃ n b, e = .lines n (some o) b := by
  cases e <;> simp [Entry.edgeOption]

/-- The current entry is a begun LINES entry whose trailing-edge option `o`, not yet met, names line `g` at `high`. -/
def State.NamesEdge (s : State) (ch : Channel) (g : Fin 16) (high : Bool) (o : EdgeOption) : Prop :=
  (∃ a n b, (s.chan ch).current = some { addr := a, entry := .lines n (some o) b }) ∧
    (s.chan ch).phase = .begun ∧ (s.chan ch).edge = none ∧ o.line = g ∧ o.high = high

theorem edgeEvent_of_option {a n b : Nat} {o : EdgeOption}
    (h : (s.chan ch).current = some { addr := a, entry := .lines n (some o) b }) :
    s.edgeEvent ch g high =
      if (s.chan ch).phase = .begun ∧ (s.chan ch).edge = none ∧ o.line = g ∧ o.high = high then
        s.trailingEdge ch o.tail
      else s := by
  simp [State.edgeEvent, Chan.inLines, h, Entry.edgeOption, Entry.isLines]

theorem edgeEvent_of_no_option
    (h : ((s.chan ch).current.bind fun e => e.entry.edgeOption) = none) :
    s.edgeEvent ch g high = s := by
  simp only [State.edgeEvent, h]

theorem edgeEvent_of_named {o : EdgeOption} (h : s.NamesEdge ch g high o) :
    s.edgeEvent ch g high = s.trailingEdge ch o.tail := by
  obtain ⟨⟨a, n, b, hcur⟩, hall⟩ := h
  rw [edgeEvent_of_option hcur, if_pos hall]

theorem edgeEvent_of_unnamed (h : ∀ o, ¬s.NamesEdge ch g high o) : s.edgeEvent ch g high = s := by
  cases ho : (s.chan ch).current.bind fun e => e.entry.edgeOption with
  | none => exact edgeEvent_of_no_option ho
  | some o =>
    obtain ⟨⟨a, e⟩, hcur, he⟩ := Option.bind_eq_some_iff.mp ho
    obtain ⟨n, b, rfl⟩ := (edgeOption_iff e o).mp he
    rw [edgeEvent_of_option hcur]
    exact if_neg fun hall => h o ⟨⟨a, n, b, hcur⟩, hall⟩

theorem edgeEvent_only : s.edgeEvent ch g high = { s with chans := (s.edgeEvent ch g high).chans } := by
  unfold State.edgeEvent
  dsimp only
  split
  · split <;> rfl
  · rfl

theorem edgeEvent_gate (h : Fin 16) : (s.edgeEvent ch g high).gate h = s.gate h := by
  rw [edgeEvent_only]
  rfl

theorem edgeEvent_gateFrame : GateFrame s (s.edgeEvent ch g high) := by
  rw [edgeEvent_only]
  exact ⟨fun _ => rfl, rfl, rfl, rfl, rfl⟩

theorem committedLines_of_committed {l : Link} {j : Nat} (hl : (s.motor .m0).link = some l)
    (hj : (s.motor .m0).committed = some j) :
    s.committedLines = ((s.motor .m0).group + j + 1) / l.spl := by
  rw [motor_m0] at *
  simp only [State.committedLines, hl, hj, lambda]

theorem committedLines_of_none (h : (s.motor .m0).link = none ∨ (s.motor .m0).committed = none) :
    s.committedLines = 0 := by
  rw [motor_m0] at h
  rcases h with h | h <;> simp [State.committedLines, h]

end

/-! ## The answer of the gateway (07 R139, R140) -/

section
variable {s : State} {g : Fin 16}

theorem levelChanged_of_edge (h : (s.gate g).cfg.mode.isLevel = false) :
    s.levelChanged g =
      if (s.gate g).cfg.mode.edgeCounts (s.gate g).high then
        s.occur g (if (s.gate g).high then .rise else .fall)
      else s := by
  simp [State.levelChanged, h]

theorem levelChanged_edgeRise (h : (s.gate g).cfg.mode = .edgeRise) :
    s.levelChanged g = if (s.gate g).high then s.occur g .rise else s := by
  rw [levelChanged_of_edge (by rw [h]; rfl), h]
  cases (s.gate g).high <;> rfl

theorem levelChanged_edgeFall (h : (s.gate g).cfg.mode = .edgeFall) :
    s.levelChanged g = if (s.gate g).high then s else s.occur g .fall := by
  rw [levelChanged_of_edge (by rw [h]; rfl), h]
  cases (s.gate g).high <;> rfl

theorem levelChanged_edgeBoth (h : (s.gate g).cfg.mode = .edgeBoth) :
    s.levelChanged g = s.occur g (if (s.gate g).high then .rise else .fall) := by
  rw [levelChanged_of_edge (by rw [h]; rfl), h]
  rfl

theorem levelChanged_of_active (h : (s.gate g).cfg.mode.active (s.gate g).high = true) :
    s.levelChanged g = if (s.gate g).armed then s.occur g .active else s := by
  have hlevel : (s.gate g).cfg.mode.isLevel = true := by
    revert h
    cases (s.gate g).cfg.mode <;> simp [GateMode.active, GateMode.isLevel]
  simp only [State.levelChanged, if_pos hlevel, if_pos h]

/-- A level line that is no longer active is armed again, and its pending ACTIVE entry is withdrawn. -/
theorem levelChanged_of_inactive (hlevel : (s.gate g).cfg.mode.isLevel = true)
    (h : (s.gate g).cfg.mode.active (s.gate g).high = false) :
    s.levelChanged g =
      (s.withdraw (lineSource g)).setGate g { s.gate g with armed := true } := by
  simp [State.levelChanged, hlevel, h]

theorem withdraw_of_active {i : Fin 24} {e : PendingEvent} (he : (s.source i).entry = some e)
    (hk : e.kind = .active) : s.withdraw i = s.setSource i { s.source i with entry := none } :=
  if_pos (by simp [he, hk])

theorem withdraw_of_other {i : Fin 24} {e : PendingEvent} (he : (s.source i).entry = some e)
    (hk : e.kind ≠ .active) : s.withdraw i = s := if_neg (by simp [he, hk])

theorem withdraw_gate (i : Fin 24) (h : Fin 16) : (s.withdraw i).gate h = s.gate h := by
  unfold State.withdraw
  split <;> rfl

theorem withdraw_gateFrame (i : Fin 24) : GateFrame s (s.withdraw i) := by
  unfold State.withdraw
  split
  next =>
    refine ⟨fun j => ?_, rfl, rfl, rfl, rfl⟩
    by_cases hj : j = i
    · rw [hj, source_setSource_self]
    · rw [source_setSource_of_ne _ _ hj]
  next => exact .refl s

/-- All that the answer of a gateway can be. -/
theorem levelChanged_cases : s.levelChanged g = s ∨ (∃ k, s.levelChanged g = s.occur g k) ∨
    s.levelChanged g = (s.withdraw (lineSource g)).setGate g { s.gate g with armed := true } := by
  cases hlevel : (s.gate g).cfg.mode.isLevel
  · rw [levelChanged_of_edge hlevel]
    split
    · exact .inr (.inl ⟨_, rfl⟩)
    · exact .inl rfl
  · cases hactive : (s.gate g).cfg.mode.active (s.gate g).high
    · exact .inr (.inr (levelChanged_of_inactive hlevel hactive))
    · rw [levelChanged_of_active hactive]
      split
      · exact .inr (.inl ⟨_, rfl⟩)
      · exact .inl rfl

/-- The answer of a gateway changes of the gateways no more than whether it is armed. -/
theorem levelChanged_gate_self :
    (s.levelChanged g).gate g = { s.gate g with armed := ((s.levelChanged g).gate g).armed } := by
  obtain h | ⟨k, h⟩ | h := levelChanged_cases (s := s) (g := g)
  · rw [h]
  · rw [h, occur_gate]
  · rw [h, gate_setGate_self]

theorem levelChanged_gate_of_ne {h : Fin 16} (hne : h ≠ g) : (s.levelChanged g).gate h = s.gate h := by
  obtain he | ⟨k, he⟩ | he := levelChanged_cases (s := s) (g := g)
  · rw [he]
  · rw [he, occur_gate]
  · rw [he, gate_setGate_of_ne _ _ hne, withdraw_gate]

theorem levelChanged_gateFrame : GateFrame s (s.levelChanged g) := by
  obtain h | ⟨k, h⟩ | h := levelChanged_cases (s := s) (g := g)
  · rw [h]
    exact .refl s
  · rw [h]
    exact occur_gateFrame k
  · rw [h]
    exact (withdraw_gateFrame _).trans (setGate_gateFrame _)

/-! ## The change of a filtered level (07 R137, R139) -/

theorem changeLevel_eq : s.changeLevel g =
    (((s.setGate g { s.gate g with high := !(s.gate g).high, run := 0 }).edgeEvent .scan g
      (!(s.gate g).high)).edgeEvent .codeIn g (!(s.gate g).high)).levelChanged g := rfl

theorem changeLevel_gate_self : (s.changeLevel g).gate g = { s.gate g with
    high := !(s.gate g).high, run := 0, armed := ((s.changeLevel g).gate g).armed } := by
  rw [changeLevel_eq, levelChanged_gate_self, edgeEvent_gate, edgeEvent_gate, gate_setGate_self]

theorem changeLevel_gate_of_ne {h : Fin 16} (hne : h ≠ g) : (s.changeLevel g).gate h = s.gate h := by
  rw [changeLevel_eq, levelChanged_gate_of_ne hne, edgeEvent_gate, edgeEvent_gate,
    gate_setGate_of_ne _ _ hne]

theorem changeLevel_gateFrame : GateFrame s (s.changeLevel g) :=
  (setGate_gateFrame _).trans <| edgeEvent_gateFrame.trans <|
    edgeEvent_gateFrame.trans levelChanged_gateFrame

end

end Sys2Proof.Machine
end

section
/-! PROOFS. SENSOR_SAMPLE and DEBOUNCE_LEVEL_CHANGE (07 R137, R150), and what a line's samples and
occurrences come to. -/

namespace Sys2Proof.Machine

/-! ## The sample of one line (07 R137) -/

/-- Gateway `y` is `x` behind a sample of its line at `level`, whatever became of its arming. -/
structure Gateway.Sampled (x : Gateway) (level : Bool) (y : Gateway) : Prop where
  cfg : y.cfg = x.cfg
  agrees : level = x.high → y.high = x.high ∧ y.run = 0
  differs : level ≠ x.high →
    (x.run + 1 < x.cfg.debounce → y.high = x.high ∧ y.run = x.run + 1) ∧
      (x.cfg.debounce ≤ x.run + 1 → y.high = level ∧ y.run = 0)

section
variable {s : State} {g : Fin 16} {level : Bool}

theorem changeDue_iff (x : Gateway) : x.changeDue = true ↔ x.cfg.debounce ≤ x.run + 1 := decide_eq_true_iff

theorem takeSample_of_equal (h : level = (s.gate g).high) :
    s.takeSample g level = s.setGate g { s.gate g with run := 0 } := if_pos h

theorem takeSample_of_due (h : level ≠ (s.gate g).high)
    (hdue : (s.gate g).cfg.debounce ≤ (s.gate g).run + 1) : s.takeSample g level = s.changeLevel g :=
  (if_neg h).trans (if_pos ((changeDue_iff _).mpr hdue))

theorem takeSample_of_early (h : level ≠ (s.gate g).high)
    (hrun : (s.gate g).run + 1 < (s.gate g).cfg.debounce) :
    s.takeSample g level = s.setGate g { s.gate g with run := (s.gate g).run + 1 } :=
  (if_neg h).trans (if_neg fun hdue => by have := (changeDue_iff _).mp hdue; omega)

theorem takeSample_of_still (h : level = (s.gate g).high) (hrun : (s.gate g).run = 0) :
    s.takeSample g level = s := by
  have hself : { s.gate g with run := 0 } = s.gate g := by rw [← hrun]
  rw [takeSample_of_equal h, hself, setGate_gate]

theorem takeSample_sampled : (s.gate g).Sampled level ((s.takeSample g level).gate g) := by
  by_cases h : level = (s.gate g).high
  · rw [takeSample_of_equal h, gate_setGate_self]
    exact ⟨rfl, fun _ => ⟨rfl, rfl⟩, fun hne => absurd h hne⟩
  · by_cases hdue : (s.gate g).cfg.debounce ≤ (s.gate g).run + 1
    · rw [takeSample_of_due h hdue, changeLevel_gate_self]
      refine ⟨rfl, fun he => absurd he h, fun _ => ⟨fun hrun => by omega, fun _ => ⟨?_, rfl⟩⟩⟩
      exact (Bool.eq_not_of_ne h).symm
    · rw [takeSample_of_early h (by omega), gate_setGate_self]
      exact ⟨rfl, fun he => absurd he h, fun _ => ⟨fun _ => ⟨rfl, rfl⟩, fun hd => absurd hd hdue⟩⟩

theorem takeSample_gate_of_ne {h : Fin 16} (hne : h ≠ g) :
    (s.takeSample g level).gate h = s.gate h := by
  by_cases hl : level = (s.gate g).high
  · rw [takeSample_of_equal hl, gate_setGate_of_ne _ _ hne]
  · by_cases hdue : (s.gate g).cfg.debounce ≤ (s.gate g).run + 1
    · rw [takeSample_of_due hl hdue, changeLevel_gate_of_ne hne]
    · rw [takeSample_of_early hl (by omega), gate_setGate_of_ne _ _ hne]

theorem takeSample_gateFrame : GateFrame s (s.takeSample g level) := by
  by_cases hl : level = (s.gate g).high
  · rw [takeSample_of_equal hl]
    exact setGate_gateFrame _
  · by_cases hdue : (s.gate g).cfg.debounce ≤ (s.gate g).run + 1
    · rw [takeSample_of_due hl hdue]
      exact changeLevel_gateFrame
    · rw [takeSample_of_early hl (by omega)]
      exact setGate_gateFrame _

theorem Gateway.Sampled.of_same {x y z : Gateway} (h : x.Sampled level y)
    (hz : z.cfg = y.cfg ∧ z.high = y.high ∧ z.run = y.run) : x.Sampled level z := by
  obtain ⟨hcfg, hhigh, hrun⟩ := hz
  refine ⟨hcfg.trans h.cfg, ?_, ?_⟩
  · rw [hhigh, hrun]
    exact h.agrees
  · rw [hhigh, hrun]
    exact h.differs

end

/-! ## The samples of the lines in their order (07 R137, R150) -/

section
variable {s : State} {on : Fin 16 → Bool} {lines : BitVec 16} {gs : List (Fin 16)} {g : Fin 16}

theorem sampled_iff : s.sampled g = true ↔ s.power.state ≠ .sleep ∨ s.port.mode = .entering ∨
    s.sensor.groups.getLsbD (g.val / 4) = true := by
  simp [State.sampled, or_assoc]

theorem takeSamples_cons : s.takeSamples on lines (g :: gs) =
    (if on g then s.takeSample g (lines.getLsbD g.val) else s).takeSamples on lines gs := rfl

theorem takeSamples_append (pre : List (Fin 16)) : s.takeSamples on lines (pre ++ gs) =
    (s.takeSamples on lines pre).takeSamples on lines gs := by
  induction pre generalizing s with
  | nil => rfl
  | cons g rest ih => exact ih

theorem sampleIf_gate_of_ne {h : Fin 16} (hne : h ≠ g) :
    (if on g then s.takeSample g (lines.getLsbD g.val) else s).gate h = s.gate h := by
  split
  · exact takeSample_gate_of_ne hne
  · rfl

theorem takeSamples_gate_of_not {h : Fin 16} (hn : h ∉ gs ∨ on h = false) :
    (s.takeSamples on lines gs).gate h = s.gate h := by
  induction gs generalizing s with
  | nil => rfl
  | cons g rest ih =>
    rw [takeSamples_cons, ih (hn.imp_left fun hmem hin => hmem (List.mem_cons_of_mem g hin))]
    by_cases he : h = g
    · subst he
      rw [if_neg (by simpa using hn)]
    · exact sampleIf_gate_of_ne he

theorem takeSamples_sampled (hgs : gs.Nodup) (hg : g ∈ gs) (hon : on g = true) :
    (s.gate g).Sampled (lines.getLsbD g.val) ((s.takeSamples on lines gs).gate g) := by
  induction gs generalizing s with
  | nil => exact absurd hg List.not_mem_nil
  | cons h rest ih =>
    obtain ⟨hmem, hrest⟩ := List.nodup_cons.mp hgs
    rw [takeSamples_cons]
    obtain rfl | hin := List.mem_cons.mp hg
    · rw [takeSamples_gate_of_not (.inl hmem), if_pos hon]
      exact takeSample_sampled
    · have hne : g ≠ h := fun he => hmem (he ▸ hin)
      rw [← sampleIf_gate_of_ne (s := s) (on := on) (lines := lines) hne]
      exact ih hrest hin

theorem takeSamples_gateFrame : GateFrame s (s.takeSamples on lines gs) := by
  induction gs generalizing s with
  | nil => exact .refl s
  | cons g rest ih =>
    rw [takeSamples_cons]
    refine .trans ?_ ih
    split
    · exact takeSample_gateFrame
    · exact .refl s

/-- Samples that bring no level to its change move the run counts alone. -/
theorem takeSamples_of_early (hgs : gs.Nodup)
    (h : ∀ g ∈ gs, on g = true → lines.getLsbD g.val ≠ (s.gate g).high →
      (s.gate g).run + 1 < (s.gate g).cfg.debounce) :
    s.takeSamples on lines gs =
      { s with sensor := { s.sensor with gates := (s.takeSamples on lines gs).sensor.gates } } := by
  induction gs generalizing s with
  | nil => rfl
  | cons g rest ih =>
    obtain ⟨hmem, hrest⟩ := List.nodup_cons.mp hgs
    have hstep : ∃ x, (if on g then s.takeSample g (lines.getLsbD g.val) else s) = s.setGate g x := by
      split
      next hon =>
        by_cases hl : lines.getLsbD g.val = (s.gate g).high
        · exact ⟨_, takeSample_of_equal hl⟩
        · exact ⟨_, takeSample_of_early hl (h g List.mem_cons_self hon hl)⟩
      next => exact ⟨_, (setGate_gate s g).symm⟩
    obtain ⟨x, hx⟩ := hstep
    rw [takeSamples_cons, hx]
    refine ih (s := s.setGate g x) hrest fun d hd => ?_
    have hne : d ≠ g := fun he => hmem (he ▸ hd)
    rw [gate_setGate_of_ne s x hne]
    exact h d (List.mem_cons_of_mem g hd)

/-- Samples that agree with levels whose run counts are 0 change nothing. -/
theorem takeSamples_of_still (h : ∀ g ∈ gs, on g = true →
    lines.getLsbD g.val = (s.gate g).high ∧ (s.gate g).run = 0) : s.takeSamples on lines gs = s := by
  induction gs with
  | nil => rfl
  | cons g rest ih =>
    have hstep : (if on g then s.takeSample g (lines.getLsbD g.val) else s) = s := by
      split
      next hon =>
        obtain ⟨hl, hrun⟩ := h g List.mem_cons_self hon
        exact takeSample_of_still hl hrun
      next => rfl
    rw [takeSamples_cons, hstep]
    exact ih fun d hd => h d (List.mem_cons_of_mem g hd)

/-- Where one line alone takes a sample that matters, the samples are that of this line. -/
theorem takeSamples_of_one (hgs : gs.Nodup) (hg : g ∈ gs) (hon : on g = true)
    (h : ∀ d, d ≠ g → on d = true → lines.getLsbD d.val = (s.gate d).high ∧ (s.gate d).run = 0) :
    s.takeSamples on lines gs = s.takeSample g (lines.getLsbD g.val) := by
  obtain ⟨pre, post, rfl⟩ := List.append_of_mem hg
  obtain ⟨-, hpost, hdisjoint⟩ := List.nodup_append.mp hgs
  have hpre {d : Fin 16} (hd : d ∈ pre) : d ≠ g := hdisjoint d hd g List.mem_cons_self
  have hne {d : Fin 16} (hd : d ∈ post) : d ≠ g := fun he => (List.nodup_cons.mp hpost).1 (he ▸ hd)
  have hstill : s.takeSamples on lines pre = s := takeSamples_of_still fun d hd => h d (hpre hd)
  rw [takeSamples_append, hstill, takeSamples_cons, if_pos hon]
  refine takeSamples_of_still fun d hd => ?_
  rw [takeSample_gate_of_ne (hne hd)]
  exact h d (hne hd)

theorem exec_sensorSample (h : s.sensor.sampling = true) :
    exec (.sensorSample lines) s = .next (State.settle (s.takeSamples s.sampled lines ids16)) :=
  runIf_of h s _

theorem exec_debounceLevelChange (h : s.sensor.sampling = true) (hg : s.sampled g = true)
    (hdue : (s.gate g).cfg.debounce ≤ (s.gate g).run + 1) :
    exec (.debounceLevelChange g) s = .next (State.settle (s.changeLevel g)) :=
  runIf_of (by rw [h, hg, (changeDue_iff _).mpr hdue]; rfl) s _

theorem ids16_nodup : ids16.Nodup := List.nodup_finRange 16

theorem mem_ids16 (g : Fin 16) : g ∈ ids16 := List.mem_finRange g

end

/-! ## Samples and changes of levels within their step -/

section
variable {s : State} {lines : BitVec 16} {g : Fin 16}

theorem settled_takeSamples (g : Fin 16) :
    let t := State.settle (s.takeSamples s.sampled lines ids16)
    (s.sampled g = false → (t.gate g).cfg = (s.gate g).cfg ∧ (t.gate g).high = (s.gate g).high ∧
      (t.gate g).run = (s.gate g).run) ∧
    (s.sampled g = true → (s.gate g).Sampled (lines.getLsbD g.val) (t.gate g)) := by
  have hkept := kept_gate (settle_kept (s.takeSamples s.sampled lines ids16)) g
  refine ⟨fun hoff => ?_, fun hon => (takeSamples_sampled ids16_nodup (mem_ids16 g) hon).of_same hkept⟩
  rwa [takeSamples_gate_of_not (.inr hoff)] at hkept

/-- A level line that is no longer active is armed, and of its pending entry only an ACTIVE one is withdrawn. -/
theorem levelChanged_rearms (hlevel : (s.gate g).cfg.mode.isLevel = true)
    (h : (s.gate g).cfg.mode.active (s.gate g).high = false) :
    ((s.levelChanged g).gate g).armed = true ∧
      (∀ e, (s.source (lineSource g)).entry = some e → e.kind = .active →
        ((s.levelChanged g).source (lineSource g)).entry = none) ∧
      (∀ e, (s.source (lineSource g)).entry = some e → e.kind ≠ .active →
        ((s.levelChanged g).source (lineSource g)).entry = some e) := by
  rw [levelChanged_of_inactive hlevel h, gate_setGate_self, setGate_source]
  refine ⟨rfl, fun e he hk => ?_, fun e he hk => ?_⟩
  · rw [withdraw_of_active he hk, source_setSource_self]
  · rw [withdraw_of_other he hk, he]

end

/-- Settles O34: trailing edges, samples and changes of levels, the answers of the gateways, and the parts of an
occurrence. -/
theorem samplesLevelsAndOccurrences : Obligations.SamplesLevelsAndOccurrences := by
  refine ⟨fun s ch g high => ⟨fun o => edgeEvent_of_named, edgeEvent_of_unnamed⟩,
    fun s => ⟨fun l j => committedLines_of_committed, committedLines_of_none⟩,
    ⟨fun s g => sampled_iff, fun s lines hon => ?sample, fun s lines hon hearly => ?early,
      fun s lines g hon hg hne hdue hstill => ?one, fun s g hon hg hdue => ?change, fun s g => changeLevel_eq,
      fun s g => ?answer⟩, fun s g kind => ?occurrence⟩
  case sample =>
    have hframe := (takeSamples_gateFrame (s := s) (on := s.sampled) (lines := lines) (gs := ids16)).trans
      (.of_kept (settle_kept _))
    refine ⟨_, exec_sensorSample hon, fun g => ?_, hframe.priority, hframe.threshold, hframe.eeprom,
      hframe.boot, hframe.completion⟩
    obtain ⟨hoff, hsampled⟩ := settled_takeSamples (s := s) (lines := lines) g
    refine ⟨?_, fun h => (hoff h).2, fun h => (hsampled h).agrees, fun h => (hsampled h).differs⟩
    cases h : s.sampled g
    · exact (hoff h).1
    · exact (hsampled h).cfg
  case early =>
    exact ⟨_, exec_sensorSample hon, takeSamples_of_early ids16_nodup fun g _ => hearly g⟩
  case one =>
    refine ⟨?_, exec_debounceLevelChange hon hg hdue⟩
    rw [exec_sensorSample hon, takeSamples_of_one ids16_nodup (mem_ids16 g) hg hstill,
      takeSample_of_due hne hdue]
  case change =>
    have hkept := settle_kept (s.changeLevel g)
    have hframe := (changeLevel_gateFrame (s := s) (g := g)).trans (.of_kept hkept)
    obtain ⟨hcfg, hhigh, hrun⟩ := kept_gate hkept g
    rw [changeLevel_gate_self] at hcfg hhigh hrun
    refine ⟨_, exec_debounceLevelChange hon hg hdue, hhigh, hrun, hcfg, fun h hne => ?_, hframe.priority,
      hframe.threshold, hframe.eeprom, hframe.boot, hframe.completion⟩
    have hgate := kept_gate hkept h
    rwa [changeLevel_gate_of_ne hne] at hgate
  case answer =>
    refine ⟨levelChanged_edgeRise, levelChanged_edgeFall, levelChanged_edgeBoth,
      fun h => levelChanged_of_active ((active_iff _ _).mpr h), fun h => ?_⟩
    obtain ⟨hm, hhigh⟩ | ⟨hm, hhigh⟩ := h
    · exact levelChanged_rearms (by rw [hm]; rfl) (by rw [hm, hhigh]; rfl)
    · exact levelChanged_rearms (by rw [hm]; rfl) (by rw [hm, hhigh]; rfl)
  case occurrence =>
    intro c e paused
    refine ⟨fun m hbit => ?halted, fun m hbit => ?spared, ?action, ?halts, ?ramps, ?steps,
      fun ch => ⟨fun h => ?paused, fun h => ?refused⟩, occur_source_line, fun i hi hm => ?silent,
      occur_gate, ?threshold, ?sampling, ?posted, fun h => ?awake, fun hs hw => ?woken,
      fun hh hp hw => ?idle, occur_only⟩
    case halted =>
      intro x h h'
      have hmerge : h' = mergeHalt x.halted h := by
        simp only [h']
        cases x.halted <;> rfl
      rw [hmerge, occur_motor]
      refine ⟨acted_halted hbit, fun hm => ⟨acted_motor_of_rest hbit hm, acted_budget_of_rest hbit hm⟩,
        fun j hm hj hr => (acted_motor_ramp hbit hm hj hr).trans (haltedRamp_of_committed hj),
        fun hm hi => ?_⟩
      obtain ⟨b, hb, heq⟩ := acted_motor_immediate hbit hm hi
      rw [heq]
      exact ⟨hold_budget_moving _ b, rfl, rfl, rfl, rfl, rfl, rfl, rfl, rfl, rfl, rfl, rfl, rfl, rfl, rfl, rfl, hb,
        occur_source_stopped (stopsNow_iff.mpr ⟨hbit, hi, hm⟩)⟩
    case spared =>
      have hsame := haltedMotor_of_spared (s := s) (m := m) hbit
      rw [occur_motor]
      refine ⟨?_, fun h => ?_, fun ch hfor htake hlink => ?_⟩
      · conv => lhs; rw [acted_motor, hsame]
      · rw [acted_motor_of_spared h, hsame]
      · rw [acted_motor_of_taken hfor htake (by rw [hsame]; exact hlink), hsame]
        rfl
    case action => rw [occur_motors, acted_motors]
    case halts =>
      rw [occur_motors, acted_motors]
      rfl
    case ramps => rw [occur_motors, acted_motors]
    case steps => rw [occur_motors, acted_motors]
    case paused => rw [occur_chan, acted_chan_of_taken h]
    case refused => rw [occur_chan, acted_chan_of_refused h]
    case silent => exact occur_source_of_silent hi fun m he => stopsNow_eq_false (hm m he)
    case threshold => rw [occur_sensor]
    case sampling => rw [occur_sensor]
    case posted => rw [occur_sensor]
    case awake => exact occur_of_awake_parts h
    case woken => exact occur_of_woken_parts hs hw
    case idle => exact (occur_of_awake hw).trans (by rw [acted_of_no_action hh hp])

end Sys2Proof.Machine
end

section
/-! PROOFS. POWER: its targets, its power states and its completion (08 R155). -/

namespace Sys2Proof.Machine

section
variable {s : State} {bs : List Byte} {code : Nat}

theorem badPowerTarget_iff : badPowerTarget bs = true ↔ wordAt bs 4 = 1 ∨ 3 < wordAt bs 4 := by
  simp only [badPowerTarget, Bool.and_eq_true, bne_iff_ne]
  omega

theorem badPowerTarget_of_eq (ht : wordAt bs 4 = code) (hc : code = 0 ∨ code = 2 ∨ code = 3) :
    badPowerTarget bs = false := by
  rw [Bool.eq_false_iff, ne_eq, badPowerTarget_iff]
  omega

/-! ## The three rows, for a target of their own and for one that no row names (log 25) -/

/-- The row of a target has its effect and completes with the power state behind it. -/
theorem powerRow_of_target (h : InHand s 15 bs) (ht : wordAt bs 4 = code)
    (hc : code = 0 ∨ code = 2 ∨ code = 3) (e : State) :
    runIf (s.cmdIs 15 fun bs => wordAt bs 4 == code || badPowerTarget bs) s (s.powerCommand e) =
      .next (State.settle e.powerDone) := by
  have heffect : s.powerCommand e = e.powerDone := by
    rw [State.powerCommand, cmdBytes_of_inHand h, badPowerTarget_of_eq ht hc]
    rfl
  rw [runIf_of (by rw [cmdIs_of_inHand h, ht, beq_self_eq_true, Bool.true_or]), heffect]

/-- Each row refuses a target that none of them names. -/
theorem powerRow_of_badTarget (h : InHand s 15 bs) (hbad : badPowerTarget bs = true) (e : State) :
    runIf (s.cmdIs 15 fun bs => wordAt bs 4 == code || badPowerTarget bs) s (s.powerCommand e) =
      .next (State.settle (s.refuse .badRange)) := by
  have heffect : s.powerCommand e = s.refuse .badRange := by
    rw [State.powerCommand, cmdBytes_of_inHand h, if_pos hbad]
  rw [runIf_of (by rw [cmdIs_of_inHand h, hbad, Bool.or_true]), heffect]

theorem exec_powerRun (h : InHand s 15 bs) (ht : wordAt bs 4 = 0) :
    exec .powerRun s = .next (State.settle s.powerRun.powerDone) :=
  powerRow_of_target h ht (by decide) _

theorem exec_powerDoze (h : InHand s 15 bs) (ht : wordAt bs 4 = 2) :
    exec .powerDoze s = .next (State.settle s.powerDoze.powerDone) :=
  powerRow_of_target h ht (by decide) _

theorem exec_powerSleep (h : InHand s 15 bs) (ht : wordAt bs 4 = 3) :
    exec .powerSleep s = .next (State.settle s.powerSleep.powerDone) :=
  powerRow_of_target h ht (by decide) _

theorem exec_power_badTarget (h : InHand s 15 bs) (hbad : badPowerTarget bs = true) :
    exec .powerRun s = .next (State.settle (s.refuse .badRange)) ∧
      exec .powerDoze s = .next (State.settle (s.refuse .badRange)) ∧
        exec .powerSleep s = .next (State.settle (s.refuse .badRange)) :=
  ⟨powerRow_of_badTarget h hbad _, powerRow_of_badTarget h hbad _, powerRow_of_badTarget h hbad _⟩

end

/-! ## What each target does in each power state -/

section
variable {s : State}

theorem leaveDoze_of_doze (h : s.power.state = .doze) (k : Nat) :
    s.leaveDoze k =
      { s with power := { s.power with state := .run } }.raise 22 .resumed (.word k) :=
  if_pos h

theorem leaveDoze_of_ne (h : s.power.state ≠ .doze) (k : Nat) : s.leaveDoze k = s := if_neg h

theorem powerRun_of_drain (h : s.power.state = .drain) :
    s.powerRun =
      { s with power := { s.power with state := .run, target := none, drainTimer := none } } := by
  rw [State.powerRun, h]

theorem powerRun_of_ne_drain (h : s.power.state ≠ .drain) : s.powerRun = s.leaveDoze 15 := by
  unfold State.powerRun
  split
  · next hd => exact absurd hd h
  · rfl

theorem powerDoze_of_doze (h : s.power.state = .doze) : s.powerDoze = s := if_pos h

theorem powerDoze_of_ne (h : s.power.state ≠ .doze) : s.powerDoze = s.loadDrain .doze := if_neg h

theorem powerSleep_eq {bs : List Byte} (h : s.cmdBytes = bs) :
    s.powerSleep = { s with power :=
      { s.power with
        state := .drain
        target := some .sleep
        sleepTime := wordAt bs 6
        drainTimer := some (s.power.drainLimit * 10) } } := by
  subst h
  rfl

/-- The completion carries the power state that the effect has left. -/
theorem powerDone_of_state {p : PowerState} (h : s.power.state = p) :
    s.powerDone = s.complete .done [p.code] := by
  rw [State.powerDone, h]

end

/-- Settles O35: each row with its own target, power state by power state, and the refusal of any other target. -/
theorem powerTargetsFollowTheTable : Obligations.PowerTargetsFollowTheTable := by
  refine fun s bs h =>
    ⟨fun ht => ⟨fun hp => ?runDrain, fun hp => ?runDoze, fun hdrain hdoze => ?runElse⟩,
      fun ht => ⟨fun hp => ?dozeDoze, fun hp => ?dozeElse⟩, fun ht => ?sleep,
      fun ht => exec_power_badTarget h (badPowerTarget_iff.mpr ht)⟩
  case runDrain => rw [exec_powerRun h ht, powerRun_of_drain hp, powerDone_of_state rfl]
  case runDoze =>
    rw [exec_powerRun h ht, powerRun_of_ne_drain (by rw [hp]; decide), leaveDoze_of_doze hp,
      powerDone_of_state (by rw [raise_power])]
  case runElse =>
    rw [exec_powerRun h ht, powerRun_of_ne_drain hdrain, leaveDoze_of_ne hdoze, State.powerDone]
  case dozeDoze => rw [exec_powerDoze h ht, powerDoze_of_doze hp, powerDone_of_state hp]
  case dozeElse =>
    rw [exec_powerDoze h ht, powerDoze_of_ne hp, State.loadDrain, powerDone_of_state rfl]
  case sleep =>
    rw [exec_powerSleep h ht, powerSleep_eq (cmdBytes_of_inHand h), powerDone_of_state rfl]

end Sys2Proof.Machine
end

section
/-! PROOFS. The entry conditions of DOZE and SLEEP, and the ends of a drain (08 R157, R158). -/

namespace Sys2Proof.Machine

/-! ## No source is chosen when none is reportable (07 R147, R148) -/

section
variable {s : State}

theorem reportable_iff (i : Fin 24) : s.reportable i = true ↔
    (s.source i).entry.isSome = true ∧ s.sensor.threshold < (s.source i).priority := by
  rw [State.reportable, Bool.and_eq_true, decide_eq_true_iff]

/-- A reportable source leaves a candidate, an unreportable one the candidate there was. -/
theorem better_eq_none_iff (a : Option (Fin 24)) (i : Fin 24) :
    s.better a i = none ↔ a = none ∧ s.reportable i = false := by
  unfold State.better
  cases s.reportable i
  · simp
  · cases a with
    | none => simp
    | some j => simp only [if_true]; split <;> simp

theorem foldl_better_eq_none_iff (l : List (Fin 24)) (a : Option (Fin 24)) :
    l.foldl s.better a = none ↔ a = none ∧ ∀ i ∈ l, s.reportable i = false := by
  induction l generalizing a with
  | nil => simp
  | cons i l ih => rw [List.foldl_cons, ih, better_eq_none_iff, List.forall_mem_cons, and_assoc]

theorem chosenSource_eq_none_iff : s.chosenSource = none ↔
    ∀ i, (s.source i).entry.isSome = true → (s.source i).priority ≤ s.sensor.threshold := by
  have hmem (i : Fin 24) : i ∈ ids24 := List.mem_finRange i
  simp only [State.chosenSource, foldl_better_eq_none_iff, hmem, true_and, forall_const,
    ← Bool.not_eq_true, reportable_iff, not_and, Nat.not_lt]

end

/-! ## The six conditions by their numbers (08 R157) -/

section
variable (s : State)

theorem entryCondition_channelsIdle :
    s.entryCondition 1 = true ↔ ∀ ch, (s.chan ch).state = .idle := by
  simp only [State.entryCondition, List.all_eq_true, mem_allChannels, forall_const, beq_iff_eq]

theorem entryCondition_motorsRest :
    s.entryCondition 2 = true ↔ ∀ m, (s.motor m).moving = false := by
  simp only [State.entryCondition, List.all_eq_true, mem_allMotors, forall_const, Bool.not_eq_true']

theorem entryCondition_linkIdle :
    s.entryCondition 3 = true ↔ s.coder.send = .idle ∧ s.coder.recv = .idle := by
  simp only [State.entryCondition, Bool.and_eq_true, beq_iff_eq]

theorem entryCondition_noStore : s.entryCondition 4 = true ↔ s.boot.store = none := by
  simp only [State.entryCondition, Option.isNone_iff_eq_none]

theorem entryCondition_commandsRead :
    s.entryCondition 5 = true ↔ s.recUnit.consumer = s.host.producer ∧
      (s.recUnit.state = .waiting ∨ s.recUnit.state = .advancing) ∧
        s.recUnit.completion = none := by
  simp only [State.entryCondition, Bool.and_eq_true, Bool.or_eq_true, beq_iff_eq,
    Option.isNone_iff_eq_none, and_assoc]

theorem entryCondition_nothingReportable :
    s.entryCondition 6 = true ↔
      ∀ i, (s.source i).entry.isSome = true → (s.source i).priority ≤ s.sensor.threshold := by
  simp only [State.entryCondition, Option.isNone_iff_eq_none, chosenSource_eq_none_iff]

/-! ## The first unmet condition of a target -/

theorem unmet_eq_none_iff (t : Quiet) :
    s.unmet t = none ↔ ∀ n ∈ conditionsOf t, s.entryCondition n = true := by
  simp only [State.unmet, List.find?_eq_none, Bool.not_eq_true', Bool.not_eq_false]

theorem unmet_doze_eq_none_iff :
    s.unmet .doze = none ↔
      (∀ ch, (s.chan ch).state = .idle) ∧ (∀ m, (s.motor m).moving = false) ∧
        s.coder.send = .idle ∧ s.coder.recv = .idle := by
  simp only [unmet_eq_none_iff, conditionsOf, List.forall_mem_cons, List.not_mem_nil,
    false_imp_iff, implies_true, and_true, entryCondition_channelsIdle, entryCondition_motorsRest,
    entryCondition_linkIdle]

/-- The conditions of SLEEP are those of DOZE and three more. -/
theorem unmet_sleep_eq_none_iff :
    s.unmet .sleep = none ↔
      s.unmet .doze = none ∧ s.entryCondition 4 = true ∧ s.entryCondition 5 = true ∧
        s.entryCondition 6 = true := by
  simp only [unmet_eq_none_iff, conditionsOf, List.forall_mem_cons, List.not_mem_nil,
    false_imp_iff, implies_true, and_true, and_assoc]

theorem conditionsOf_ascending (t : Quiet) : (conditionsOf t).Pairwise (· < ·) := by
  cases t <;> decide

end

/-- What `find?` finds in an ascending list is the least element that passes. -/
theorem find?_least_of_ascending {l : List Nat} {p : Nat → Bool} {n : Nat} (hl : l.Pairwise (· < ·))
    (h : l.find? p = some n) : n ∈ l ∧ p n = true ∧ ∀ k ∈ l, k < n → p k = false := by
  obtain ⟨hn, before, after, rfl, hbefore⟩ := List.find?_eq_some_iff_append.mp h
  refine ⟨by simp, hn, fun k hk hlt => ?_⟩
  rw [List.pairwise_append, List.pairwise_cons] at hl
  obtain ⟨-, ⟨hafter, -⟩, -⟩ := hl
  rw [List.mem_append, List.mem_cons] at hk
  obtain hk | rfl | hk := hk
  · simpa using hbefore k hk
  · exact absurd hlt (Nat.lt_irrefl k)
  · exact absurd hlt (Nat.lt_asymm (hafter k hk))

theorem unmet_eq_some {s : State} {t : Quiet} {n : Nat} (h : s.unmet t = some n) :
    n ∈ conditionsOf t ∧ s.entryCondition n = false ∧
      ∀ k, k ∈ conditionsOf t → k < n → s.entryCondition k = true := by
  simpa using find?_least_of_ascending (conditionsOf_ascending t) h

/-! ## DRAIN_TIMER_EXPIRY and DOZE_ENTRY (08 R157, R158) -/

section
variable {s : State} {t : Quiet}

theorem exec_drainTimerExpiry {n : Nat} (hp : s.power.state = .drain)
    (ht : s.power.target = some t) (htimer : s.power.drainTimer.isSome = true)
    (hn : s.unmet t = some n) :
    exec .drainTimerExpiry s = .next (State.settle (s.abandonDrain t n)) := by
  change execDrainTimerExpiry s = _
  simp only [execDrainTimerExpiry, ht, hn]
  exact runIf_of (by simp [hp, htimer]) s _

theorem drained_of (hp : s.power.state = .drain) (ht : s.power.target = some t)
    (hn : s.unmet t = none) : s.drained t = true := by
  simp [State.drained, hp, ht, hn]

theorem exec_dozeEntry {time : Nat} (h : s.drained .doze = true) (htime : time ≤ 255) :
    exec (.dozeEntry time) s =
      .next (State.settle
        ({ s with power :=
            { s.power with state := .doze, target := none, drainTimer := none } }.raise 22 .doze
          (.word time))) :=
  runIf_of (by simp [h, htime]) s _

end

end Sys2Proof.Machine
end

section
/-! PROOFS. SLEEP: its entry, its timer, the wake, and the host cycle held through it (08 R160, R162, R163; 01 R24). -/

namespace Sys2Proof.Machine

/-! ## SLEEP_ENTRY (08 R160) -/

/-- What SLEEP_ENTRY does at once: the motors are off, refresh stops, and the part is in SLEEP. -/
def State.sleepBegun (s : State) : State :=
  { s.motorsOff with
    port := { s.port with mode := .entering, refreshDue := false }
    power :=
      { s.power with
        state := .sleep
        target := none
        drainTimer := none
        sleeps := s.power.sleeps + 1 } }

section
variable {s : State}

theorem exec_sleepEntry (h : s.drained .sleep = true) :
    exec .sleepEntry s = .next (State.settle s.sleepBegun.afterGrant) :=
  runIf_of h s _

theorem sleepBegun_motor (m : MotorId) : s.sleepBegun.motor m = (s.motor m).release := by
  cases m <;> rfl

/-! ## The rest of the entry, when the grant in progress has ended (08 R160) -/

theorem afterGrant_of_busy
    (h : s.port.mode ≠ .entering ∨ s.port.busy.isSome = true ∨ s.port.suspended.isSome = true) :
    s.afterGrant = s := by
  refine if_neg ?_
  rintro ⟨hmode, hbusy, hsuspended⟩
  simp [hmode, hbusy, hsuspended] at h

theorem afterGrant_of_entering (hm : s.port.mode = .entering) (hb : s.port.busy = none)
    (hs : s.port.suspended = none) : s.afterGrant = s.sleepOn :=
  if_pos ⟨hm, hb, hs⟩

/-- One bit of a set with the bit of group `k` added when its line is wake-enabled. -/
theorem getLsbD_addGroup (v : BitVec 4) (k : Nat) (n : Fin 4) (b : Bool) :
    (if b then v ||| (1#4 <<< k) else v).getLsbD n.val = true ↔
      v.getLsbD n.val = true ∨ k = n.val ∧ b = true := by
  have hn := n.isLt
  cases b
  · simp
  · simp only [if_true, BitVec.getLsbD_or, BitVec.getLsbD_shiftLeft, BitVec.getLsbD_one, Bool.or_eq_true,
      Bool.and_eq_true, decide_eq_true_iff, Bool.not_eq_true', decide_eq_false_iff_not, and_true]
    exact or_congr_right (by omega)

/-- The groups gathered from a list of lines: those there were, and those of the wake-enabled lines. -/
theorem getLsbD_foldl_groups (l : List (Fin 16)) (v : BitVec 4) (n : Fin 4) :
    (l.foldl (fun v g => if (s.gate g).cfg.wake then v ||| (1#4 <<< (g.val / 4)) else v)
        v).getLsbD n.val = true ↔
      v.getLsbD n.val = true ∨ ∃ g ∈ l, g.val / 4 = n.val ∧ (s.gate g).cfg.wake = true := by
  induction l generalizing v with
  | nil => simp
  | cons g l ih =>
    simp only [List.foldl_cons, ih, getLsbD_addGroup, List.mem_cons, or_and_right, exists_or,
      exists_eq_left, or_assoc]

theorem wakeGroups_getLsbD (n : Fin 4) : s.wakeGroups.getLsbD n.val = true ↔
    ∃ g : Fin 16, g.val / 4 = n.val ∧ (s.gate g).cfg.wake = true := by
  rw [State.wakeGroups, getLsbD_foldl_groups]
  simp [mem_ids16]

/-! ## SLEEP_TIMER_EXPIRY and SELF_REFRESH_EXIT_END (08 R162, R163) -/

theorem exec_sleepTimerExpiry (hp : s.power.state = .sleep)
    (ht : s.power.sleepTimer.isSome = true) :
    exec .sleepTimerExpiry s = .next (State.settle (s.startWake .timer)) :=
  runIf_of (by simp [hp, ht]) s _

/-- The part is back in RUN, DRAM out of self-refresh and the host clock on, before the wake is raised. -/
def State.awake (s : State) : State :=
  { s.leaveSelfRefresh with
    power := { s.leaveSelfRefresh.power with state := .run, hclken := true } }

theorem exec_selfRefreshExitEnd (hp : s.power.state = .wake) (hm : s.port.mode = .leaving) :
    exec .selfRefreshExitEnd s =
      .next (State.settle (s.awake.raise 22 .wake (.word (wakeData s.power.wakeCause)))) :=
  runIf_of (by simp [hp, hm]) s _

theorem awake_only : s.awake =
    { s with
      host := s.awake.host
      port := { s.port with mode := .running, backlog := s.awake.port.backlog }
      power := { s.power with state := .run, hclken := true } } := by
  simp only [State.awake]
  rw [leaveSelfRefresh_only]

theorem hostWaits_iff :
    s.hostWaits = true ↔ ∃ c, s.host.cycle = some c ∧ c.asked = true := by
  simp [State.hostWaits, Option.any_eq_true]

theorem indexWaits_iff :
    s.indexWaits = true ↔ s.recUnit.producerAsk = true ∨ s.recUnit.state = .advancing := by
  simp [State.indexWaits]

/-- Of what waited through self-refresh the host cycle is seen as judged, the index words as they stand. -/
theorem awake_backlog : s.awake.port.backlog = true ↔
    (∃ c, s.awake.host.cycle = some c ∧ c.asked = true) ∨ s.recUnit.producerAsk = true ∨
      s.recUnit.state = .advancing := by
  have hbacklog : s.awake.port.backlog = (s.leaveSelfRefresh.hostWaits || s.indexWaits) :=
    leaveSelfRefresh_backlog s
  rw [hbacklog, Bool.or_eq_true, hostWaits_iff, indexWaits_iff]
  rfl

/-! ## The host cycle that is judged (01 R24; log 28) -/

theorem judgeCycle_of_idle (h : s.host.cycle = none ∨ s.port.mode ≠ .running) :
    s.judgeCycle = s := by
  unfold State.judgeCycle
  split
  · rfl
  · next c hc =>
    have hm : s.port.mode ≠ .running := h.resolve_left (by rw [hc]; exact Option.some_ne_none c)
    exact if_pos (.inr hm)

section
variable {c : HostCycle} (hc : s.host.cycle = some c)
include hc

theorem judgeCycle_of_asked (ha : c.asked = true) : s.judgeCycle = s := by
  simp only [State.judgeCycle, hc]
  exact if_pos (.inl ha)

section
variable (ha : c.asked = false) (hm : s.port.mode = .running)
include ha hm

theorem judgeCycle_of_unmapped (haddr : s.page.geo.dramSize ≤ c.addr) :
    s.judgeCycle = { s with host := { s.host with
      cycle := none
      unmapped := true
      noGrant := s.host.noGrant + 1
      data := if c.write.isNone then 0xFFFF else s.host.data } } := by
  simp only [State.judgeCycle, hc]
  rw [if_neg (by simp [ha, hm]), if_pos haddr]

theorem judgeCycle_of_guarded (haddr : c.addr < s.page.geo.dramSize)
    (hguard : s.page.geo.guard = true) (hbands : s.page.geo.inBands c.addr = true)
    (hwrite : c.write.isSome = true) :
    s.judgeCycle = { s with host := { s.host with
      cycle := none, guardDrop := true, noGrant := s.host.noGrant + 1 } } := by
  simp only [State.judgeCycle, hc]
  rw [if_neg (by simp [ha, hm]), if_neg (Nat.not_le_of_lt haddr), if_pos ⟨hguard, hbands, hwrite⟩]

theorem judgeCycle_of_passed (haddr : c.addr < s.page.geo.dramSize)
    (hfree : s.page.geo.guard = false ∨ s.page.geo.inBands c.addr = false ∨ c.write = none) :
    s.judgeCycle = { s with host := { s.host with cycle := some { c with asked := true } } } := by
  have hallowed : ¬(s.page.geo.guard = true ∧ s.page.geo.inBands c.addr = true ∧
      c.write.isSome = true) := by
    rintro ⟨hguard, hbands, hwrite⟩
    rcases hfree with h | h | h
    · simp [h] at hguard
    · simp [h] at hbands
    · simp [h] at hwrite
  simp only [State.judgeCycle, hc]
  rw [if_neg (by simp [ha, hm]), if_neg (Nat.not_le_of_lt haddr), if_neg hallowed]

end

end

end

/-- Settles O36: the conditions and the first unmet one, the ends of a drain, the two parts of the SLEEP entry, the
wake, and the judging of a held host cycle. -/
theorem drainsEndAndTheSleeperWakes : Obligations.DrainsEndAndTheSleeperWakes := by
  refine ⟨⟨rfl, rfl, fun s => ?conditions⟩,
    fun s => ⟨unmet_doze_eq_none_iff s, ?unmetSleep, fun t n => unmet_eq_some⟩,
    ⟨fun s t n => exec_drainTimerExpiry,
      fun s time hp ht hn => exec_dozeEntry (drained_of hp ht hn),
      fun s hp ht hn => ?sleepEntry,
      fun s => ⟨afterGrant_of_busy, fun hm hb hs => ?afterGrant⟩⟩,
    fun s => exec_sleepTimerExpiry, fun s hp hm => ?wake, ?cycle⟩
  case conditions =>
    exact ⟨entryCondition_channelsIdle s, entryCondition_motorsRest s, entryCondition_linkIdle s,
      entryCondition_noStore s, entryCondition_commandsRead s, entryCondition_nothingReportable s⟩
  case unmetSleep =>
    rw [unmet_sleep_eq_none_iff, entryCondition_noStore, entryCondition_commandsRead,
      entryCondition_nothingReportable]
  case sleepEntry =>
    exact ⟨s.sleepBegun, exec_sleepEntry (drained_of hp ht hn), sleepBegun_motor, rfl, rfl, rfl, rfl⟩
  case afterGrant =>
    rw [afterGrant_of_entering hm hb hs]
    exact ⟨rfl, rfl, wakeGroups_getLsbD, rfl⟩
  case wake =>
    refine ⟨s.awake, ?_, rfl, awake_backlog, awake_only⟩
    rw [exec_selfRefreshExitEnd hp hm]
    rcases s.power.wakeCause with _ | _ | _ <;> rfl
  case cycle =>
    exact fun s => ⟨judgeCycle_of_idle, fun c hc => ⟨judgeCycle_of_asked hc, fun ha hm =>
      ⟨judgeCycle_of_unmapped hc ha hm, fun haddr =>
        ⟨judgeCycle_of_guarded hc ha hm haddr, judgeCycle_of_passed hc ha hm haddr⟩⟩⟩⟩

end Sys2Proof.Machine
end

section
/-! PROOFS. HARD_RESET (09 R166): the state it answers, which nothing that follows of itself changes, and the
invariants of the state at reset. -/

namespace Sys2Proof.Machine

section
variable (cause : ResetCause) (rom : Option (List Word)) (s : State)

/-- The EEPROM behind a reset: a power-on finds the one newly fitted, where there is one (log 6). -/
def State.romAtReset (s : State) (cause : ResetCause) (rom : Option (List Word)) : List Word :=
  if cause = .powerOn then rom.elim s.eeprom fitRom else s.eeprom

theorem execHardReset_eq : execHardReset cause rom s =
    runIf (rom.all fun r => decide (r.length ≤ 1024)) s
      (State.powerOn cause (s.romAtReset cause rom) s.free s.pending) := by
  cases cause <;> cases rom <;> rfl

/-- The start-up unit is at reset behind a reset, so that nothing follows of itself (09 R174). -/
theorem settle_powerOn (eeprom : List Word) (free : Nat) (pending : List Instr) :
    (State.powerOn cause eeprom free pending).settle = State.powerOn cause eeprom free pending :=
  settle_asleep (BootUnit.reset cause) none 0 eeprom free [] pending nofun rfl

theorem exec_hardReset (h : ∀ r, rom = some r → r.length ≤ 1024) :
    exec (.hardReset cause rom) s =
      .next (State.powerOn cause (s.romAtReset cause rom) s.free s.pending) := by
  have hfit : (rom.all fun r => decide (r.length ≤ 1024)) = true :=
    (Option.all_eq_true _ _).mpr fun r hr => decide_eq_true (h r hr)
  change execHardReset cause rom s = _
  rw [execHardReset_eq, runIf_of hfit, settle_powerOn]

end

/-! ## The blocks at their power-on values -/

section
variable (cause : ResetCause) (eeprom : List Word) (free : Nat) (pending : List Instr)

theorem powerOn_slot (i : Fin 16) : (State.powerOn cause eeprom free pending).slot i = Page.reset := by
  simp [State.slot, State.powerOn, PageMem.reset]

theorem powerOn_chan (ch : Channel) : (State.powerOn cause eeprom free pending).chan ch = Chan.reset := by
  cases ch <;> rfl

theorem powerOn_motor (m : MotorId) :
    (State.powerOn cause eeprom free pending).motor m = Motor.reset := by
  cases m <;> rfl

theorem powerOn_ramp (n : Fin 4) : (State.powerOn cause eeprom free pending).ramp n = [5000, 5000] := by
  simp [State.ramp, State.powerOn, MotorUnit.reset, rampDefault]

theorem powerOn_gate (g : Fin 16) :
    (State.powerOn cause eeprom free pending).gate g = Gateway.reset := by
  simp [State.gate, State.powerOn, SensorUnit.reset]

theorem powerOn_source (i : Fin 24) : (State.powerOn cause eeprom free pending).source i =
    { priority := defaultPriority i.val, entry := none } := by
  change SensorUnit.reset.sources[i] = _
  revert i
  decide

theorem powerOn_asleep : AsleepBeforeReady (State.powerOn cause eeprom free pending) :=
  asleep_ok (BootUnit.reset cause) none 0 eeprom free [] pending rfl rfl

end

/-- Settles O16: the answer of HARD_RESET, read off block by block, and the invariants at reset. -/
theorem hardResetPutsPowerOnValues : Obligations.HardResetPutsPowerOnValues := by
  refine ⟨fun cause rom s h => ⟨_, exec_hardReset cause rom s h, ?start, ?page, ?record, ?port,
      powerOn_chan _ _ _ _, ?scan, ?print, ?coder, powerOn_motor _ _ _ _, powerOn_ramp _ _ _ _, ?motors,
      fun g => ?gate, powerOn_source _ _ _ _, ?sensor, ?power, ?host, rfl, rfl⟩,
    ?memory, ?reservation, ?queue, ?indices, ?conserved, powerOn_pagesOk _ _ _ _, powerOn_asleep _ _ _ _⟩
  case page => exact ⟨rfl, rfl, rfl, rfl, rfl, rfl, powerOn_slot _ _ _ _⟩
  case gate => rw [powerOn_gate]; exact ⟨rfl, rfl⟩
  case memory => rfl
  case reservation => exact Nat.zero_le _
  case queue => exact Nat.zero_le _
  case indices => unfold IndicesOk; decide
  case conserved => exact (powerOn_pagesOk _ _ _ _).1
  case scan => simp only [State.powerOn, ScanPath.reset, LineBuf.reset, and_self]
  all_goals (and_intros <;> rfl)

end Sys2Proof.Machine
end

section
/-! PROOFS. The lists of a configuration put in force place by place (09 R170, R172), and the levels of the first
samples (07 R138). -/

namespace Sys2Proof.Machine

/-! ## One place after another -/

section
variable {σ ι α : Type} {get : σ → ι → α} {upd : σ → ι → σ}
  (hne : ∀ (s : σ) (i j : ι), j ≠ i → get (upd s i) j = get s j)
include hne

/-- Updates of other places leave a place as it is. -/
theorem foldl_get_of_not_mem {l : List ι} {j : ι} (hj : j ∉ l) (s : σ) :
    get (l.foldl upd s) j = get s j := by
  induction l generalizing s with
  | nil => rfl
  | cons i rest ih =>
    obtain ⟨hi, hrest⟩ := not_or.mp (mt List.mem_cons.mpr hj)
    rw [List.foldl_cons, ih hrest, hne s i j hi]

/-- Updates of several places change each of them as the update of that place alone does. -/
theorem foldl_get_of_mem {f : ι → α → α} (hself : ∀ (s : σ) (i : ι), get (upd s i) i = f i (get s i))
    {l : List ι} (hl : l.Nodup) {j : ι} (hj : j ∈ l) (s : σ) :
    get (l.foldl upd s) j = f j (get s j) := by
  induction l generalizing s with
  | nil => cases hj
  | cons i rest ih =>
    obtain ⟨hi, hrest⟩ := List.nodup_cons.mp hl
    rw [List.foldl_cons]
    obtain rfl | hj := List.mem_cons.mp hj
    · rw [foldl_get_of_not_mem hne hi, hself]
    · have hji : j ≠ i := fun he => hi (he ▸ hj)
      rw [ih hrest hj, hne s i j hji]

end

section
variable {s : State}

theorem gates_eq_ofFn {f : Fin 16 → Gateway} (h : ∀ g, s.gate g = f g) :
    s.sensor.gates = Vector.ofFn f := by
  ext1 i hi
  rw [Vector.getElem_ofFn]
  exact h ⟨i, hi⟩

theorem sources_eq_ofFn {f : Fin 24 → Source} (h : ∀ i, s.source i = f i) :
    s.sensor.sources = Vector.ofFn f := by
  ext1 i hi
  rw [Vector.getElem_ofFn]
  exact h ⟨i, hi⟩

theorem ramps_eq_ofFn {f : Fin 4 → List Nat} (h : ∀ n, s.ramp n = f n) :
    s.motors.ramps = Vector.ofFn f := by
  ext1 i hi
  rw [Vector.getElem_ofFn]
  exact h ⟨i, hi⟩

theorem mem_ids24 (i : Fin 24) : i ∈ ids24 := List.mem_finRange i

theorem ids24_nodup : ids24.Nodup := List.nodup_finRange 24

end

/-! ## Gateways, ramps, priorities (09 R172) -/

section
variable (s : State)

/-- The gateways under the configurations of a list, in line order. -/
def State.gatesWith (s : State) (cs : List GateCfg) : Vector Gateway 16 :=
  Vector.ofFn fun g => { s.gate g with cfg := cs.getD g.val GateCfg.default }

/-- The sources under the priorities of a list, in source order; priority 0 withdraws what is pending. -/
def State.sourcesWith (s : State) (ps : List Nat) : Vector Source 24 :=
  Vector.ofFn fun i =>
    { priority := ps.getD i.val 0
      entry := if ps.getD i.val 0 = 0 then none else (s.source i).entry }

theorem loadGates_only (cs : List GateCfg) (gs : List (Fin 16)) : s.loadGates cs gs =
    { s with sensor := { s.sensor with gates := (s.loadGates cs gs).sensor.gates } } := by
  induction gs generalizing s with
  | nil => rfl
  | cons g rest ih => exact ih _

theorem loadGates_eq_foldl (cs : List GateCfg) (gs : List (Fin 16)) : s.loadGates cs gs =
    gs.foldl (fun t g => t.setGate g { t.gate g with cfg := cs.getD g.val GateCfg.default }) s := by
  induction gs generalizing s with
  | nil => rfl
  | cons g rest ih => exact ih _

theorem loadGates_all (cs : List GateCfg) : s.loadGates cs ids16 =
    { s with sensor := { s.sensor with gates := s.gatesWith cs } } := by
  rw [loadGates_only, gates_eq_ofFn fun g => ?_]
  · rfl
  · rw [loadGates_eq_foldl]
    exact foldl_get_of_mem (f := fun g x => { x with cfg := cs.getD g.val GateCfg.default })
      (fun t i j h => gate_setGate_of_ne t _ h) (fun t i => gate_setGate_self t i _)
      ids16_nodup (mem_ids16 g) s

theorem loadPriorities_only (ps : List Nat) (is : List (Fin 24)) : s.loadPriorities ps is =
    { s with sensor := { s.sensor with sources := (s.loadPriorities ps is).sensor.sources } } := by
  induction is generalizing s with
  | nil => rfl
  | cons i rest ih => exact ih _

theorem loadPriorities_eq_foldl (ps : List Nat) (is : List (Fin 24)) : s.loadPriorities ps is =
    is.foldl (fun t i => t.setPriority i (ps.getD i.val 0)) s := by
  induction is generalizing s with
  | nil => rfl
  | cons i rest ih => exact ih _

theorem loadPriorities_all (ps : List Nat) : s.loadPriorities ps ids24 =
    { s with sensor := { s.sensor with sources := s.sourcesWith ps } } := by
  rw [loadPriorities_only, sources_eq_ofFn fun i => ?_]
  · rfl
  · rw [loadPriorities_eq_foldl]
    exact foldl_get_of_mem
      (f := fun i x =>
        { priority := ps.getD i.val 0, entry := if ps.getD i.val 0 = 0 then none else x.entry })
      (fun t i j h => source_setSource_of_ne t _ h) (fun t i => source_setSource_self t i _)
      ids24_nodup (mem_ids24 i) s

theorem loadRamps_only (c : Sections) (ns : List (Fin 4)) : s.loadRamps c ns =
    { s with motors := { s.motors with ramps := (s.loadRamps c ns).motors.ramps } } := by
  induction ns generalizing s with
  | nil => rfl
  | cons n rest ih => exact ih _

theorem loadRamps_eq_foldl (c : Sections) (ns : List (Fin 4)) : s.loadRamps c ns =
    ns.foldl (fun t n => t.setRamp n ((c.ramp n).getD rampDefault)) s := by
  induction ns generalizing s with
  | nil => rfl
  | cons n rest ih => exact ih _

theorem loadRamps_all (c : Sections) : s.loadRamps c (List.finRange 4) =
    { s with motors :=
      { s.motors with ramps := Vector.ofFn fun n => (c.ramp n).getD rampDefault } } := by
  rw [loadRamps_only, ramps_eq_ofFn fun n => ?_]
  rw [loadRamps_eq_foldl]
  exact foldl_get_of_mem (f := fun n _ => (c.ramp n).getD rampDefault)
    (fun t i j h => ramp_setRamp_of_ne t _ h) (fun t i => ramp_setRamp_self t i _)
    (List.nodup_finRange 4) (List.mem_finRange n) s

/-! ## The first samples (07 R138) -/

/-- A gateway whose line has been sampled for the first time, at the level `high`. -/
def Gateway.firstAt (x : Gateway) (high : Bool) : Gateway :=
  { x with high, run := 0, armed := x.armed || x.cfg.mode.isLevel }

theorem firstLevels_only (lines : BitVec 16) (gs : List (Fin 16)) : s.firstLevels lines gs =
    { s with sensor := { s.sensor with gates := (s.firstLevels lines gs).sensor.gates } } := by
  induction gs generalizing s with
  | nil => rfl
  | cons g rest ih => exact ih _

theorem firstLevels_eq_foldl (lines : BitVec 16) (gs : List (Fin 16)) : s.firstLevels lines gs =
    gs.foldl (fun t g => t.setGate g ((t.gate g).firstAt (lines.getLsbD g.val))) s := by
  induction gs generalizing s with
  | nil => rfl
  | cons g rest ih => exact ih _

theorem firstLevels_all (lines : BitVec 16) : s.firstLevels lines ids16 =
    { s with sensor :=
      { s.sensor with
        gates := Vector.ofFn fun g => (s.gate g).firstAt (lines.getLsbD g.val) } } := by
  rw [firstLevels_only, gates_eq_ofFn fun g => ?_]
  rw [firstLevels_eq_foldl]
  exact foldl_get_of_mem (f := fun g x => x.firstAt (lines.getLsbD g.val))
    (fun t i j h => gate_setGate_of_ne t _ h) (fun t i => gate_setGate_self t i _)
    ids16_nodup (mem_ids16 g) s

/-- Where no line is active nothing occurs. -/
theorem occurActive_of_quiet {gs : List (Fin 16)}
    (h : ∀ g, (s.gate g).cfg.mode.active (s.gate g).high = false) : s.occurActive gs = s := by
  induction gs with
  | nil => rfl
  | cons g rest ih => rw [State.occurActive, h g]; exact ih

end

end Sys2Proof.Machine
end

section
/-! PROOFS. PROBE and the reading of word 0 (09 R168), and the stages DRAM, TABLES and READY under a configuration
with which no line is active at its first sample (09 R170 to R173, 07 R138). -/

namespace Sys2Proof.Machine

/-! ## The state brought up -/

/-- The start-up unit at READY, the BOOT report to be written (09 R173). -/
def BootUnit.atReport (b : BootUnit) : BootUnit :=
  { b with stage := .ready, ready := .report, pendingConfig := none }

/-- A motor under a configuration (09 R172). -/
def Motor.under (x : Motor) (c : Sections) (m : MotorId) : Motor :=
  x.configure (holdUnder c m) ((c.phase m).getD PhaseCfg.default)

/-- A gateway under a configuration, its line sampled for the first time. -/
def Gateway.under (x : Gateway) (c : Sections) (g : Fin 16) (high : Bool) : Gateway :=
  { cfg := gateUnder c g, high, run := 0, armed := x.armed || (gateUnder c g).mode.isLevel }

/-- A source under a configuration. -/
def Source.under (x : Source) (c : Sections) (i : Fin 24) : Source :=
  { priority := priorityUnder c i, entry := if priorityUnder c i = 0 then none else x.entry }

/-- The state brought up under a configuration, nothing having occurred at the first samples. -/
def State.quietlyUp (s : State) (c : Sections) (lines : BitVec 16) : State :=
  let k := c.constants.getD Constants.default
  let geo := c.geometry.getD Geometry.default
  { s with
    boot := s.boot.atReport
    page := PageMem.reset geo k.lowMark
    port := { s.port with mode := .running }
    recUnit :=
      { s.recUnit with writing := some { who := .boot, bytes := bootBytes s.boot.atReport geo } }
    scan := { s.scan with tLine := k.tLine }
    print := { s.print with dmax := k.dmax, strobe := c.strobe.getD (List.replicate 8 500) }
    power := { s.power with drainLimit := k.drainLimit }
    motors :=
      { s.motors with
        m0 := s.motors.m0.under c .m0
        m1 := s.motors.m1.under c .m1
        m2 := s.motors.m2.under c .m2
        ramps := Vector.ofFn fun n => (c.ramp n).getD rampDefault }
    sensor :=
      { s.sensor with
        gates := Vector.ofFn fun g => (s.gate g).under c g (lines.getLsbD g.val)
        sources := Vector.ofFn fun i => (s.source i).under c i
        sampling := true } }

section
variable (s : State) (c : Sections) (lines : BitVec 16)

theorem tablesStage_eq : s.tablesStage c =
    let k := c.constants.getD Constants.default
    { s with
      scan := { s.scan with tLine := k.tLine }
      print := { s.print with dmax := k.dmax, strobe := c.strobe.getD (List.replicate 8 500) }
      power := { s.power with drainLimit := k.drainLimit }
      motors :=
        { s.motors with
          m0 := s.motors.m0.under c .m0
          m1 := s.motors.m1.under c .m1
          m2 := s.motors.m2.under c .m2
          ramps := Vector.ofFn fun n => (c.ramp n).getD rampDefault }
      sensor :=
        { s.sensor with
          gates := s.gatesWith (c.gateways.getD [])
          sources := s.sourcesWith (c.priorities.getD ((List.range 24).map defaultPriority)) } } := by
  simp only [State.tablesStage, loadRamps_all, loadGates_all, loadPriorities_all]
  rfl

theorem tablesStage_gate (g : Fin 16) :
    (s.tablesStage c).gate g = { s.gate g with cfg := gateUnder c g } := by
  rw [tablesStage_eq]
  simp only [State.gate, State.gatesWith, Fin.getElem_fin, Vector.getElem_ofFn]
  rfl

variable {s lines} in
theorem firstSample_of_quiet (h : ∀ g, (s.gate g).cfg.mode.active (lines.getLsbD g.val) = false) :
    s.firstSample lines =
      { s with sensor :=
        { s.sensor with
          sampling := true
          gates := Vector.ofFn fun g => (s.gate g).firstAt (lines.getLsbD g.val) } } := by
  rw [State.firstSample, firstLevels_all, occurActive_of_quiet]
  · rfl
  · intro g
    simp only [State.gate, Fin.getElem_fin, Vector.getElem_ofFn]
    exact h g

variable {c lines} in
/-- Where no line is active at its first sample, the stages DRAM, TABLES and READY make the state so. -/
theorem bringUp_of_quiet (h : ∀ i, activeUnder c lines i = false) :
    s.bringUp c lines = s.quietlyUp c lines := by
  have hgate (g : Fin 16) : ((s.dramStage c).tablesStage c).gate g =
      { s.gate g with cfg := gateUnder c g } := tablesStage_gate _ c g
  rw [State.bringUp, firstSample_of_quiet fun g => by rw [hgate]; exact h g]
  simp only [hgate]
  rw [tablesStage_eq]
  rfl

end

/-! ## What is in force then -/

section
variable {s : State} {c : Sections} {lines : BitVec 16}

theorem quietlyUp_gate (g : Fin 16) :
    (s.quietlyUp c lines).gate g = (s.gate g).under c g (lines.getLsbD g.val) := by
  simp [State.gate, State.quietlyUp]

theorem quietlyUp_source (i : Fin 24) : (s.quietlyUp c lines).source i = (s.source i).under c i := by
  simp [State.source, State.quietlyUp]

theorem quietlyUp_ramp (n : Fin 4) :
    (s.quietlyUp c lines).ramp n = (c.ramp n).getD rampDefault := by
  simp [State.ramp, State.quietlyUp]

theorem quietlyUp_motor (m : MotorId) : (s.quietlyUp c lines).motor m = (s.motor m).under c m := by
  cases m <;> rfl

theorem quietlyUp_raises : (s.quietlyUp c lines).sensor.raises = s.sensor.raises := rfl

theorem quietlyUp_slot (i : Fin 16) : (s.quietlyUp c lines).slot i = Page.reset := by
  simp [State.slot, State.quietlyUp, PageMem.reset]

theorem under_entry {x : Source} {i : Fin 24} (h : priorityUnder c i ≠ 0) :
    (x.under c i).entry = x.entry := if_neg h

/-- Where no line is active at its first sample, the state is brought up whatever the start-up unit has been set to. -/
theorem quietlyUp_broughtUp (b : BootUnit) (h : ∀ i, activeUnder c lines i = false) :
    BroughtUp c lines b s ({ s with boot := b }.quietlyUp c lines) := by
  refine ⟨rfl, ?page, rfl, rfl, rfl, quietlyUp_ramp, fun m => ?motor, quietlyUp_gate,
    fun i => ?priority, ⟨rfl, rfl, rfl⟩, fun i hi => ?active, fun i _ hp => ?quiet,
    fun _ => ⟨fun m => ?others, fun m => ⟨?halted, fun _ => ?spared⟩, rfl, rfl, ?raises,
      fun i _ hp => ?kept⟩, fun _ => rfl, rfl, fun _ => ⟨rfl, rfl, rfl⟩, rfl⟩
  case page => exact ⟨rfl, rfl, rfl, rfl, quietlyUp_slot, rfl, rfl, rfl, rfl, rfl, rfl⟩
  case motor => rw [quietlyUp_motor]; exact ⟨rfl, rfl, rfl, rfl⟩
  case priority => rw [quietlyUp_source]; rfl
  case active => simp [h i] at hi
  case quiet => rw [quietlyUp_source]; exact under_entry hp
  case others => cases m <;> rfl
  case halted =>
    rintro ⟨i, hi, -⟩
    simp [h i] at hi
  case spared => cases m <;> rfl
  case raises =>
    have hnone : ids16.filter (activeUnder c lines) = [] :=
      List.filter_eq_nil_iff.mpr fun i _ => by rw [h i]; exact Bool.false_ne_true
    rw [hnone, quietlyUp_raises, List.length_nil, BitVec.add_zero]
  case kept => rw [quietlyUp_source]; exact under_entry hp

end

/-! ## PROBE and the reading of word 0 (09 R168) -/

/-- The default gateways are of an edge mode: no line is active under them (09 R170, 07 R136). -/
theorem activeUnder_empty (lines : BitVec 16) (i : Fin 16) :
    activeUnder Sections.empty lines i = false := rfl

theorem empty_ramp : ∀ n, Sections.empty.ramp n = none := by decide

section
variable {s : State} {lines : BitVec 16}

theorem broughtUp_empty (b : BootUnit) :
    BroughtUp Sections.empty lines b s ({ s with boot := b }.bringUp Sections.empty lines) := by
  rw [bringUp_of_quiet _ (activeUnder_empty lines)]
  exact quietlyUp_broughtUp b (activeUnder_empty lines)

theorem exec_probe_skip (h : s.boot.stage = .reset) : exec (.probe false lines) s =
    .next (State.settle
      ({ s with boot := s.boot.flagStatus .skipped }.bringUp Sections.empty lines)) :=
  runIf_of (by rw [h]; rfl) s _

theorem exec_probe_read (h : s.boot.stage = .reset) : exec (.probe true lines) s =
    .next (State.settle { s with boot := { s.boot with stage := .probe } }) :=
  runIf_of (by rw [h]; rfl) s _

theorem romWord_eq_blank : romWord s.eeprom 0 = 0xFFFF ↔ s.eeprom.getD 0 0xFFFF = 0xFFFF :=
  BitVec.toNat_inj (x := s.eeprom.getD 0 0xFFFF) (y := 0xFFFF)

theorem exec_probeWordReadEnd_blank (h : s.boot.stage = .probe) (hw : s.eeprom.getD 0 0xFFFF = 0xFFFF) :
    exec (.probeWordReadEnd lines) s = .next (State.settle
      ({ s with boot := (s.boot.countRead 1).flagStatus .blank }.bringUp Sections.empty lines)) := by
  change execProbeWordReadEnd lines s = _
  simp only [execProbeWordReadEnd, if_pos (romWord_eq_blank.mpr hw)]
  exact runIf_of (by rw [h]; rfl) s _

theorem exec_probeWordReadEnd_image (h : s.boot.stage = .probe) (hw : s.eeprom.getD 0 0xFFFF ≠ 0xFFFF) :
    exec (.probeWordReadEnd lines) s = .next (State.settle
      { s with boot := { s.boot with stage := .load, read := s.boot.read + 1 } }) := by
  change execProbeWordReadEnd lines s = _
  simp only [execProbeWordReadEnd, if_neg (mt romWord_eq_blank.mp hw)]
  exact runIf_of (by rw [h]; rfl) s _

theorem flagStatus_skipped (b : BootUnit) :
    b.flagStatus .skipped = { b with rom := .skipped, romSkipped := true } := by
  simp [BootUnit.flagStatus]

theorem flagStatus_blank (b : BootUnit) :
    b.flagStatus .blank = { b with rom := .blank, romBlank := true } := by
  simp [BootUnit.flagStatus]

end

/-- Settles O17: the two ways to the defaults and the two ways on, and what the defaults put in force. -/
theorem probeChoosesTheConfiguration : Obligations.ProbeChoosesTheConfiguration := by
  refine ⟨fun lines s hs => ⟨⟨_, exec_probe_skip hs, ?skip⟩, exec_probe_read hs⟩,
    fun lines s hs => ⟨fun hw => ⟨_, exec_probeWordReadEnd_blank hs hw, ?blank⟩,
      exec_probeWordReadEnd_image hs⟩, fun lines b s e h => ?force⟩
  case skip =>
    rw [flagStatus_skipped]
    exact broughtUp_empty _
  case blank =>
    rw [flagStatus_blank]
    exact broughtUp_empty _
  case force =>
    obtain ⟨-, ⟨hgeo, hmark, hfree, -⟩, -, hscan, hprint, hramp, hmotor, hgate, hpriority, -, -, -, -, -,
      hdrain, -, hrest⟩ := h
    refine ⟨hgeo, hmark, hfree, by rw [hscan]; rfl, by rw [hprint]; rfl, by rw [hprint]; rfl, hdrain,
      fun n => by rw [hramp, empty_ramp]; rfl, fun m => ?_, fun g => by rw [hgate]; rfl,
      fun g => by rw [hgate], fun i => ?_, activeUnder_empty lines, by rw [hrest]⟩
    · obtain ⟨hhold, hauto, hphases, hlength⟩ := hmotor m
      exact ⟨hhold.trans (by cases m <;> rfl), hauto.trans (by cases m <;> rfl),
        hphases.trans (by cases m <;> rfl), hlength.trans (by cases m <;> rfl)⟩
    · rw [hpriority]
      simp [priorityUnder, Sections.empty, defaultPriority]

end Sys2Proof.Machine
end

section
/-! PROOFS. What follows of itself at the end of a step never moves the stop point of Print's motor (02 R53, 06 R128):
no fault ends its link there, and leaving rest keeps it. -/

namespace Sys2Proof.Machine

section
variable (s : State)

/-! ## The abort steps of a channel with another motor, or none -/

theorem dropPage_motors (ch : Channel) : (s.dropPage ch).motors = s.motors := by
  unfold State.dropPage
  split
  · rfl
  · split <;> simp

theorem dropLink_m1 {ch : Channel} (h : ch ≠ .print) : (s.dropLink ch).motors.m1 = s.motors.m1 := by
  cases ch
  · simp [State.dropLink, motorFor]
  · exact absurd rfl h
  · rfl
  · rfl

theorem clearPath_motors (ch : Channel) : (s.clearPath ch).motors = s.motors := by
  cases ch
  · exact cutLineWork_motors s _
  · exact cutLineWork_motors s _
  · simp only [State.clearPath, State.clearCodeOut]
    split <;> exact cutLineWork_motors s _
  · simp only [State.clearPath, State.clearCodeIn]
    split
    · rfl
    · rfl
    · rfl
    · exact cutLineWork_motors s _
    · rfl

theorem postFinal_motors (ch : Channel) (n : Notice) : (s.postFinal ch n).motors = s.motors := by
  unfold State.postFinal
  split
  · rfl
  · exact notify_motors _ _ _

theorem faultEntry_m1 {ch : Channel} (h : ch ≠ .print) (code : FaultCode) :
    (s.faultEntry ch code).motors.m1 = s.motors.m1 := by
  simp only [State.faultEntry, State.faultChan, postFinal_motors, setChan_motors, State.abortSteps,
    clearPath_motors, dropLink_m1 _ h, dropPage_motors]

/-! ## The line requests -/

theorem edgeAtStart_motors (ch : Channel) (o : Option EdgeOption) :
    (s.edgeAtStart ch o).motors = s.motors := by
  unfold State.edgeAtStart
  split
  · split <;> rfl
  · rfl

theorem takeCount_motors (ch : Channel) (n : Nat) (o : Option EdgeOption) (b : Nat) :
    (s.takeCount ch n o b).motors = s.motors := by
  simp only [State.takeCount, edgeAtStart_motors]
  split <;> rfl

theorem beginLines_m1 {ch : Channel} (h : ch ≠ .print) (n : Nat) (o : Option EdgeOption) (b : Nat) :
    (s.beginLines ch n o b).motors.m1 = s.motors.m1 := by
  unfold State.beginLines
  split
  · exact faultEntry_m1 s h _
  split
  · exact faultEntry_m1 s h _
  split
  · exact faultEntry_m1 s h _
  · rw [takeCount_motors]

theorem endEntry_m1 {ch : Channel} (h : ch ≠ .print) : (s.endEntry ch).motors.m1 = s.motors.m1 := by
  unfold State.endEntry
  dsimp only
  split
  · split
    · split
      · exact beginLines_m1 _ h _ _ _
      · rfl
    · rfl
  · rfl

theorem endOver_m1 {ch : Channel} (h : ch ≠ .print) : (s.endOver ch).motors.m1 = s.motors.m1 := by
  have hdone (t : State) : (t.endIfDone ch).motors.m1 = t.motors.m1 := by
    unfold State.endIfDone
    dsimp only
    split
    · exact endEntry_m1 _ h
    · rfl
  rw [State.endOver, hdone, hdone]

theorem waitMotor_motors (ch : Channel) (m : MotorId) : (s.waitMotor ch m).motors = s.motors := by
  unfold State.waitMotor
  dsimp only
  split <;> rfl

theorem askRead_motors (ch : Channel) (n : Option Nat) : (s.askRead ch n).motors = s.motors := by
  unfold State.askRead
  dsimp only
  split
  · rfl
  · split
    · rfl
    · rfl
    · exact notifyEnding_motors _ _ _

theorem askPrint_motors : s.askPrint.motors = s.motors := by
  unfold State.askPrint
  dsimp only
  split
  · exact askRead_motors s _ _
  · rfl

theorem askCodeOut_motors : s.askCodeOut.motors = s.motors := by
  unfold State.askCodeOut
  split
  · exact askRead_motors s _ _
  · rfl

theorem assignLine_motors (i : Fin 16) (scan : Bool) : (s.assignLine i scan).1.motors = s.motors := by
  by_cases hl : (s.slot i).assigned = (s.slot i).limit
  · rw [assignLine_at_limit s hl]
  by_cases hm : (s.slot i).assigned % 64 = 0
  · by_cases hb : (if scan then s.freeCount else s.unreserved) = 0
    · rw [assignLine_without_band s hl hm hb]
    · rw [assignLine_at_band s hl hm hb]
      exact takeBand_motors _ _ _
  · rw [assignLine_in_band s hl hm]
    rfl

theorem endAtLimit_motors (ch : Channel) : (s.endAtLimit ch).motors = s.motors := by
  unfold State.endAtLimit
  split
  · exact notifyEnding_motors _ _ _
  · rfl

theorem askCodeIn_motors : s.askCodeIn.motors = s.motors := by
  unfold State.askCodeIn
  dsimp only
  split
  · split
    · rfl
    · next p _ =>
      have hassign := assignLine_motors s p.slot false
      split
      · exact endAtLimit_motors s _
      · rfl
      · next heq =>
        rw [heq] at hassign
        exact hassign
  · rfl

theorem setReady_motors : s.setReady.motors = s.motors := by
  unfold State.setReady
  dsimp only
  split
  · rfl
  · split <;> rfl

theorem settleLines_m1 : s.settleLines.motors.m1 = s.motors.m1 := by
  simp only [State.settleLines, setReady_motors, askCodeIn_motors, askCodeOut_motors, askPrint_motors,
    waitMotor_motors, endOver_m1 _ (show Channel.codeIn ≠ .print by decide),
    endOver_m1 _ (show Channel.scan ≠ .print by decide)]

/-! ## Decisions from rest -/

theorem leaveRest_printBudget (m : MotorId) :
    (s.leaveRest m).motors.m1.budget = s.motors.m1.budget := by cases m <;> rfl

theorem afterDecision_motors (m : MotorId) (j : Option Nat) :
    (s.afterDecision m j).motors = s.motors := by
  cases m
  · exact reserveFor_motors s j
  · rfl
  · rfl

theorem restDecision_printBudget (m : MotorId) :
    (s.restDecision m).motors.m1.budget = s.motors.m1.budget := by
  unfold State.restDecision
  dsimp only
  split
  · rfl
  · rw [afterDecision_motors]
    split
    · exact leaveRest_printBudget s m
    · rfl

theorem settleMotors_printBudget : s.settleMotors.motors.m1.budget = s.motors.m1.budget := by
  simp only [State.settleMotors, restDecision_printBudget]

/-! ## Reports and the DRAM port -/

theorem grantEvent_motors : s.grantEvent.motors = s.motors := by
  have hdisarm (t : State) (i : Fin 24) (k : EventKind) : (t.disarm i k).motors = t.motors := by
    unfold State.disarm
    split
    · split <;> rfl
    · rfl
  unfold State.grantEvent
  split
  · rfl
  · split
    · rfl
    · exact hdisarm _ _ _

theorem grantSlot_motors : s.grantSlot.motors = s.motors := by
  unfold State.grantSlot
  split
  · rfl
  split
  · rfl
  split
  · split <;> rfl
  · split
    · exact grantEvent_motors s
    · rfl

theorem fetchNext_motors : s.fetchNext.motors = s.motors := by
  unfold State.fetchNext
  split <;> rfl

theorem waitReport_motors (ch : Channel) : (s.waitReport ch).motors = s.motors := by
  unfold State.waitReport
  dsimp only
  split <;> rfl

theorem waitDevice_motors : s.waitDevice.motors = s.motors := by
  unfold State.waitDevice
  dsimp only
  split
  · rfl
  · split <;> rfl

theorem settleReports_motors : s.settleReports.motors = s.motors := by
  simp only [State.settleReports, waitDevice_motors, waitReport_motors, grantSlot_motors,
    fetchNext_motors]

theorem judgeCycle_motors : s.judgeCycle.motors = s.motors := by
  unfold State.judgeCycle
  split
  · rfl
  split
  · rfl
  split
  · rfl
  · split <;> rfl

theorem grant_motors (j : Job) : (s.grant j).motors = s.motors := by
  unfold State.grant
  dsimp only
  split
  · exact setBuf_motors _ _ _
  · rfl
  · rfl

theorem grantUrgent_motors : s.grantUrgent.motors = s.motors := by
  unfold State.grantUrgent
  split <;> rfl

theorem grantRotation_motors (qs : List Requester) : (s.grantRotation qs).motors = s.motors := by
  induction qs with
  | nil => rfl
  | cons q rest ih =>
    unfold State.grantRotation
    split
    · exact grant_motors s _
    · exact ih

theorem grantFree_motors : s.grantFree.motors = s.motors := by
  unfold State.grantFree
  split
  · exact grantUrgent_motors s
  split
  · exact grant_motors s _
  split
  · exact grantUrgent_motors s
  · exact grantRotation_motors s _

theorem arbitrate_motors : s.arbitrate.motors = s.motors := by
  unfold State.arbitrate
  dsimp only
  split
  · split
    · exact (grantUrgent_motors _).trans (passWords_motors s _ _)
    · rfl
  · split
    · exact (grantUrgent_motors _).trans (passWords_motors s _ _)
    · rfl
  · exact grantFree_motors s
  · rfl
  · rfl

/-- The stop point of Print's motor is the same behind what follows of itself. -/
theorem settle_printBudget : s.settle.motors.m1.budget = s.motors.m1.budget := by
  rw [State.settle, arbitrate_motors, judgeCycle_motors, settleReports_motors, settleMotors_printBudget,
    settleLines_m1]

end

end Sys2Proof.Machine
end

section
/-! PROOFS. IMAGE_READ_END with a channel at work (09 R169, R172; 07 R142): the state that `BroughtUp` does not
describe. -/

namespace Sys2Proof.Machine

/-- A GATEWAYS image: line 0 is LEVEL_HIGH and asks Print to pause, the other lines are of an edge mode. -/
def pausingImage : List Word :=
  [0xE416, 37, 7, 0x0620, 0x13, 2] ++ (List.replicate 15 [0x12, 0]).flatten ++ [0x147B]

/-- The part at LOAD under that image, with Print RUNNING and its motor linked and at rest. -/
def loadWithPrint : State :=
  { State.reset with
    boot := { State.reset.boot with stage := .load }
    chans := { State.reset.chans with print := { Chan.reset with state := .running } }
    motors :=
      { State.reset.motors with
        m1 := { Motor.reset with link := some { spl := 1, ramp := 0, top := 1, kLine := 1 } } }
    eeprom := pausingImage }

/-- The start-up unit as the reading of an image leaves it (09 R169). -/
def BootUnit.withReading (b : BootUnit) (r : Reading) : BootUnit :=
  { (b.countRead (r.words - 1)).flagStatus r.status with version := r.version }

/-- The part brought up under what is read from its EEPROM, the lines standing at `lines`. -/
def State.imageUp (s : State) (lines : BitVec 16) : State :=
  let r := readImage s.eeprom startBands
  { s with boot := s.boot.withReading r }.bringUp r.sections lines

theorem exec_imageReadEnd {s : State} {lines : BitVec 16} (h : s.boot.stage = .load) :
    exec (.imageReadEnd lines) s = .next (State.settle (s.imageUp lines)) :=
  runIf_of (by rw [h]; rfl) s _

/-- Line 0 is HIGH at its first sample, and Print is asked to pause: its motor, at rest, gets the stop point 0. -/
theorem loadWithPrint_imageUp_budget :
    (loadWithPrint.imageUp 1).motors.m1.budget = some 0 := by decide +kernel

theorem loadWithPrint_motors_rest (m : MotorId) : (loadWithPrint.motor m).moving = false := by
  cases m <;> rfl

/-- What `BroughtUp` says of motors at rest leaves them their stop points. -/
theorem BroughtUp.budget {c : Sections} {lines : BitVec 16} {b : BootUnit} {s e : State}
    (h : BroughtUp c lines b s e) (hr : ∀ m, (s.motor m).moving = false) (m : MotorId) :
    (e.motor m).budget = (s.motor m).budget := by
  obtain ⟨-, -, -, -, -, -, -, -, -, -, -, -, hrest, -⟩ := h
  obtain ⟨hmotor, -⟩ := hrest hr
  have hbudget := congrArg Motor.budget (hmotor m)
  exact hbudget

/-- Refutes O18: IMAGE_READ_END puts a valid image in force whose gateway of line 0 is active at its first sample and
asks Print to pause; Print being RUNNING, its motor's stop point becomes 0, where `BroughtUp` leaves the motors at rest
theirs. In the states that `AsleepBeforeReady` allows before READY no channel is RUNNING; the statement takes every
state at LOAD. -/
theorem not_imageLoadAndHostRelease : ¬Obligations.ImageLoadAndHostRelease := by
  intro h
  obtain ⟨-, -, -, -, -, hload, -⟩ := h
  obtain ⟨e, hexec, hup⟩ := hload 1 loadWithPrint rfl
  have hsettle : (loadWithPrint.imageUp 1).settle = e.settle :=
    Host.Outcome.next.inj ((exec_imageReadEnd rfl).symm.trans hexec)
  have hshrunk : e.motors.m1.budget = some 0 := by
    rw [← settle_printBudget, ← hsettle, settle_printBudget, loadWithPrint_imageUp_budget]
  have hkept : e.motors.m1.budget = none := hup.budget loadWithPrint_motors_rest .m1
  rw [hkept] at hshrunk
  cases hshrunk

end Sys2Proof.Machine
end

section
/-! PROOFS. The ramps and phase tables of a reload (09 R176; 06 R116, R117, R122): what they make of links, of phase
pointers and of the tables themselves. -/

namespace Sys2Proof.Machine

/-! ## The links that name a replaced ramp (06 R116, R122) -/

/-- A link behind the replacement of ramp `n`, if the configuration carries it. -/
def Link.under (c : Sections) (tLine : Option Nat) (l : Link) (n : Fin 4) : Link :=
  (c.ramp n).elim l fun t => relink n t tLine l

section
variable {c : Sections} {tLine : Option Nat} {l : Link}

theorem under_ramp (n : Fin 4) : (l.under c tLine n).ramp = l.ramp := by
  unfold Link.under
  cases c.ramp n
  · rfl
  · exact relink_ramp tLine l

theorem under_of_ne {n : Fin 4} (h : l.ramp ≠ n) : l.under c tLine n = l := by
  unfold Link.under
  cases c.ramp n
  · rfl
  · exact relink_of_ne tLine h

theorem foldl_under_of_not_mem {ns : List (Fin 4)} (h : l.ramp ∉ ns) :
    ns.foldl (Link.under c tLine) l = l := by
  induction ns with
  | nil => rfl
  | cons n rest ih =>
    obtain ⟨hn, hrest⟩ := not_or.mp (mt List.mem_cons.mpr h)
    rw [List.foldl_cons, under_of_ne hn, ih hrest]

/-- Of several ramps replaced, a link takes up the one it names. -/
theorem foldl_under_of_mem {ns : List (Fin 4)} (hns : ns.Nodup) (h : l.ramp ∈ ns) :
    ns.foldl (Link.under c tLine) l = l.under c tLine l.ramp := by
  induction ns with
  | nil => cases h
  | cons n rest ih =>
    obtain ⟨hn, hrest⟩ := List.nodup_cons.mp hns
    rw [List.foldl_cons]
    by_cases he : l.ramp = n
    · subst he
      refine foldl_under_of_not_mem ?_
      rwa [under_ramp]
    · rw [under_of_ne he]
      exact ih hrest ((List.mem_cons.mp h).resolve_left he)

/-- A link behind the ramps of a configuration. -/
theorem foldl_under_all : (List.finRange 4).foldl (Link.under c tLine) l = l.under c tLine l.ramp :=
  foldl_under_of_mem (List.nodup_finRange 4) (List.mem_finRange _)

end

/-! ## The ramps, one after another -/

section
variable (s : State) (c : Sections)

/-- The replacement of one ramp, if the configuration carries it. -/
def State.reloadRamp (s : State) (c : Sections) (n : Fin 4) : State :=
  (c.ramp n).elim s fun t => s.replaceRamp n t

theorem reloadRamps_eq_foldl (ns : List (Fin 4)) :
    s.reloadRamps c ns = ns.foldl (fun t n => t.reloadRamp c n) s := by
  induction ns generalizing s with
  | nil => rfl
  | cons n rest ih =>
    rw [List.foldl_cons, ← ih, State.reloadRamps, State.reloadRamp]
    cases c.ramp n <;> rfl

theorem reloadRamp_only (n : Fin 4) : s.reloadRamp c n =
    { s with
      print := { s.print with queue := (s.reloadRamp c n).print.queue }
      motors :=
        { s.motors with
          m0 := { s.motors.m0 with
            link := s.motors.m0.link.map fun l => l.under c (some s.scan.tLine) n }
          m1 := { s.motors.m1 with link := s.motors.m1.link.map fun l => l.under c none n }
          ramps := (s.reloadRamp c n).motors.ramps } } := by
  unfold State.reloadRamp Link.under
  cases c.ramp n with
  | none => simp
  | some t =>
    simp only [Option.elim_some, replaceRamp_eq, recap_eq]
    rfl

theorem reloadRamps_only (ns : List (Fin 4)) : s.reloadRamps c ns =
    { s with
      print := { s.print with queue := (s.reloadRamps c ns).print.queue }
      motors :=
        { s.motors with
          m0 := { s.motors.m0 with
            link := s.motors.m0.link.map (ns.foldl (Link.under c (some s.scan.tLine))) }
          m1 := { s.motors.m1 with link := s.motors.m1.link.map (ns.foldl (Link.under c none)) }
          ramps := (s.reloadRamps c ns).motors.ramps } } := by
  rw [reloadRamps_eq_foldl]
  induction ns generalizing s with
  | nil =>
    simp
  | cons n rest ih =>
    rw [List.foldl_cons, ih]
    rw [reloadRamp_only s c n]
    simp only [Option.map_map]
    rfl

theorem reloadRamp_ramp_self (n : Fin 4) :
    (s.reloadRamp c n).ramp n = (c.ramp n).getD (s.ramp n) := by
  unfold State.reloadRamp
  cases c.ramp n with
  | none => rfl
  | some t =>
    simp only [Option.elim_some, replaceRamp_eq, recap_eq]
    exact ramp_setRamp_self s n t

theorem reloadRamp_ramp_of_ne {n j : Fin 4} (h : j ≠ n) : (s.reloadRamp c n).ramp j = s.ramp j := by
  unfold State.reloadRamp
  cases c.ramp n with
  | none => rfl
  | some t =>
    simp only [Option.elim_some, replaceRamp_eq, recap_eq]
    exact ramp_setRamp_of_ne s t h

theorem reloadRamps_ramp (n : Fin 4) :
    (s.reloadRamps c (List.finRange 4)).ramp n = (c.ramp n).getD (s.ramp n) := by
  rw [reloadRamps_eq_foldl]
  exact foldl_get_of_mem (f := fun n t => (c.ramp n).getD t)
    (fun t n j h => reloadRamp_ramp_of_ne t c h) (fun t n => reloadRamp_ramp_self t c n)
    (List.nodup_finRange 4) (List.mem_finRange n) s

theorem reloadRamp_queue_nil (n : Fin 4) (h : s.print.queue = []) :
    (s.reloadRamp c n).print.queue = [] := by
  unfold State.reloadRamp
  cases c.ramp n with
  | none => exact h
  | some t =>
    simp only [Option.elim_some, replaceRamp_eq, recap_eq]
    exact List.map_eq_nil_iff.mpr h

theorem reloadRamps_queue_nil (ns : List (Fin 4)) (h : s.print.queue = []) :
    (s.reloadRamps c ns).print.queue = [] := by
  rw [reloadRamps_eq_foldl]
  induction ns generalizing s with
  | nil => exact h
  | cons n rest ih => exact ih _ (reloadRamp_queue_nil s c n h)

/-! ## The phase tables -/

/-- A motor behind the phase tables of a configuration. -/
def Motor.phased (x : Motor) (c : Sections) (m : MotorId) : Motor :=
  (c.phase m).elim x fun p => x.setPhases p.patterns p.length

theorem reloadPhases_eq_foldl (ms : List MotorId) : s.reloadPhases c ms =
    ms.foldl (fun t m => t.setMotor m ((t.motor m).phased c m)) s := by
  induction ms generalizing s with
  | nil => rfl
  | cons m rest ih =>
    rw [List.foldl_cons, ← ih, State.reloadPhases, Motor.phased]
    cases c.phase m with
    | none => exact congrArg (fun t : State => t.reloadPhases c rest) (setMotor_motor s m).symm
    | some p => rfl

theorem reloadPhases_all : s.reloadPhases c allMotors =
    { s with motors :=
      { s.motors with
        m0 := s.motors.m0.phased c .m0
        m1 := s.motors.m1.phased c .m1
        m2 := s.motors.m2.phased c .m2 } } :=
  reloadPhases_eq_foldl s c allMotors

end

end Sys2Proof.Machine
end

section
/-! PROOFS. CONFIG RELOAD (09 R175, R176): its checks, what a valid image puts in force before its gateways, and what
its gateways leave as it is. -/

namespace Sys2Proof.Machine

/-! ## In force before the gateways, part by part (09 R176) -/

/-- The state under the priorities of a configuration that carries them. -/
def State.withPriorities (s : State) (c : Sections) : State :=
  match c.priorities with
  | some ps => s.loadPriorities ps ids24
  | none => s

/-- The state under the ramps and phase tables of a configuration. -/
def State.withTables (s : State) (c : Sections) : State :=
  (s.reloadRamps c (List.finRange 4)).reloadPhases c allMotors

/-- The state under the strobe table of a configuration that carries one. -/
def State.withStrobe (s : State) (c : Sections) : State :=
  match c.strobe with
  | some t => { s with print := { s.print with strobe := t } }
  | none => s

/-- The state under the constants of a configuration that carries them. -/
def State.withConstants (s : State) (c : Sections) : State :=
  match c.constants with
  | some k => s.reloadConstants k
  | none => s

/-- The state under all that a configuration carries, but for the geometry and the gateways. -/
def State.reloaded (s : State) (c : Sections) : State :=
  (((s.withPriorities c).withTables c).withStrobe c).withConstants c

/-- Hold time and auto-release of a motor under the constants of a configuration that carries them. -/
def Motor.heldUnder (x : Motor) (c : Sections) (m : MotorId) : Motor :=
  c.constants.elim x fun k =>
    x.setHold (match m with | .m0 => k.hold0 | .m1 => k.hold1 | .m2 => k.hold2)

/-- A motor's link behind the ramps of a configuration. -/
def Motor.linkUnder (x : Motor) (c : Sections) (tLine : Nat) (m : MotorId) : Option Link :=
  match m with
  | .m0 => x.link.map fun l => l.under c (some tLine) l.ramp
  | .m1 => x.link.map fun l => l.under c none l.ramp
  | .m2 => x.link

/-- A motor behind a reload. -/
def Motor.reloaded (x : Motor) (c : Sections) (tLine : Nat) (m : MotorId) : Motor :=
  Motor.heldUnder (Motor.phased { x with link := x.linkUnder c tLine m } c m) c m

section
variable (s : State) (c : Sections)

theorem putInForce_eq : s.putInForce c =
    c.gateways.elim (s.reloaded c) fun gs => (s.reloaded c).reloadGates gs ids16 := by
  have hmatch : s.putInForce c =
      match c.gateways with
      | some gs => (s.reloaded c).reloadGates gs ids16
      | none => s.reloaded c := rfl
  rw [hmatch]
  cases c.gateways <;> rfl

theorem withPriorities_only : s.withPriorities c =
    { s with sensor := { s.sensor with sources := (s.withPriorities c).sensor.sources } } := by
  unfold State.withPriorities
  cases c.priorities with
  | none => rfl
  | some ps => exact loadPriorities_only s ps ids24

theorem withPriorities_source {ps : List Nat} (h : c.priorities = some ps) (i : Fin 24) :
    (s.withPriorities c).source i =
      { priority := ps.getD i.val 0
        entry := if ps.getD i.val 0 = 0 then none else (s.source i).entry } := by
  have hall : s.withPriorities c = s.loadPriorities ps ids24 := by rw [State.withPriorities, h]
  rw [hall, loadPriorities_all]
  simp [State.source, State.sourcesWith]

theorem withTables_only : s.withTables c =
    { s with
      print := { s.print with queue := (s.withTables c).print.queue }
      motors :=
        { s.motors with
          m0 := Motor.phased { s.motors.m0 with link := s.motors.m0.linkUnder c s.scan.tLine .m0 } c .m0
          m1 := Motor.phased { s.motors.m1 with link := s.motors.m1.linkUnder c s.scan.tLine .m1 } c .m1
          m2 := s.motors.m2.phased c .m2
          ramps := (s.withTables c).motors.ramps } } := by
  have hlink (tLine : Option Nat) : (List.finRange 4).foldl (Link.under c tLine) =
      fun l => l.under c tLine l.ramp := funext fun _ => foldl_under_all
  rw [State.withTables, reloadPhases_all, reloadRamps_only, hlink, hlink]
  rfl

theorem withStrobe_eq : s.withStrobe c =
    { s with print := { s.print with strobe := c.strobe.getD s.print.strobe } } := by
  unfold State.withStrobe
  cases c.strobe <;> rfl

theorem withConstants_only : s.withConstants c =
    { s with
      scan := { s.scan with tLine := c.constants.elim s.scan.tLine fun k => k.tLine }
      print := { s.print with dmax := c.constants.elim s.print.dmax fun k => k.dmax }
      power :=
        { s.power with drainLimit := c.constants.elim s.power.drainLimit fun k => k.drainLimit }
      page := (s.withConstants c).page
      sensor := (s.withConstants c).sensor
      motors :=
        { s.motors with
          m0 := s.motors.m0.heldUnder c .m0
          m1 := s.motors.m1.heldUnder c .m1
          m2 := s.motors.m2.heldUnder c .m2 } } := by
  unfold State.withConstants Motor.heldUnder
  cases c.constants with
  | none => rfl
  | some k => exact poolTest_only _

theorem reloaded_only : s.reloaded c =
    { s with
      scan := { s.scan with tLine := c.constants.elim s.scan.tLine fun k => k.tLine }
      print :=
        { s.print with
          strobe := c.strobe.getD s.print.strobe
          dmax := c.constants.elim s.print.dmax fun k => k.dmax
          queue := (s.reloaded c).print.queue }
      power :=
        { s.power with drainLimit := c.constants.elim s.power.drainLimit fun k => k.drainLimit }
      page := (s.reloaded c).page
      sensor := (s.reloaded c).sensor
      motors :=
        { s.motors with
          m0 := s.motors.m0.reloaded c s.scan.tLine .m0
          m1 := s.motors.m1.reloaded c s.scan.tLine .m1
          m2 := s.motors.m2.reloaded c s.scan.tLine .m2
          ramps := (s.reloaded c).motors.ramps } } := by
  rw [State.reloaded, withConstants_only, withStrobe_eq, withTables_only, withPriorities_only]
  rfl

theorem reloaded_motor (m : MotorId) :
    (s.reloaded c).motor m = (s.motor m).reloaded c s.scan.tLine m := by
  rw [reloaded_only]
  cases m <;> rfl

theorem reloaded_ramp (n : Fin 4) : (s.reloaded c).ramp n = (c.ramp n).getD (s.ramp n) := by
  have hconstants (t : State) : (t.withConstants c).ramp n = t.ramp n := by
    rw [withConstants_only]; rfl
  have htables (t : State) : (t.withTables c).ramp n = (c.ramp n).getD (t.ramp n) := by
    rw [State.withTables, reloadPhases_all]
    exact reloadRamps_ramp t c n
  rw [State.reloaded, hconstants, withStrobe_eq]
  exact (htables _).trans (by rw [withPriorities_only]; rfl)

theorem reloaded_queue_nil (h : s.print.queue = []) : (s.reloaded c).print.queue = [] := by
  rw [State.reloaded, withConstants_only]
  have hstart : (s.withPriorities c).print.queue = [] := by rw [withPriorities_only]; exact h
  simp only [withStrobe_eq, State.withTables, reloadPhases_all]
  exact reloadRamps_queue_nil _ c _ hstart

end

end Sys2Proof.Machine
end

section
/-! PROOFS. CONFIG RELOAD in full (09 R175, R176): the band-pool test, the motors, the gateways, and the statement. -/

namespace Sys2Proof.Machine

/-! ## The band pool and the motors behind a reload (09 R176, 01 R19) -/

section
variable {s : State} {c : Sections}

theorem withPriorities_of_none (h : c.priorities = none) : s.withPriorities c = s := by
  rw [State.withPriorities, h]

theorem withPriorities_boot (b : BootUnit) :
    State.withPriorities { s with boot := b } c = { s.withPriorities c with boot := b } := by
  unfold State.withPriorities
  cases c.priorities with
  | none => rfl
  | some ps => simp only [loadPriorities_all]; rfl

/-- What the priorities, tables and the strobe table of a reload leave of page memory and the sensor unit. -/
theorem beforeConstants_page : (((s.withPriorities c).withTables c).withStrobe c).page = s.page := by
  rw [withStrobe_eq, withTables_only, withPriorities_only]

theorem beforeConstants_sensor :
    (((s.withPriorities c).withTables c).withStrobe c).sensor = (s.withPriorities c).sensor := by
  rw [withStrobe_eq, withTables_only]

theorem reloaded_of_no_constants (h : c.constants = none) :
    (s.reloaded c).page = s.page ∧ (s.reloaded c).sensor = (s.withPriorities c).sensor := by
  rw [State.reloaded, State.withConstants, h]
  exact ⟨beforeConstants_page, beforeConstants_sensor⟩

theorem reloaded_page {k : Constants} (h : c.constants = some k) :
    (s.reloaded c).page = { s.page with lowMark := k.lowMark, low := (s.reloaded c).page.low } := by
  rw [← beforeConstants_page (s := s) (c := c), State.reloaded, State.withConstants, h]
  exact poolTest_page _

/-- The low mark is compared at once, under the new priorities (log 51). -/
theorem reloaded_poolTested {k : Constants} {v : State} (h : c.constants = some k)
    (hp : v.page = { s.page with lowMark := k.lowMark }) (hs : v.sensor = (s.withPriorities c).sensor) :
    PoolTested v (s.reloaded c) := by
  have hlow : (((s.withPriorities c).withTables c).withStrobe c).page.low = v.page.low := by
    rw [beforeConstants_page, hp]
  rw [State.reloaded, State.withConstants, h]
  exact poolTest_poolTested hlow (by rw [hp]) (beforeConstants_sensor.trans hs.symm)

end

section
variable {x : Motor} {c : Sections} {tLine : Nat} {m : MotorId}

theorem reloaded_eq : x.reloaded c tLine m =
    let hold := c.constants.elim (x.holdTime, x.autoRelease) fun k =>
      match m with
      | .m0 => k.hold0
      | .m1 => k.hold1
      | .m2 => k.hold2
    { x with
      holdTime := hold.1
      autoRelease := hold.2
      phaseTable := (c.phase m).elim x.phaseTable fun p => p.patterns
      phaseLen := (c.phase m).elim x.phaseLen fun p => p.length
      phase := (c.phase m).elim x.phase fun p => x.phase % p.length
      link := x.linkUnder c tLine m } := by
  unfold Motor.reloaded Motor.heldUnder Motor.phased
  cases c.constants <;> cases c.phase m <;> rfl

theorem linkUnder_of_none (h : x.link = none) : x.linkUnder c tLine m = none := by
  cases m <;> simp [Motor.linkUnder, h]

theorem linkUnder_of_kept {l : Link} (hl : x.link = some l) (h : c.ramp l.ramp = none) :
    x.linkUnder c tLine m = some l := by
  cases m <;> simp [Motor.linkUnder, Link.under, hl, h]

theorem linkUnder_of_replaced {l : Link} {t : List Nat} (hm : m ≠ .m2) (hl : x.link = some l)
    (h : c.ramp l.ramp = some t) :
    x.linkUnder c tLine m =
      some { l with
        top := min l.top (t.length - 1)
        kLine := if m = .m0 then lineCap t l.spl tLine else l.kLine } := by
  cases m with
  | m0 => simp [Motor.linkUnder, Link.under, hl, h, relink]
  | m1 => simp [Motor.linkUnder, Link.under, hl, h, relink]
  | m2 => exact absurd rfl hm

end

/-! ## What the gateways of a reload leave as it is (07 R141 to R143) -/

/-- `t` has all of `s` that the gateways' work leaves but for what `GateFrame` names. -/
structure ReloadFrame (s t : State) : Prop extends GateFrame s t where
  page : t.page = s.page
  print : t.print = s.print
  scan : t.scan = s.scan
  ramps : t.motors.ramps = s.motors.ramps
  phaseTable : ∀ m, (t.motor m).phaseTable = (s.motor m).phaseTable
  drainLimit : t.power.drainLimit = s.power.drainLimit

section
variable {s t u : State} {g : Fin 16}

theorem ReloadFrame.refl (s : State) : ReloadFrame s s :=
  ⟨.refl s, rfl, rfl, rfl, rfl, fun _ => rfl, rfl⟩

theorem ReloadFrame.trans (h : ReloadFrame s t) (k : ReloadFrame t u) : ReloadFrame s u where
  toGateFrame := h.toGateFrame.trans k.toGateFrame
  page := k.page.trans h.page
  print := k.print.trans h.print
  scan := k.scan.trans h.scan
  ramps := k.ramps.trans h.ramps
  phaseTable m := (k.phaseTable m).trans (h.phaseTable m)
  drainLimit := k.drainLimit.trans h.drainLimit

theorem haltedBy_phaseTable (x : Motor) (paused : Bool) (h : Halt) :
    (x.haltedBy paused h).phaseTable = x.phaseTable := by
  obtain ⟨mode, cause⟩ := h
  cases hm : x.moving
  · rw [haltedBy_of_rest hm]
  · cases mode
    · rw [haltedBy_ramp hm rfl]; rfl
    · rw [haltedBy_immediate hm rfl]; rfl

theorem acted_phaseTable (m : MotorId) : ((s.acted g).motor m).phaseTable = (s.motor m).phaseTable := by
  rw [acted_motor]
  change (s.haltedMotor g m).phaseTable = _
  unfold State.haltedMotor
  split
  · exact haltedBy_phaseTable _ _ _
  · rfl

theorem occur_drainLimit (kind : EventKind) :
    (s.occur g kind).power.drainLimit = s.power.drainLimit := by
  by_cases h : s.power.state = .sleep ∧ (s.gate g).cfg.wake = true
  · obtain ⟨hpower, -⟩ := occur_of_woken_parts (kind := kind) h.1 h.2
    rw [hpower]
  · obtain ⟨hpower, -⟩ := occur_of_awake_parts (s := s) (g := g) (kind := kind)
      ((Decidable.not_and_iff_not_or_not.mp h).imp_right eq_false_of_ne_true)
    rw [hpower]

theorem occur_reloadFrame (kind : EventKind) : ReloadFrame s (s.occur g kind) where
  toGateFrame := occur_gateFrame kind
  page := by rw [occur_only]
  print := by rw [occur_only]
  scan := by rw [occur_only]
  ramps := by rw [occur_motors, acted_motors]
  phaseTable m := by rw [occur_motor, acted_phaseTable]
  drainLimit := occur_drainLimit kind

theorem configGate_reloadFrame (c : GateCfg) : ReloadFrame s (s.configGate g c) := by
  have hset : ReloadFrame s (s.setGate g ((s.gate g).configured c)) :=
    ⟨setGate_gateFrame _, rfl, rfl, rfl, rfl, fun _ => by rw [setGate_motor], rfl⟩
  obtain he | he := configGate_cases (s := s) (g := g) (c := c)
  · rw [he]
    exact hset
  · rw [he]
    exact hset.trans (occur_reloadFrame _)

theorem reloadGates_reloadFrame (gs : List GateCfg) (ids : List (Fin 16)) :
    ReloadFrame s (s.reloadGates gs ids) := by
  induction ids generalizing s with
  | nil => exact .refl s
  | cons g rest ih => exact (configGate_reloadFrame _).trans ih

theorem reloadGates_recUnit (gs : List GateCfg) (ids : List (Fin 16)) :
    (s.reloadGates gs ids).recUnit = s.recUnit := by
  induction ids generalizing s with
  | nil => rfl
  | cons g rest ih => rw [State.reloadGates, ih, configGate_recUnit]

theorem reloadGates_eq_foldl (gs : List GateCfg) (ids : List (Fin 16)) : s.reloadGates gs ids =
    ids.foldl (fun t g => t.configGate g (gs.getD g.val GateCfg.default)) s := by
  induction ids generalizing s with
  | nil => rfl
  | cons g rest ih => exact ih

theorem reloadGates_cfg (gs : List GateCfg) (g : Fin 16) :
    ((s.reloadGates gs ids16).gate g).cfg = gs.getD g.val GateCfg.default := by
  rw [reloadGates_eq_foldl]
  exact foldl_get_of_mem (get := fun (t : State) (g : Fin 16) => (t.gate g).cfg)
    (f := fun g _ => gs.getD g.val GateCfg.default)
    (fun t i j h => by rw [configGate_gate, gate_setGate_of_ne _ _ h])
    (fun t i => by rw [configGate_gate, gate_setGate_self]; rfl) ids16_nodup (mem_ids16 g) s

end

/-! ## The configuration in force behind a reload -/

section
variable {s : State} {c : Sections}

theorem poolTest_priority (s : State) (i : Fin 24) :
    (s.poolTest.source i).priority = (s.source i).priority :=
  kept_priority (kept_of_held (poolTest_held s)) i

theorem poolTest_threshold (s : State) : s.poolTest.sensor.threshold = s.sensor.threshold :=
  kept_threshold (kept_of_held (poolTest_held s))

theorem withConstants_gate (g : Fin 16) : (s.withConstants c).gate g = s.gate g := by
  unfold State.withConstants
  cases c.constants with
  | none => rfl
  | some k => exact congrArg (fun v : Vector Gateway 16 => v[g]) (poolTest_gates _)

theorem withConstants_priority (i : Fin 24) :
    ((s.withConstants c).source i).priority = (s.source i).priority := by
  unfold State.withConstants
  cases c.constants with
  | none => rfl
  | some k => exact poolTest_priority _ i

theorem withConstants_threshold : (s.withConstants c).sensor.threshold = s.sensor.threshold := by
  unfold State.withConstants
  cases c.constants with
  | none => rfl
  | some k => exact poolTest_threshold _

theorem reloaded_gate (g : Fin 16) : (s.reloaded c).gate g = s.gate g := by
  rw [State.reloaded, withConstants_gate, State.gate, beforeConstants_sensor, withPriorities_only]
  rfl

theorem reloaded_priority (i : Fin 24) : ((s.reloaded c).source i).priority =
    c.priorities.elim (s.source i).priority fun ps => ps.getD i.val 0 := by
  rw [State.reloaded, withConstants_priority, State.source, beforeConstants_sensor, ← State.source]
  cases hp : c.priorities with
  | none => rw [withPriorities_of_none hp]; rfl
  | some ps => rw [withPriorities_source s c hp]; rfl

theorem reloaded_threshold : (s.reloaded c).sensor.threshold = s.sensor.threshold := by
  rw [State.reloaded, withConstants_threshold, beforeConstants_sensor, withPriorities_only]

theorem reloaded_geo : (s.reloaded c).page.geo = s.page.geo := by
  cases hk : c.constants with
  | none => rw [(reloaded_of_no_constants hk).1]
  | some k => rw [reloaded_page hk]

theorem reloaded_lowMark : (s.reloaded c).page.lowMark =
    c.constants.elim s.page.lowMark fun k => k.lowMark := by
  cases hk : c.constants with
  | none => rw [(reloaded_of_no_constants hk).1]; rfl
  | some k => rw [reloaded_page hk]; rfl

theorem reloaded_phaseTable (m : MotorId) : ((s.reloaded c).motor m).phaseTable =
    (c.phase m).elim (s.motor m).phaseTable fun p => p.patterns := by
  rw [reloaded_motor, reloaded_eq]

theorem putInForce_reloadFrame : ReloadFrame (s.reloaded c) (s.putInForce c) := by
  rw [putInForce_eq]
  cases c.gateways with
  | none => exact .refl _
  | some gs => exact reloadGates_reloadFrame gs ids16

theorem putInForce_recUnit : (s.putInForce c).recUnit = s.recUnit := by
  have hstart : (s.reloaded c).recUnit = s.recUnit := by rw [reloaded_only]
  rw [putInForce_eq, ← hstart]
  cases c.gateways with
  | none => rfl
  | some gs => exact reloadGates_recUnit gs ids16

theorem putInForce_cfg (g : Fin 16) : ((s.putInForce c).gate g).cfg =
    c.gateways.elim (s.gate g).cfg fun gs => gs.getD g.val GateCfg.default := by
  rw [putInForce_eq]
  cases c.gateways with
  | none => exact congrArg Gateway.cfg (reloaded_gate g)
  | some gs => exact reloadGates_cfg gs g

end

/-! ## The commands -/

/-- The start-up unit behind a reload of a valid image (09 R176). -/
def BootUnit.reloaded (b : BootUnit) (r : Reading) : BootUnit :=
  { b with rom := .valid, version := r.version, read := b.read + BitVec.ofNat 16 r.words }

section
variable {s : State} {bs : List Byte} {r : Reading}

theorem exec_configReload (h : InHand s 19 bs) :
    exec .configReload s = .next (State.settle s.reloadCommand) :=
  runIf_of (cmdIs_of_inHand h _) s _

theorem quiescent_iff : s.quiescent = true ↔
    (∀ ch, (s.chan ch).state = .idle) ∧ ∀ m, (s.motor m).moving = false := by
  rw [State.quiescent, Bool.and_eq_true, entryCondition_channelsIdle, entryCondition_motorsRest]

theorem reloadCommand_notQuiescent
    (h : (∃ ch, (s.chan ch).state ≠ .idle) ∨ ∃ m, (s.motor m).moving = true) :
    s.reloadCommand = s.refuse .notQuiescent := by
  have hq : s.quiescent = false := by
    rw [← Bool.not_eq_true, quiescent_iff]
    rintro ⟨hidle, hrest⟩
    rcases h with ⟨ch, hch⟩ | ⟨m, hm⟩
    · exact hch (hidle ch)
    · simp [hrest m] at hm
  simp [State.reloadCommand, hq]

theorem reloadCommand_of_quiescent (hc : ∀ ch, (s.chan ch).state = .idle)
    (hm : ∀ m, (s.motor m).moving = false) :
    s.reloadCommand = if s.boot.store.isSome = true then s.refuse .romBusy else s.startWork .reload := by
  simp [State.reloadCommand, quiescent_iff.mpr ⟨hc, hm⟩]

theorem exec_reloadReadEnd (hx : s.recUnit.state = .executing) (hw : s.recUnit.work = some .reload) :
    exec .reloadReadEnd s =
      .next (State.settle (s.reloadEnd (readImage s.eeprom fun _ => s.page.geo.bands))) :=
  runIf_of (by rw [hx, hw]; rfl) s _

theorem reloadEnd_of_failing (h : r.status ≠ .valid) : s.reloadEnd r =
    State.complete { s with boot := (s.boot.countRead r.words).flagStatus r.status } .romInvalid
      [r.status.code] := if_neg h

theorem reloadEnd_of_valid (h : r.status = .valid) : s.reloadEnd r =
    (State.putInForce { s with boot := s.boot.reloaded r } r.sections).complete .done
      [r.version, r.sections.clamped, flag (s.geometryIgnored r.sections) 1] := by
  have hboot : { (s.boot.countRead r.words).flagStatus r.status with version := r.version } =
      s.boot.reloaded r := by
    simp [BootUnit.flagStatus, BootUnit.countRead, BootUnit.reloaded, h]
  rw [State.reloadEnd]
  dsimp only
  rw [if_pos h, hboot]

end

/-! ## The settled state behind a valid reload -/

/-- The state that a valid reading comes to, before its completion. -/
def State.underReading (s : State) (r : Reading) : State :=
  State.putInForce { s with boot := s.boot.reloaded r } r.sections

section
variable {s : State} {r : Reading}

theorem underReading_reloadFrame :
    ReloadFrame (State.reloaded { s with boot := s.boot.reloaded r } r.sections) (s.underReading r) :=
  putInForce_reloadFrame

theorem underReading_boot : (s.underReading r).boot = s.boot.reloaded r := by
  rw [underReading_reloadFrame.boot, reloaded_only]

theorem underReading_eeprom : (s.underReading r).eeprom = s.eeprom := by
  rw [underReading_reloadFrame.eeprom, reloaded_only]

theorem underReading_scan : (s.underReading r).scan = { s.scan with
    tLine := r.sections.constants.elim s.scan.tLine fun k => k.tLine } := by
  rw [underReading_reloadFrame.scan, reloaded_only]

theorem underReading_print : (s.underReading r).print = { s.print with
    strobe := r.sections.strobe.getD s.print.strobe
    dmax := r.sections.constants.elim s.print.dmax fun k => k.dmax
    queue := (s.underReading r).print.queue } := by
  rw [underReading_reloadFrame.print, reloaded_only]

theorem underReading_drainLimit : (s.underReading r).power.drainLimit =
    r.sections.constants.elim s.power.drainLimit fun k => k.drainLimit := by
  rw [underReading_reloadFrame.drainLimit, reloaded_only]

theorem underReading_geo : (s.underReading r).page.geo = s.page.geo := by
  rw [underReading_reloadFrame.page]
  exact reloaded_geo

theorem underReading_lowMark : (s.underReading r).page.lowMark =
    r.sections.constants.elim s.page.lowMark fun k => k.lowMark := by
  rw [underReading_reloadFrame.page]
  exact reloaded_lowMark

theorem underReading_ramp (n : Fin 4) :
    (s.underReading r).ramp n = (r.sections.ramp n).getD (s.ramp n) := by
  rw [State.ramp, underReading_reloadFrame.ramps]
  exact reloaded_ramp _ _ n

theorem underReading_phaseTable (m : MotorId) : ((s.underReading r).motor m).phaseTable =
    (r.sections.phase m).elim (s.motor m).phaseTable fun p => p.patterns := by
  rw [underReading_reloadFrame.phaseTable]
  exact reloaded_phaseTable m

theorem underReading_priority (i : Fin 24) : ((s.underReading r).source i).priority =
    r.sections.priorities.elim (s.source i).priority fun ps => ps.getD i.val 0 := by
  rw [underReading_reloadFrame.priority]
  exact reloaded_priority i

theorem underReading_threshold : (s.underReading r).sensor.threshold = s.sensor.threshold := by
  rw [underReading_reloadFrame.threshold]
  exact reloaded_threshold

theorem underReading_cmdBytes : (s.underReading r).cmdBytes = s.cmdBytes := by
  rw [State.cmdBytes, State.underReading, putInForce_recUnit]
  rfl

end

/-- Settles O40: the checks, a failing reading, each part that a valid image puts in force before its gateways, the
gateways line by line, and what the settled state has of it all. -/
theorem reloadPutsTheCarriedSectionsInForce : Obligations.ReloadPutsTheCarriedSectionsInForce := by
  refine ⟨fun s hx hw => ?parts, fun s gs => ⟨rfl, fun g rest => rfl⟩, fun s bs hin => ?checks,
    fun s hx hw => ?outcome⟩
  case checks =>
    rw [exec_configReload hin]
    refine ⟨fun h => by rw [reloadCommand_notQuiescent h], fun hc hm => ?_⟩
    rw [reloadCommand_of_quiescent hc hm]
    exact ⟨fun hs => by rw [if_pos hs], fun hs => by rw [if_neg (by simp [hs])]⟩
  case parts =>
    intro r c hv
    have hexec : exec .reloadReadEnd s = .next (State.settle (s.reloadEnd r)) :=
      exec_reloadReadEnd hx hw
    rw [hexec, reloadEnd_of_valid hv, putInForce_eq]
    have honly := reloaded_only { s with boot := s.boot.reloaded r } c
    have hprior : State.withPriorities { s with boot := s.boot.reloaded r } c =
        { s.withPriorities c with boot := s.boot.reloaded r } := withPriorities_boot _
    refine ⟨s.withPriorities c, State.reloaded { s with boot := s.boot.reloaded r } c, rfl,
      ⟨?u, ?sources, withPriorities_of_none, fun ps hps => withPriorities_source s c hps⟩, ?boot, ?scan,
      ?print, reloaded_queue_nil { s with boot := s.boot.reloaded r } c, ?power, fun hk => ?unmarked,
      fun k hk => ?marked, reloaded_ramp { s with boot := s.boot.reloaded r } c, ?motors, fun m => ?motor,
      ?rest⟩
    case u => rw [withPriorities_only]
    case sources => rw [withPriorities_only]
    case boot => rw [honly]; rfl
    case scan => rw [honly]
    case print => rw [honly]
    case power => rw [honly]
    case unmarked =>
      obtain ⟨hpage, hsensor⟩ := reloaded_of_no_constants (s := { s with boot := s.boot.reloaded r }) hk
      exact ⟨hpage, hsensor.trans (by rw [hprior])⟩
    case marked =>
      exact ⟨reloaded_page (s := { s with boot := s.boot.reloaded r }) hk,
        reloaded_poolTested hk rfl (by rw [hprior])⟩
    case motors => rw [honly]
    case motor =>
      intro x hold
      have hmotor : (State.reloaded { s with boot := s.boot.reloaded r } c).motor m =
          x.reloaded c s.scan.tLine m := (reloaded_motor _ c m).trans (by cases m <;> rfl)
      have hlink : ((State.reloaded { s with boot := s.boot.reloaded r } c).motor m).link =
          x.linkUnder c s.scan.tLine m := by rw [hmotor, reloaded_eq]
      refine ⟨?_, fun h => by rw [hlink, linkUnder_of_none h], fun l hl hm =>
        ⟨fun h => by rw [hlink, linkUnder_of_kept hl h],
          fun t h => by rw [hlink, linkUnder_of_replaced hm hl h]⟩⟩
      rw [hlink, hmotor]
      exact reloaded_eq
    case rest => rw [honly]
  case outcome =>
    intro r
    have hexec : exec .reloadReadEnd s = .next (State.settle (s.reloadEnd r)) :=
      exec_reloadReadEnd hx hw
    refine ⟨fun hf => ?failing, fun hv => ?valid⟩
    case failing =>
      rw [hexec, reloadEnd_of_failing hf]
      exact ⟨_, rfl, rfl, rfl, rfl⟩
    have hkept := settle_kept ((s.underReading r).complete .done
      [r.version, r.sections.clamped, flag (s.geometryIgnored r.sections) 1])
    have hboot := (kept_boot hkept).trans underReading_boot
    refine ⟨_, by rw [hexec, reloadEnd_of_valid hv]; rfl, by rw [hboot]; rfl, by rw [hboot]; rfl,
      by rw [hboot]; rfl, (kept_geo hkept).trans underReading_geo,
      fun n => (congrArg (fun v : Vector (List Nat) 4 => v[n]) (kept_ramps hkept)).trans
        (underReading_ramp n),
      fun m => (congrArg KeptMotor.phaseTable (kept_motor hkept m)).trans (underReading_phaseTable m),
      (kept_strobe hkept).trans (by rw [complete_print, underReading_print]),
      (kept_headClass hkept).trans (by rw [complete_print, underReading_print]),
      (kept_tLine hkept).trans (by rw [complete_scan, underReading_scan]),
      (kept_dmax hkept).trans (by rw [complete_print, underReading_print]),
      (congrArg PowerUnit.drainLimit (kept_power hkept)).trans underReading_drainLimit,
      (kept_lowMark hkept).trans underReading_lowMark,
      fun g => (kept_gate hkept g).1.trans (putInForce_cfg g),
      fun i => (kept_priority hkept i).trans (underReading_priority i),
      (kept_threshold hkept).trans underReading_threshold,
      (kept_eeprom hkept).trans underReading_eeprom,
      (kept_shadingA hkept).trans (by rw [complete_scan, underReading_scan]),
      (kept_toneA hkept).trans (by rw [complete_scan, underReading_scan]), (kept_completion hkept).trans ?_⟩
    rw [State.complete, underReading_cmdBytes]
    rfl

end Sys2Proof.Machine
end

section
/-! PROOFS. CONFIG STORE (09 R177) and the steps of its words: the source burst, the word shifted, the EEPROM's ready,
and the readback (09 R178). -/

namespace Sys2Proof.Machine

/-! ## The command, its checks in their order (09 R177) -/

section
variable {s : State} {bs : List Byte}

theorem exec_configStore (h : InHand s 20 bs) :
    exec .configStore s = .next (State.settle s.storeCommand) :=
  runIf_of (cmdIs_of_inHand h _) s _

theorem storeCommand_badRange (h : s.cmdBytes = bs)
    (hr : wordAt bs 6 = 0 ∨ 1024 < wordAt bs 4 + wordAt bs 6) :
    s.storeCommand = s.refuse .badRange := by
  subst h
  exact if_pos hr

/-- The range and the source pass their checks: what the power unit and a store under way say decides. -/
theorem storeCommand_of_source (h : s.cmdBytes = bs) (hn : 1 ≤ wordAt bs 6)
    (hr : wordAt bs 4 + wordAt bs 6 ≤ 1024) : s.storeCommand =
      if s.page.geo.goodSource (dwordAt bs 8) (2 * wordAt bs 6) = false then s.refuse .badAddress
      else if s.power.state = .drain then s.refuse .powerPending
      else if s.boot.store.isSome = true then s.refuse .romBusy
      else
        (s.setStore
          (some
            { addr := wordAt bs 4, count := wordAt bs 6, source := dwordAt bs 8, next := 0
              words := [], phase := .source })).complete .done [] := by
  subst h
  have hrange : ¬(wordAt s.cmdBytes 6 = 0 ∨ 1024 < wordAt s.cmdBytes 4 + wordAt s.cmdBytes 6) := by
    omega
  simp only [State.storeCommand, if_neg hrange, Bool.not_eq_true']
  rfl

end

/-! ## The source burst and the EEPROM's ready (09 R178) -/

section
variable {s : State} {o : StoreOp}

theorem exec_storeSourceBurstEnd {a n : Nat} (ho : s.boot.store = some o)
    (hb : s.port.busy = some (.storeBurst a n)) :
    exec .storeSourceBurstEnd s = .next (State.settle
      (s.releasePort.setStore
        (some { o with
          words := (s.burstData (.storeBurst a n)).map (BitVec.ofNat 16)
          phase := .shifting }))) := by
  change execStoreSourceBurstEnd s = _
  simp only [execStoreSourceBurstEnd, ho, hb]
  exact runIf_of rfl s _

theorem exec_eepromReady (ho : s.boot.store = some o) (hp : o.phase = .waiting) :
    exec .eepromReady s = .next (State.settle (s.setStore (some { o with phase := .readback }))) := by
  change execEepromReady s = _
  simp only [execEepromReady, ho]
  exact runIf_of (by rw [hp]; rfl) s _

theorem exec_eepromReadyTimeout (ho : s.boot.store = some o) (hp : o.phase = .waiting) :
    exec .eepromReadyTimeout s = .next (State.settle (s.storeFailed o)) := by
  change execEepromReadyTimeout s = _
  simp only [execEepromReadyTimeout, ho]
  exact runIf_of (by rw [hp]; rfl) s _

end

/-! ## A word shifted and read back (09 R178) -/

section
variable {s : State} {o : StoreOp} {w : Word} {rest : List Word}

theorem exec_storeWordShifted (ho : s.boot.store = some o) (hw : o.words = w :: rest)
    (hp : o.phase = .shifting) :
    exec .storeWordShifted s = .next (State.settle
      { s with
        eeprom := (fitRom s.eeprom).set (o.addr + o.next) w
        boot := { s.boot with
          store := some { o with phase := .waiting }
          written := s.boot.written + 1 } }) := by
  change execStoreWordShifted s = _
  simp only [execStoreWordShifted, ho, hw]
  exact runIf_of (by rw [hp]; rfl) s _

/-- The state in which the EEPROM holds the word `v` that it returns, one word more counted as read. -/
def State.readBack (s : State) (o : StoreOp) (v : Word) : State :=
  { s with
    eeprom := (fitRom s.eeprom).set (o.addr + o.next) v
    boot := { s.boot with read := s.boot.read + 1 } }

theorem exec_storeReadbackEnd (v : Word) (ho : s.boot.store = some o) (hw : o.words = w :: rest)
    (hp : o.phase = .readback) :
    exec (.storeReadbackEnd v) s = .next (State.settle
      (if v = w then (s.readBack o v).storeOn o rest else (s.readBack o v).storeFailed o)) := by
  change execStoreReadbackEnd v s = _
  simp only [execStoreReadbackEnd, ho, hw]
  exact runIf_of (by rw [hp]; rfl) s _

theorem storeOn_of_last (h : o.next + 1 = o.count) :
    s.storeOn o rest = (s.setStore none).raise 21 .storeDone (.word 0) :=
  if_pos (Nat.le_of_eq h.symm)

theorem storeOn_of_more (h : o.next + 1 < o.count) :
    s.storeOn o rest =
      s.setStore
        (some { o with
          next := o.next + 1
          words := rest
          phase := if rest = [] then .source else .shifting }) := by
  rw [State.storeOn, if_neg (Nat.not_le.mpr h)]
  simp only [List.isEmpty_iff]

end

/-- Settles O41: the checks of the command one by one, and each step of a word under the phase it belongs to. -/
theorem storeWritesTheEepromWordByWord : Obligations.StoreWritesTheEepromWordByWord := by
  refine ⟨fun s bs hin => ?command, fun s o a n ho hb => exec_storeSourceBurstEnd ho hb,
    fun s o w rest ho hw => ⟨exec_storeWordShifted ho hw, fun hp v => ?readback⟩,
    fun s o ho hp => ⟨exec_eepromReady ho hp, exec_eepromReadyTimeout ho hp⟩⟩
  case command =>
    have hb := cmdBytes_of_inHand hin
    rw [exec_configStore hin]
    refine ⟨fun hr => by rw [storeCommand_badRange hb hr], fun hn hr hsrc => ?_, fun hn hr hsrc =>
      ⟨fun hdrain => ?_, fun hrun hstore => ?_, fun hrun hstore => ?_⟩⟩
    all_goals rw [storeCommand_of_source hb hn hr]
    · rw [if_pos hsrc]
    · simp [hsrc, hdrain]
    · simp [hsrc, hrun, hstore]
    · simp [hsrc, hrun, hstore]
  case readback =>
    intro u
    rw [exec_storeReadbackEnd v ho hw hp]
    refine ⟨fun hv hlast => ?_, fun hv hmore => ?_, fun hv => ?_⟩
    · rw [if_pos hv, storeOn_of_last hlast]
      rfl
    · rw [if_pos hv, storeOn_of_more hmore]
      rfl
    · rw [if_neg hv]
      rfl

end Sys2Proof.Machine
end

section
/-! PROOFS. The record unit's commands: the fetch, an unknown kind, and how a command ends (10 R182, R183, R185, R188,
R191). -/

namespace Sys2Proof.Machine

section
variable {s : State}

theorem ringFull_iff : s.ringFull = true ↔
    (s.recUnit.producer + 1) % s.page.geo.repSize = s.host.consumer := decide_eq_true_iff

theorem exec_commandFetchEnd (h : s.port.busy = some .commandFetch) :
    exec .commandFetchEnd s =
      .next (State.settle
        { s.releasePort with recUnit :=
            { s.recUnit with
              state := .executing
              command :=
                some (Memory.readBytes s.mem (s.page.geo.cmdBase + 16 * s.recUnit.consumer) 16) } }) :=
  runIf_of (by rw [h]; rfl) s _

theorem exec_unknownCommand {k : Nat} {bs : List Byte} (h : InHand s k bs) (hk : k = 0 ∨ 20 < k) :
    exec .unknownCommand s = .next (State.settle (s.refuse .badKind)) := by
  obtain ⟨hstate, hwork, hcommand, hkind⟩ := h
  have hdue : (s.cmd.any fun bs => cmdKind bs == 0 || decide (20 < cmdKind bs)) = true := by
    simp [State.cmd, hstate, hwork, hcommand, hkind, hk]
  exact runIf_of hdue s _

/-- A command in hand ends with its kind and tag as read. -/
theorem complete_of_command {bs : List Byte} (h : s.recUnit.command = some bs) (code : ResultCode)
    (result : List Nat) : s.complete code result =
      { s with recUnit :=
        { s.recUnit with
          state := .completing
          work := none
          completion := some { kind := wordAt bs 0, tag := wordAt bs 2, code, result }
          badKind := s.recUnit.badKind || decide (code = .badKind)
          badAddress := s.recUnit.badAddress || decide (code = .badAddress)
          stall := s.recUnit.stall || s.ringFull } } := by
  have hbytes : s.cmdBytes = bs := by rw [State.cmdBytes, h, Option.getD_some]
  rw [State.complete, hbytes]
  rfl

end

/-- Settles O21: the bytes fetched, the refusal of an unknown kind, and the end of every command. -/
theorem commandsAreFetchedAndUnknownOnesRefused : Obligations.CommandsAreFetchedAndUnknownOnesRefused := by
  refine ⟨fun s => exec_commandFetchEnd, fun s k bs hin hk => ?unknown,
    fun s bs code result h => complete_of_command h code result,
    fun s => ⟨fun code => rfl, ringFull_iff⟩⟩
  case unknown =>
    obtain ⟨-, hwork, hcommand, hkind⟩ := id hin
    refine ⟨_, exec_unknownCommand hin hk, ?_⟩
    rw [State.refuse, complete_of_command hcommand, ← hwork, ← hkind]
    simp [cmdKind, cmdTag]

end Sys2Proof.Machine
end

section
/-! PROOFS. The report-slot arbiter (10 R186, R187) and the event it chooses (07 R147 to R149). -/

namespace Sys2Proof.Machine

/-! ## The chosen source (07 R147, R148) -/

section
variable {s : State} {i j k : Fin 24} {a : Option (Fin 24)}

/-- Source `i` goes before source `j`: its priority is higher, or it is equal and `i` is not the higher number. -/
def State.GoesBefore (s : State) (i j : Fin 24) : Prop :=
  (s.source j).priority ≤ (s.source i).priority ∧
    ((s.source j).priority = (s.source i).priority → i ≤ j)

theorem goesBefore_refl : s.GoesBefore i i := ⟨Nat.le_refl _, fun _ => Nat.le_refl _⟩

theorem goesBefore_trans (h : s.GoesBefore i j) (hk : s.GoesBefore j k) : s.GoesBefore i k := by
  obtain ⟨hle, heq⟩ := h
  obtain ⟨hle', heq'⟩ := hk
  refine ⟨Nat.le_trans hle' hle, fun he => ?_⟩
  exact Nat.le_trans (heq (by omega)) (heq' (by omega))

theorem better_of_unreportable (hj : s.reportable j = false) : s.better a j = a :=
  if_neg (by simp [hj])

/-- A reportable source `j`, above the candidate in number: the better of the two goes before both. -/
theorem better_of_reportable (hj : s.reportable j = true) (ha : ∀ i, a = some i → i < j) :
    ∃ k, s.better a j = some k ∧ s.GoesBefore k j ∧ (∀ i, a = some i → s.GoesBefore k i) ∧
      (k = j ∨ a = some k) := by
  unfold State.better
  rw [if_pos hj]
  cases a with
  | none => exact ⟨j, rfl, goesBefore_refl, nofun, .inl rfl⟩
  | some i =>
    have hlt : i < j := ha i rfl
    dsimp only
    split
    next hp =>
      refine ⟨j, rfl, goesBefore_refl, fun i' hi => ?_, .inl rfl⟩
      cases hi
      exact ⟨Nat.le_of_lt hp, fun he => absurd he (Nat.ne_of_lt hp)⟩
    next hp =>
      refine ⟨i, rfl, ⟨Nat.le_of_not_lt hp, fun _ => Nat.le_of_lt hlt⟩, fun i' hi => ?_, .inr rfl⟩
      cases hi
      exact goesBefore_refl

/-- Along sources in ascending order the candidate kept is reportable and goes before every reportable one. -/
theorem foldl_better_goesBefore {l : List (Fin 24)} (hl : l.Pairwise (· < ·))
    (ha : ∀ i, a = some i → s.reportable i = true ∧ ∀ j ∈ l, i < j) (h : l.foldl s.better a = some k) :
    s.reportable k = true ∧ (∀ i, a = some i → s.GoesBefore k i) ∧
      ∀ j ∈ l, s.reportable j = true → s.GoesBefore k j := by
  induction l generalizing a with
  | nil =>
    obtain rfl : a = some k := h
    refine ⟨(ha k rfl).1, fun i hi => ?_, nofun⟩
    cases hi
    exact goesBefore_refl
  | cons j l ih =>
    obtain ⟨hjl, hl⟩ := List.pairwise_cons.mp hl
    rw [List.foldl_cons] at h
    cases hj : s.reportable j
    · rw [better_of_unreportable hj] at h
      obtain ⟨hk, hold, hrest⟩ :=
        ih hl (fun i hi => ⟨(ha i hi).1, fun d hd => (ha i hi).2 d (List.mem_cons_of_mem j hd)⟩) h
      refine ⟨hk, hold, List.forall_mem_cons.mpr ⟨fun hr => ?_, hrest⟩⟩
      exact absurd (hj.symm.trans hr) Bool.false_ne_true
    · obtain ⟨b, hb, hbj, hba, hfrom⟩ :=
        better_of_reportable hj fun i hi => (ha i hi).2 j List.mem_cons_self
      rw [hb] at h
      have hbest : s.reportable b = true ∧ ∀ d ∈ l, b < d := by
        rcases hfrom with rfl | hab
        · exact ⟨hj, hjl⟩
        · exact ⟨(ha b hab).1, fun d hd => (ha b hab).2 d (List.mem_cons_of_mem j hd)⟩
      obtain ⟨hk, hkb, hrest⟩ := ih hl (fun i hi => Option.some.inj hi ▸ hbest) h
      exact ⟨hk, fun i hi => goesBefore_trans (hkb b rfl) (hba i hi),
        List.forall_mem_cons.mpr ⟨fun _ => goesBefore_trans (hkb b rfl) hbj, hrest⟩⟩

theorem ids24_pairwise : ids24.Pairwise (· < ·) := by decide

/-- The chosen source is reportable and goes before every reportable one. -/
theorem chosenSource_eq_some (h : s.chosenSource = some i) :
    s.reportable i = true ∧ ∀ j, s.reportable j = true → s.GoesBefore i j := by
  obtain ⟨hi, -, hbest⟩ := foldl_better_goesBefore (a := none) ids24_pairwise nofun h
  exact ⟨hi, fun j => hbest j (mem_ids24 j)⟩

end

/-! ## The grant of a slot (10 R186, R187) -/

section
variable {s : State}

theorem grantSlot_of_busy (h : s.recUnit.writing.isSome = true ∨ s.ringFull = true) : s.grantSlot = s :=
  if_pos h

variable (hfree : ¬(s.recUnit.writing.isSome = true ∨ s.ringFull = true))
include hfree

theorem grantSlot_completion {c : Completion} (hstate : s.recUnit.state = .completing)
    (hc : s.recUnit.completion = some c) : s.grantSlot = s.startWriting .completion c.bytes := by
  rw [State.grantSlot, if_neg hfree]
  simp only [hstate, hc]

/-- Without a completion the slot goes to the first channel with a notice, or to the event unit. -/
theorem grantSlot_of_no_completion (h : s.recUnit.state ≠ .completing ∨ s.recUnit.completion = none) :
    s.grantSlot =
      match s.noticeChannel with
      | some ch =>
        match (s.chan ch).notices.head? with
        | some n => s.startWriting (.notice ch n.final) (n.bytes ch (s.chan ch))
        | none => s
      | none => if s.eventAsks then s.grantEvent else s := by
  rw [State.grantSlot, if_neg hfree]
  split
  next hstate hc => rcases h with h | h <;> simp_all
  next => rfl

end

section
variable {s : State} {ch : Channel}

theorem noticeChannel_eq_none (h : ∀ ch, (s.chan ch).notices = []) : s.noticeChannel = none :=
  List.find?_eq_none.mpr fun ch _ => by simp [h ch]

/-- The channel of lowest number with a notice. -/
theorem noticeChannel_eq_some {n : Notice} {rest : List Notice} (hn : (s.chan ch).notices = n :: rest)
    (hlow : ∀ d, chanNumber d < chanNumber ch → (s.chan d).notices = []) :
    s.noticeChannel = some ch := by
  have hbelow (d : Channel) (hd : chanNumber d < chanNumber ch) : (s.chan d).notices.isEmpty = true :=
    List.isEmpty_iff.mpr (hlow d hd)
  have hself : (s.chan ch).notices.isEmpty = false := by rw [hn]; rfl
  unfold State.noticeChannel allChannels
  cases ch
  · simp only [List.find?_cons, hself, Bool.not_false]
  · simp only [List.find?_cons, hself, Bool.not_false, hbelow .scan (by decide), Bool.not_true]
  · simp only [List.find?_cons, hself, Bool.not_false, hbelow .scan (by decide),
      hbelow .print (by decide), Bool.not_true]
  · simp only [List.find?_cons, hself, Bool.not_false, hbelow .scan (by decide),
      hbelow .print (by decide), hbelow .codeOut (by decide), Bool.not_true]

theorem eventAsks_iff : s.eventAsks = true ↔ s.boot.stage = .ready ∧ s.port.backlog = false ∧
    (s.power.state = .run ∨ s.power.state = .drain ∨ s.power.state = .doze) := by
  simp [State.eventAsks, and_assoc, or_assoc]

end

/-! ## The event that gets a slot (07 R148, R149) -/

section
variable {s : State} {i : Fin 24} {e : PendingEvent}

theorem grantEvent_of_none (h : s.chosenSource = none) : s.grantEvent = s := by
  simp only [State.grantEvent, h]

theorem grantEvent_of_some (hi : s.chosenSource = some i) (he : (s.source i).entry = some e) :
    s.grantEvent = ((s.setSource i { s.source i with entry := none }).disarm i e.kind).startWriting .event
      (eventBytes i (s.source i).priority e) := by
  simp only [State.grantEvent, hi, he]

theorem disarm_only (i : Fin 24) (kind : EventKind) : s.disarm i kind =
    { s with sensor := { s.sensor with gates := (s.disarm i kind).sensor.gates } } := by
  unfold State.disarm
  split
  · split <;> rfl
  · rfl

/-- The line's own gateway is disarmed, when it is of a level mode and the kind is ACTIVE. -/
theorem disarm_gate (i : Fin 24) (kind : EventKind) (g : Fin 16) : (s.disarm i kind).gate g =
    if g.val = i.val ∧ kind = .active ∧
        ((s.gate g).cfg.mode = .levelHigh ∨ (s.gate g).cfg.mode = .levelLow) then
      { s.gate g with armed := false }
    else s.gate g := by
  unfold State.disarm lineOf
  by_cases hi : i.val < 16
  · rw [dif_pos hi]
    dsimp only
    by_cases hg : g = ⟨i.val, hi⟩
    · subst hg
      split
      next hdue => rw [gate_setGate_self, if_pos ⟨rfl, hdue⟩]
      next hdue => exact (if_neg fun h => hdue h.2).symm
    · rw [if_neg (c := g.val = i.val ∧ _) fun h => hg (Fin.ext h.1)]
      split
      · exact gate_setGate_of_ne _ _ hg
      · rfl
  · have hg : ¬g.val = i.val := by omega
    rw [dif_neg hi, if_neg fun h => hg h.1]

end

/-- Settles O8: the arbiter's order case by case, and the source it chooses. -/
theorem reportSlotsGoInOrder : Obligations.ReportSlotsGoInOrder := by
  refine ⟨fun s => ⟨fun h => grantSlot_of_busy (.inl h), fun h => grantSlot_of_busy (.inr (ringFull_iff.mpr h)),
    fun hw hroom => ?free⟩, fun s => ⟨fun i hi => ?chosen, fun h => chosenSource_eq_none_iff.mp h⟩⟩
  case chosen =>
    obtain ⟨hreport, hbest⟩ := chosenSource_eq_some hi
    obtain ⟨hentry, hthreshold⟩ := (reportable_iff i).mp hreport
    exact ⟨hentry, hthreshold, fun j he ht => hbest j ((reportable_iff j).mpr ⟨he, ht⟩)⟩
  case free =>
    have hfree : ¬(s.recUnit.writing.isSome = true ∨ s.ringFull = true) := by
      rw [hw, ringFull_iff]
      simpa using hroom
    refine ⟨fun c hstate hc => grantSlot_completion hfree hstate hc, fun hno => ?_⟩
    rw [grantSlot_of_no_completion hfree hno]
    refine ⟨fun ch n rest hn hlow => ?notice, fun hnone => ?event⟩
    case notice =>
      rw [noticeChannel_eq_some hn hlow]
      simp only [hn, List.head?_cons]
      rfl
    case event =>
      rw [noticeChannel_eq_none hnone]
      refine ⟨fun hasks => if_neg (mt eventAsks_iff.mp hasks), fun hchosen => ?_,
        fun i e hstage hbacklog hpower hi he => ?_⟩
      · dsimp only
        rw [grantEvent_of_none hchosen, ite_self]
      · dsimp only
        rw [if_pos (eventAsks_iff.mpr ⟨hstage, hbacklog, hpower⟩), grantEvent_of_some hi he]
        refine ⟨?_, ?_, fun j hj => ?_, fun g => disarm_gate i e.kind g, ?_⟩
        all_goals rw [disarm_only]
        · rfl
        · exact source_setSource_self s i _
        · exact source_setSource_of_ne s _ hj
        · rfl

end Sys2Proof.Machine
end

section
/-! PROOFS. The host port: attention writes and memory cycles (10 R180, R174; 01 R24). -/

namespace Sys2Proof.Machine

/-! ## The host port at the end of a step -/

section
variable (s : State)

/-- The arbiter leaves the host port alone. -/
theorem arbitrate_host : s.arbitrate.host = s.host := by
  unfold State.arbitrate
  dsimp only
  split
  · split
    · exact (host_of_held (grantUrgent_held _)).trans (host_of_held (passWords_held s _ _))
    · rfl
  · split
    · exact (host_of_held (grantUrgent_held _)).trans (host_of_held (passWords_held s _ _))
    · rfl
  · exact host_of_held (grantFree_held s)
  · rfl
  · rfl

/-- Judging a cycle looks at the host port, the port's mode and the geometry. -/
theorem judgeCycle_host_congr {s t : State} (hh : t.host = s.host) (hm : t.port.mode = s.port.mode)
    (hg : t.page.geo = s.page.geo) : t.judgeCycle.host = s.judgeCycle.host := by
  unfold State.judgeCycle
  rw [hh, hm, hg]
  split
  · exact hh
  · split
    · exact hh
    · split
      · rfl
      · split <;> rfl

/-- Of all that follows within a step, judging the held cycle alone concerns the host port. -/
theorem settle_host : s.settle.host = s.judgeCycle.host := by
  rw [State.settle, arbitrate_host]
  exact judgeCycle_host_congr (host_of_held (beforeJudge_held s)) (mode_of_held (beforeJudge_held s))
    (kept_geo (kept_of_held (beforeJudge_held s)))

end

/-! ## Attention words (10 R180, R174) -/

section
variable {s : State}

theorem writeCommandWord_of_released (h : s.boot.ready = .released) (v : Word) :
    s.writeCommandWord v =
      { s with host :=
          { s.host with
            producer := v.toNat % s.page.geo.cmdSize, attention := s.host.attention + 1 } } :=
  if_pos (beq_iff_eq.mpr h)

theorem writeReportWord_of_released (h : s.boot.ready = .released) (v : Word) :
    s.writeReportWord v =
      { s with host :=
          { s.host with
            consumer := v.toNat % s.page.geo.repSize, attention := s.host.attention + 1 } } :=
  if_pos (beq_iff_eq.mpr h)

theorem writeCommandWord_of_held (h : s.boot.ready ≠ .released) (v : Word) : s.writeCommandWord v = s :=
  if_neg (mt beq_iff_eq.mp h)

theorem writeReportWord_of_held (h : s.boot.ready ≠ .released) (v : Word) : s.writeReportWord v = s :=
  if_neg (mt beq_iff_eq.mp h)

theorem exec_commandWordWrite (v : Word) (s : State) :
    exec (.commandWordWrite v) s = .next (State.settle (s.writeCommandWord v)) := runIf_of rfl s _

theorem exec_reportWordWrite (v : Word) (s : State) :
    exec (.reportWordWrite v) s = .next (State.settle (s.writeReportWord v)) := runIf_of rfl s _

theorem exec_attentionCycle (hc : s.host.cycle = none) (addr : BitVec 21) (w : Option Word) :
    exec (.hostMemoryCycle true addr w) s = .next (State.settle (s.attentionCycle (addr.getLsbD 0) w)) :=
  runIf_of (by rw [State.hwaitn, hc]; rfl) s _

/-- An attention cycle that writes is the write of its word. -/
theorem exec_attentionCycle_write (hc : s.host.cycle = none) (addr : BitVec 21) (v : Word) :
    exec (.hostMemoryCycle true addr (some v)) s =
      exec (if addr.getLsbD 0 then .reportWordWrite v else .commandWordWrite v) s := by
  rw [exec_attentionCycle hc]
  cases h : addr.getLsbD 0
  · exact (exec_commandWordWrite v s).symm
  · exact (exec_reportWordWrite v s).symm

/-- An attention cycle that reads drives an index and leaves the host port otherwise as it is. -/
theorem attentionRead_host (hc : s.host.cycle = none) (hstage : s.boot.stage = .ready)
    (addr : BitVec 21) : ∃ t, exec (.hostMemoryCycle true addr none) s = .next t ∧
      t.host = { s.host with
        data := if addr.getLsbD 0 then BitVec.ofNat 16 s.recUnit.producer
          else BitVec.ofNat 16 s.recUnit.consumer } := by
  refine ⟨_, exec_attentionCycle hc addr none, ?_⟩
  have hidle : (s.attentionCycle (addr.getLsbD 0) none).host.cycle = none := hc
  rw [settle_host, judgeCycle_of_idle (.inl hidle)]
  simp only [State.attentionCycle, State.reportWord, State.commandWord, hstage, if_true]

/-! ## Memory cycles (01 R24) -/

/-- The state with a memory cycle waiting, not yet judged. -/
def State.withCycle (s : State) (addr : Nat) (w : Option Word) : State :=
  { s with host := { s.host with cycle := some { addr, write := w, asked := false } } }

theorem withCycle_cycle (addr : Nat) (w : Option Word) :
    (s.withCycle addr w).host.cycle = some { addr, write := w, asked := false } := rfl

theorem exec_memoryCycle (hc : s.host.cycle = none) (addr : BitVec 21) (w : Option Word) :
    exec (.hostMemoryCycle false addr w) s =
      .next (State.settle (s.withCycle (2 * addr.toNat) w)) :=
  runIf_of (by rw [State.hwaitn, hc]; rfl) s _

/-- A memory cycle leaves the host port as the judging of it does. -/
theorem memoryCycle_host (hc : s.host.cycle = none) {addr : BitVec 21} {w : Option Word} {h : HostPort}
    (hj : (s.withCycle (2 * addr.toNat) w).judgeCycle.host = h) :
    ∃ t, exec (.hostMemoryCycle false addr w) s = .next t ∧ t.host = h :=
  ⟨_, exec_memoryCycle hc addr w, (settle_host _).trans hj⟩

end

/-- Settles O19: the attention writes and cycles, and the memory cycle as it is judged. -/
theorem hostPortAnswersTheHost : Obligations.HostPortAnswersTheHost := by
  refine ⟨fun v s => ⟨fun h => ?released, fun h => ?held⟩, fun addr w s hc =>
    ⟨fun hm haddr => memoryCycle_host hc ?unmapped,
      fun hm haddr hguard hbands hwrite => memoryCycle_host hc ?guarded,
      fun hm haddr hfree => memoryCycle_host hc ?passed,
      fun hm => memoryCycle_host hc ?waits,
      fun _ hstage => attentionRead_host hc hstage addr,
      exec_attentionCycle_write hc addr⟩⟩
  case released =>
    rw [exec_commandWordWrite, exec_reportWordWrite, writeCommandWord_of_released h,
      writeReportWord_of_released h]
    exact ⟨rfl, rfl⟩
  case held =>
    rw [exec_commandWordWrite, exec_reportWordWrite, writeCommandWord_of_held h, writeReportWord_of_held h]
    exact ⟨rfl, rfl⟩
  case unmapped =>
    rw [judgeCycle_of_unmapped (withCycle_cycle _ w) rfl hm haddr]
    simp only [State.withCycle, hc]
  case guarded =>
    rw [judgeCycle_of_guarded (withCycle_cycle _ w) rfl hm haddr hguard hbands hwrite]
    simp only [State.withCycle, hc]
  case passed => rw [judgeCycle_of_passed (withCycle_cycle _ w) rfl hm haddr hfree]; rfl
  case waits => rw [judgeCycle_of_idle (s := s.withCycle _ w) (.inr hm)]; rfl

end Sys2Proof.Machine
end

section
/-! PROOFS. STATUS QUERY and CLEAR FLAGS (10 R190, R192): the flags of a block as bits, and what clearing them leaves. -/

namespace Sys2Proof.Machine

/-! ## Flags as bits (10 R190) -/

/-- Flags as the bits of a field, the first one lowest. -/
def flagBits : List Bool → Nat
  | [] => 0
  | f :: fs => flag f 1 + 2 * flagBits fs

theorem bitOf_zero_right (n : Nat) : bitOf n 0 = (n % 2 == 1) := by simp [bitOf]

theorem bitOf_succ (n i : Nat) : bitOf n (i + 1) = bitOf (n / 2) i := by
  simp only [bitOf, Nat.pow_succ, Nat.div_div_eq_div_mul, Nat.mul_comm]

theorem bitOf_flagBits (fs : List Bool) (i : Nat) : bitOf (flagBits fs) i = fs.getD i false := by
  induction fs generalizing i with
  | nil => simp [flagBits, bitOf]
  | cons f fs ih =>
    cases i with
    | zero =>
      rw [bitOf_zero_right]
      cases f <;> simp [flagBits, flag, Nat.add_mod]
    | succ i =>
      have hhalf : (flag f 1 + 2 * flagBits fs) / 2 = flagBits fs := by
        have hle := flag_le f 1
        omega
      rw [flagBits, bitOf_succ, hhalf, ih, List.getD_cons_succ]

/-- The flags of a block in the order of their bits (11 section 11.2). -/
def State.flagsOf (s : State) (b : Nat) : List Bool :=
  match b with
  | 0 => [s.recUnit.badKind, s.recUnit.badAddress, s.recUnit.stall]
  | 1 => [s.page.staleRef]
  | 2 => [s.chans.scan.chainFault]
  | 3 => [s.chans.print.chainFault]
  | 4 => [s.chans.codeOut.chainFault]
  | 5 => [s.chans.codeIn.chainFault]
  | 6 => [s.motors.haltedByAction]
  | 7 => [s.sensor.merged]
  | 8 => [s.coder.unsolicited, s.coder.frameError, s.coder.badLines]
  | 10 =>
    [s.boot.romBlank, s.boot.romInvalid, s.boot.romChecksum, s.boot.romSkipped, s.boot.storeFail]
  | 11 => [s.host.unmapped, s.host.guardDrop]
  | _ => []

section
variable (s : State) {b d : Nat} (m : Nat)

theorem blockFlags_eq (b : Nat) : s.blockFlags b = flagBits (s.flagsOf b) := by
  have hbit (f : Bool) (n : Nat) : 2 * flag f n = flag f (2 * n) := by cases f <;> rfl
  unfold State.blockFlags State.flagsOf
  split <;> simp only [flagBits, Nat.mul_add, hbit, Nat.mul_zero, Nat.add_zero, Nat.add_assoc, Nat.reduceMul]

/-! ## Clearing flags (10 R192) -/

theorem clearBlock_flagsOf (hb : b ≤ 11) :
    (s.clearBlock b m).flagsOf b = (s.flagsOf b).mapIdx (keepFlag m) := by
  interval_cases b <;> rfl

/-- Exactly the named flags of the block are cleared. -/
theorem clearBlock_bit (hb : b ≤ 11) (i : Nat) :
    bitOf ((s.clearBlock b m).blockFlags b) i = (bitOf (s.blockFlags b) i && !bitOf m i) := by
  rw [blockFlags_eq, blockFlags_eq, bitOf_flagBits, bitOf_flagBits, clearBlock_flagsOf s m hb,
    List.getD_eq_getElem?_getD, List.getD_eq_getElem?_getD, List.getElem?_mapIdx]
  cases (s.flagsOf b)[i]? <;> rfl

/-- The flags of the other blocks stay. -/
theorem clearBlock_flagsOf_of_ne (hb : b ≤ 11) (hd : d ≤ 11) (hne : d ≠ b) :
    (s.clearBlock b m).flagsOf d = s.flagsOf d := by
  interval_cases b <;> interval_cases d <;> first | rfl | exact absurd rfl hne

theorem clearBlock_blockState (hb : b ≤ 11) : (s.clearBlock b m).blockState d = s.blockState d := by
  interval_cases b <;> rfl

theorem clearBlock_blockCounters (hb : b ≤ 11) :
    (s.clearBlock b m).blockCounters d = s.blockCounters d := by
  interval_cases b <;> rfl

/-- Of every block only its flags are changed. -/
structure FlagsAlone (s u : State) : Prop where
  mem : u.mem = s.mem
  port : u.port = s.port
  eeprom : u.eeprom = s.eeprom
  power : u.power = s.power
  scan : u.scan = s.scan
  print : u.print = s.print
  page : u.page = { s.page with staleRef := u.page.staleRef }
  motors : u.motors = { s.motors with haltedByAction := u.motors.haltedByAction }
  sensor : u.sensor = { s.sensor with merged := u.sensor.merged }
  recUnit : u.recUnit = { s.recUnit with
    badKind := u.recUnit.badKind, badAddress := u.recUnit.badAddress, stall := u.recUnit.stall }
  coder : u.coder = { s.coder with
    unsolicited := u.coder.unsolicited, frameError := u.coder.frameError, badLines := u.coder.badLines }
  boot : u.boot = { s.boot with
    romBlank := u.boot.romBlank, romInvalid := u.boot.romInvalid, romChecksum := u.boot.romChecksum
    romSkipped := u.boot.romSkipped, storeFail := u.boot.storeFail }
  host : u.host = { s.host with unmapped := u.host.unmapped, guardDrop := u.host.guardDrop }
  chan : ∀ ch, u.chan ch = { s.chan ch with chainFault := (u.chan ch).chainFault }

theorem clearBlock_flagsAlone (hb : b ≤ 11) : FlagsAlone s (s.clearBlock b m) := by
  interval_cases b
  all_goals
    refine ⟨rfl, rfl, rfl, rfl, rfl, rfl, rfl, rfl, rfl, rfl, rfl, rfl, rfl, fun ch => ?_⟩
    cases ch <;> rfl

end

/-! ## The two commands (10 R190, R192) -/

section
variable {s : State} {bs : List Byte}

theorem exec_statusQuery (h : InHand s 16 bs) :
    exec .statusQuery s = .next (State.settle s.statusCommand) := runIf_of (cmdIs_of_inHand h _) s _

theorem exec_clearFlags (h : InHand s 17 bs) :
    exec .clearFlags s = .next (State.settle s.clearCommand) := runIf_of (cmdIs_of_inHand h _) s _

variable (h : s.cmdBytes = bs)
include h

theorem statusCommand_badTarget (hb : 11 < wordAt bs 4) : s.statusCommand = s.refuse .badTarget := by
  subst h
  exact if_pos hb

theorem statusCommand_of_block (hb : wordAt bs 4 ≤ 11) :
    s.statusCommand = s.complete .done (s.statusRecord (wordAt bs 4)) := by
  subst h
  exact if_neg (Nat.not_lt_of_le hb)

theorem clearCommand_badTarget (hb : 11 < wordAt bs 4) : s.clearCommand = s.refuse .badTarget := by
  subst h
  exact if_pos hb

theorem clearCommand_of_block (hb : wordAt bs 4 ≤ 11) :
    s.clearCommand = (s.clearBlock (wordAt bs 4) (wordAt bs 6)).complete .done
      [(s.clearBlock (wordAt bs 4) (wordAt bs 6)).blockFlags (wordAt bs 4)] := by
  subst h
  exact if_neg (Nat.not_lt_of_le hb)

end

/-- Settles O38: the two commands, and the state, the flags and the counters of each block. -/
theorem statusIsReportedAndFlagsAreCleared : Obligations.StatusIsReportedAndFlagsAreCleared := by
  refine ⟨fun s bs hin => ?status, fun s bs hin => ?clear, fun s => ?states, ?codes, fun s => ?flags,
    fun s => ?counters⟩
  case status =>
    rw [exec_statusQuery hin]
    have hbytes := cmdBytes_of_inHand hin
    exact ⟨fun hb => by rw [statusCommand_badTarget hbytes hb],
      fun hb => by rw [statusCommand_of_block hbytes hb]; rfl⟩
  case clear =>
    rw [exec_clearFlags hin]
    have hbytes := cmdBytes_of_inHand hin
    refine ⟨fun hb => by rw [clearCommand_badTarget hbytes hb], fun hb =>
      ⟨_, by rw [clearCommand_of_block hbytes hb], clearBlock_bit s _ hb, fun d hd hne => ?_,
        fun d _ => ⟨clearBlock_blockState s _ hb, clearBlock_blockCounters s _ hb⟩, ?_⟩⟩
    · rw [blockFlags_eq, blockFlags_eq, clearBlock_flagsOf_of_ne s _ hb hd hne]
    · have hflags := clearBlock_flagsAlone s (wordAt bs 6) hb
      exact ⟨hflags.mem, hflags.port, hflags.eeprom, hflags.power, hflags.scan, hflags.print, hflags.page,
        hflags.motors, hflags.sensor, hflags.recUnit, hflags.coder, hflags.boot, hflags.host, hflags.chan⟩
  case states => exact ⟨rfl, rfl, fun ch => by cases ch <;> rfl, rfl, rfl, rfl, rfl, rfl, rfl⟩
  case codes => exact ⟨rfl, rfl, rfl, fun w => rfl, rfl, rfl, rfl, rfl, rfl, rfl⟩
  case flags => exact ⟨rfl, rfl, fun ch => by cases ch <;> rfl, rfl, rfl, rfl, rfl, rfl, rfl⟩
  case counters =>
    exact ⟨rfl, rfl, fun ch => by cases ch <;> rfl, rfl, rfl, rfl, rfl, rfl, rfl⟩

end Sys2Proof.Machine
end


section
/-! PROOFS. The post of a report (10 R186; 02 R28, R33): what the end of an entry that a notice brings leaves as it
is. -/

namespace Sys2Proof.Machine

/-! ## Line work that is cut (01 R22) -/

section
variable {s : State} {ch : Channel}

/-- The burst in progress, if it is the channel's, gives up the grant. -/
def State.cutBusy (s : State) (ch : Channel) : State :=
  match s.port.busy with
  | some j =>
    if j.lineWork = some ch then
      (s.passWords j (s.drawBelow (s.wordsLeft j + 1))).drawn.dropGrant
    else s
  | none => s

/-- The suspended burst, if it is the channel's, goes no further. -/
def State.cutSuspended (s : State) (ch : Channel) : State :=
  match s.port.suspended with
  | some j =>
    if j.lineWork = some ch then
      { s with port := { s.port with suspended := none, done := 0, partialData := [] } }
    else s
  | none => s

theorem cutLineWork_eq : s.cutLineWork ch = (s.cutBusy ch).cutSuspended ch := rfl

theorem cutBusy_of_other (h : ∀ j, s.port.busy = some j → j.lineWork ≠ some ch) : s.cutBusy ch = s := by
  unfold State.cutBusy
  split
  next j hj => exact if_neg (h j hj)
  next => rfl

theorem cutBusy_of_own {j : Job} (hb : s.port.busy = some j) (h : j.lineWork = some ch) :
    s.cutBusy ch = (s.passWords j (s.drawBelow (s.wordsLeft j + 1))).drawn.dropGrant := by
  simp only [State.cutBusy, hb]
  exact if_pos h

theorem cutSuspended_of_other (h : ∀ j, s.port.suspended = some j → j.lineWork ≠ some ch) :
    s.cutSuspended ch = s := by
  unfold State.cutSuspended
  split
  next j hj => exact if_neg (h j hj)
  next => rfl

theorem cutSuspended_of_own {j : Job} (hs : s.port.suspended = some j) (h : j.lineWork = some ch) :
    s.cutSuspended ch =
      { s with port := { s.port with suspended := none, done := 0, partialData := [] } } := by
  simp only [State.cutSuspended, hs]
  exact if_pos h

theorem cutSuspended_busy : (s.cutSuspended ch).port.busy = s.port.busy := by
  unfold State.cutSuspended
  split
  · split <;> rfl
  · rfl

theorem cutSuspended_mem : (s.cutSuspended ch).mem = s.mem := by
  unfold State.cutSuspended
  split
  · split <;> rfl
  · rfl

/-- With no burst of the channel in progress the memory stays, and so does the grant. -/
theorem cutLineWork_of_other (h : ∀ j, s.port.busy = some j → j.lineWork ≠ some ch) :
    (s.cutLineWork ch).mem = s.mem ∧ (s.cutLineWork ch).port.busy = s.port.busy := by
  rw [cutLineWork_eq, cutBusy_of_other h]
  exact ⟨cutSuspended_mem, cutSuspended_busy⟩

end

/-! ## What the abort steps and the end of an entry leave as it is -/

/-- `t` has the record unit, the EEPROM, the power unit and the geometry of `s`, and without a grant in progress its
memory. -/
structure RecordsStand (s t : State) : Prop where
  recUnit : t.recUnit = s.recUnit
  eeprom : t.eeprom = s.eeprom
  power : t.power = s.power
  geo : t.page.geo = s.page.geo
  idle : s.port.busy = none → t.mem = s.mem ∧ t.port.busy = none

section
variable {s t u : State} {ch : Channel}

theorem RecordsStand.refl (s : State) : RecordsStand s s := ⟨rfl, rfl, rfl, rfl, fun h => ⟨rfl, h⟩⟩

theorem RecordsStand.trans (h : RecordsStand s t) (k : RecordsStand t u) : RecordsStand s u where
  recUnit := k.recUnit.trans h.recUnit
  eeprom := k.eeprom.trans h.eeprom
  power := k.power.trans h.power
  geo := k.geo.trans h.geo
  idle hb := by
    obtain ⟨hmem, hbusy⟩ := h.idle hb
    obtain ⟨hmem', hbusy'⟩ := k.idle hbusy
    exact ⟨hmem'.trans hmem, hbusy'⟩

theorem RecordsStand.after (k : RecordsStand t u) (h : RecordsStand s t) : RecordsStand s u := h.trans k

/-- An operation that leaves record unit, memory and port, and all that `settle` keeps. -/
theorem RecordsStand.of_held (h : t.held = s.held) (hr : t.recUnit = s.recUnit) (hm : t.mem = s.mem)
    (hp : t.port = s.port) : RecordsStand s t where
  recUnit := hr
  eeprom := kept_eeprom (kept_of_held h)
  power := kept_power (kept_of_held h)
  geo := kept_geo (kept_of_held h)
  idle hb := ⟨hm, by rw [hp, hb]⟩

theorem setChan_stands (ch : Channel) (c : Chan) : RecordsStand s (s.setChan ch c) :=
  ⟨rfl, rfl, rfl, rfl, fun h => ⟨rfl, h⟩⟩

theorem cutLineWork_stands : RecordsStand s (s.cutLineWork ch) where
  recUnit := cutLineWork_recUnit s ch
  eeprom := cutLineWork_eeprom s ch
  power := cutLineWork_power s ch
  geo := by rw [cutLineWork_page]
  idle hb := by
    obtain ⟨hmem, hbusy⟩ := cutLineWork_of_other (s := s) (ch := ch) fun j hj => by simp [hb] at hj
    exact ⟨hmem, hbusy.trans hb⟩

theorem clearPath_stands : RecordsStand s (s.clearPath ch) := by
  have hsame {t : State} (c : CoderLink) : RecordsStand t { t with coder := c } :=
    ⟨rfl, rfl, rfl, rfl, fun h => ⟨rfl, h⟩⟩
  cases ch
  · exact cutLineWork_stands.trans ⟨rfl, rfl, rfl, rfl, fun h => ⟨rfl, h⟩⟩
  · exact cutLineWork_stands.trans ⟨rfl, rfl, rfl, rfl, fun h => ⟨rfl, h⟩⟩
  · simp only [State.clearPath, State.clearCodeOut]
    split
    · exact cutLineWork_stands.trans (hsame _)
    · exact cutLineWork_stands
  · simp only [State.clearPath, State.clearCodeIn]
    split
    · exact .refl s
    · exact hsame _
    · exact hsame _
    · exact cutLineWork_stands.trans (hsame _)
    · exact .refl s

theorem dropPage_stands : RecordsStand s (s.dropPage ch) := by
  unfold State.dropPage
  split
  · exact .refl s
  split
  · exact .of_held (completePage_held s _ _) (by simp) (by simp) (by simp)
  · exact .of_held (leave_held s _ _ _) (by simp) (by simp) (by simp)

theorem dropLink_stands : RecordsStand s (s.dropLink ch) := by
  unfold State.dropLink
  split
  · exact .of_held (unlinkMotor_held s _) (by simp) (by simp) (by simp)
  · exact .refl s

theorem postFinal_stands (n : Notice) : RecordsStand s (s.postFinal ch n) := by
  unfold State.postFinal
  split
  · exact ⟨rfl, rfl, rfl, rfl, fun h => ⟨rfl, h⟩⟩
  · exact setChan_stands ch _

theorem abortSteps_stands : RecordsStand s (s.abortSteps ch) :=
  (dropPage_stands.trans (dropLink_stands.trans clearPath_stands)).trans
    ⟨rfl, rfl, rfl, rfl, fun h => ⟨rfl, h⟩⟩

theorem faultEntry_stands (code : FaultCode) : RecordsStand s (s.faultEntry ch code) :=
  abortSteps_stands.trans ((setChan_stands ch _).trans (postFinal_stands _))

theorem edgeAtStart_stands (o : Option EdgeOption) : RecordsStand s (s.edgeAtStart ch o) := by
  unfold State.edgeAtStart
  split
  · split
    · exact setChan_stands ch _
    · exact .refl s
  · exact .refl s

theorem takeCount_stands (n : Nat) (o : Option EdgeOption) (b : Nat) :
    RecordsStand s (s.takeCount ch n o b) := by
  unfold State.takeCount
  dsimp only
  split
  · exact .after (edgeAtStart_stands o) ⟨rfl, rfl, rfl, rfl, fun h => ⟨rfl, h⟩⟩
  · exact .after (edgeAtStart_stands o) (setChan_stands ch _)

theorem beginLines_stands (n : Nat) (o : Option EdgeOption) (b : Nat) :
    RecordsStand s (s.beginLines ch n o b) := by
  unfold State.beginLines
  split
  · exact faultEntry_stands _
  split
  · exact faultEntry_stands _
  split
  · exact faultEntry_stands _
  · exact takeCount_stands n o b

theorem endEntry_stands : RecordsStand s (s.endEntry ch) := by
  unfold State.endEntry
  dsimp only
  split
  · split
    · split
      · exact (setChan_stands ch _).trans (beginLines_stands _ _ _)
      · exact setChan_stands ch _
    · exact setChan_stands ch _
  · exact setChan_stands ch _

theorem endPosted_stands : RecordsStand s (s.endPosted ch) := by
  unfold State.endPosted
  dsimp only
  split
  · exact endEntry_stands
  · exact .refl s

theorem noticePosted_stands (final : Bool) : RecordsStand s (s.noticePosted ch final) := by
  unfold State.noticePosted
  dsimp only
  split
  · exact setChan_stands ch _
  split
  · exact setChan_stands ch _
  · exact (setChan_stands ch _).trans endPosted_stands

/-- A post leaves the record unit but for a completion, and always the memory behind the grant that has ended. -/
theorem posted_stands {who : Producer} (h : who ≠ .completion) : RecordsStand s (s.posted who) := by
  cases who with
  | completion => exact absurd rfl h
  | notice ch final => exact noticePosted_stands final
  | event => exact ⟨rfl, rfl, rfl, rfl, fun h => ⟨rfl, h⟩⟩
  | boot => exact ⟨rfl, rfl, rfl, rfl, fun h => ⟨rfl, h⟩⟩

end

end Sys2Proof.Machine
end

section
/-! PROOFS. Reports and index words in memory (10 R181, R182, R186), and what their post does (02 R28, R33). -/

namespace Sys2Proof.Machine

/-! ## REPORT_WRITE_END (10 R186) -/

section
variable {s : State} {w : Writing} {ch : Channel}

theorem exec_reportWriteEnd (hw : s.recUnit.writing = some w) (hb : s.port.busy = some .reportWrite) :
    exec .reportWriteEnd s = .next (State.settle ((s.advanceProducer w).posted w.who)) := by
  change execReportWriteEnd s = _
  simp only [execReportWriteEnd, hw]
  exact runIf_of (by rw [hb]; rfl) s _

/-- The parts of the block that no report concerns, and the ring, behind the post of any report. -/
structure ReportStands (s e : State) (w : Writing) : Prop where
  mem : e.mem = Memory.writeBytes s.mem (s.page.geo.repBase + 16 * s.recUnit.producer) w.bytes
  producer : e.recUnit.producer = (s.recUnit.producer + 1) % s.page.geo.repSize
  posted : e.recUnit.posted = s.recUnit.posted + 1
  producerAsk : e.recUnit.producerAsk = true
  writing : e.recUnit.writing = none
  eeprom : e.eeprom = s.eeprom
  power : e.power = s.releasePort.power
  geo : e.page.geo = s.page.geo

theorem advanceProducer_stands : ReportStands s (s.advanceProducer w) w :=
  ⟨rfl, rfl, rfl, rfl, rfl, releasePort_eeprom s, rfl, congrArg PageMem.geo (releasePort_page s)⟩

theorem advanceProducer_busy : (s.advanceProducer w).port.busy = none := releasePort_busy s

theorem posted_reportStands : ReportStands s ((s.advanceProducer w).posted w.who) w := by
  have hs : ReportStands s (s.advanceProducer w) w := advanceProducer_stands
  by_cases hwho : w.who = .completion
  · rw [hwho]
    exact ⟨hs.mem, hs.producer, hs.posted, hs.producerAsk, hs.writing, hs.eeprom, hs.power, hs.geo⟩
  · have hp : RecordsStand (s.advanceProducer w) _ := posted_stands hwho
    obtain ⟨hmem, -⟩ := hp.idle advanceProducer_busy
    exact ⟨hmem.trans hs.mem, by rw [hp.recUnit, hs.producer], by rw [hp.recUnit, hs.posted],
      by rw [hp.recUnit, hs.producerAsk], by rw [hp.recUnit, hs.writing], hp.eeprom.trans hs.eeprom,
      hp.power.trans hs.power, hp.geo.trans hs.geo⟩

theorem advanceProducer_chans : (s.advanceProducer w).chans = s.chans := releasePort_chans s

@[simp] theorem advanceProducer_chan : (s.advanceProducer w).chan ch = s.chan ch := releasePort_chan s ch

/-- The notice posted is the first of those of its channel, and is counted. -/
def Chan.noticeGone (c : Chan) : Chan := { c with notices := c.notices.drop 1, posted := c.posted + 1 }

theorem noticePosted_final : s.noticePosted ch true = s.setChan ch
    { (s.chan ch).noticeGone with
      state := .idle, current := none, next := none, fetch := none, phase := .fresh
      remaining := 0, pauseReq := none } := rfl

theorem noticePosted_more (h : (s.chan ch).noticeGone.notices ≠ []) :
    s.noticePosted ch false = s.setChan ch (s.chan ch).noticeGone := if_pos h

theorem noticePosted_last (h : (s.chan ch).noticeGone.notices = []) : s.noticePosted ch false =
    (s.setChan ch { (s.chan ch).noticeGone with state := (s.chan ch).afterReport }).endPosted ch :=
  if_neg (not_not_intro h)

theorem endPosted_due (hp : (s.chan ch).phase = .ending) (hn : (s.chan ch).notices = [])
    (hr : (s.chan ch).pauseReq = none) (hs : (s.chan ch).state ≠ .paused) :
    s.endPosted ch = s.endEntry ch := if_pos ⟨hp, hn, hr, hs⟩

theorem endPosted_not_due (h : (s.chan ch).phase ≠ .ending ∨ (s.chan ch).pauseReq ≠ none ∨
    (s.chan ch).state = .paused) : s.endPosted ch = s := by
  refine if_neg ?_
  rintro ⟨hp, -, hr, hs⟩
  rcases h with h | h | h
  · exact h hp
  · exact h hr
  · exact hs h

theorem afterReport_eq_paused {c : Chan} : c.afterReport = .paused ↔ c.state = .paused := by
  unfold Chan.afterReport
  split
  next h => simp [h.1]
  next => rfl

theorem noticePosted_posted (final : Bool) :
    ((s.noticePosted ch final).chan ch).posted = (s.chan ch).posted + 1 := by
  cases final
  case true => rw [noticePosted_final, chan_setChan_self]; rfl
  case false =>
    by_cases h : (s.chan ch).noticeGone.notices = []
    · have hkept {t : State} : ((t.endPosted ch).chan ch).posted = (t.chan ch).posted := by
        unfold State.endPosted
        dsimp only
        split
        · exact congrArg KeptChan.posted (kept_chan (kept_of_held (endEntry_held t ch)) ch)
        · rfl
      rw [noticePosted_last h, hkept, chan_setChan_self]
      rfl
    · rw [noticePosted_more h, chan_setChan_self]
      rfl

/-! ## The index words (10 R182, R186) -/

theorem exec_producerIndexWriteEnd {v : Nat} (hb : s.port.busy = some (.producerWord v)) :
    exec .producerIndexWriteEnd s = .next (State.settle
      { s.writeWord (s.page.geo.idxBase + 2) v with boot :=
        { s.boot with ready := if s.boot.ready = .producerWord then .consumerWord else s.boot.ready } }) := by
  change execProducerIndexWriteEnd s = _
  simp only [execProducerIndexWriteEnd, hb, State.writeWord, releasePort_boot]
  exact runIf_of rfl s _

theorem exec_consumerIndexWriteEnd {v : Nat} (hb : s.port.busy = some (.consumerWord v)) :
    exec .consumerIndexWriteEnd s = .next (State.settle
      (if s.boot.ready = .consumerWord then
        { s.writeWord s.page.geo.idxBase v with boot := { s.boot with ready := .release } }
      else { s.writeWord s.page.geo.idxBase v with recUnit := { s.recUnit with state := .waiting } })) := by
  change execConsumerIndexWriteEnd s = _
  simp only [execConsumerIndexWriteEnd, hb, State.writeWord, releasePort_boot, releasePort_recUnit]
  split
  · exact runIf_of rfl s _
  · exact runIf_of rfl s _

/-- The two bytes of an index word stand, and no other byte changes. -/
theorem writeWord_mem (hm : MemoryOk s) (a v : Nat) :
    Memory.readBytes (s.writeWord a v).mem a 2 = le16 v ∧
      ∀ c, c < a ∨ a + 2 ≤ c → Memory.read (s.writeWord a v).mem c = Memory.read s.mem c :=
  ⟨Memory.readBytes_writeBytes (le16 v) a hm, fun c => Memory.read_writeBytes_outside (le16 v) a c hm⟩

theorem rptn_eq_false : s.rptn = false ↔ s.boot.stage = .ready ∧ s.recUnit.producer ≠ s.host.consumer := by
  simp [State.rptn]

end

/-! ## The 16 bytes of the reports (11 sections 11.2, 11.4) -/

/-- The low byte and the high byte of a value that fits a 16-bit field. -/
theorem le16_small {n : Nat} (h : n < 65536) :
    (BitVec.ofNat 8 n).toNat + 256 * (BitVec.ofNat 8 (n / 256)).toNat = n :=
  (le16_value n).trans (Nat.mod_eq_of_lt h)

section
variable (c : Completion)

theorem completionBytes_length : c.bytes.length = 16 := rfl

theorem completionBytes_code : byteAt c.bytes 4 = c.code.code := by
  change (BitVec.ofNat 8 c.code.code).toNat = _
  cases c.code <;> rfl

theorem completionBytes_result {i : Nat} (h : i < 4) :
    wordAt c.bytes (8 + 2 * i) = c.result.getD i 0 % 65536 := by
  interval_cases i
  · exact le16_value (c.result.getD 0 0)
  · exact le16_value (c.result.getD 1 0)
  · exact le16_value (c.result.getD 2 0)
  · exact le16_value (c.result.getD 3 0)

end

section
variable (ch : Channel) (c : Chan) (n : Notice) (addr left : Nat) (body : NoticeBody)

theorem pageBytes_length (p : Option PageRef) : (pageBytes p).length = 2 := by cases p <;> rfl

theorem noticeData_length : (body.data addr left).length = 10 := by cases body <;> rfl

theorem noticeBytes_length : (n.bytes ch c).length = 16 := by
  simp only [Notice.bytes, List.length_append, noticeData_length, pageBytes_length]
  rfl

theorem noticeBytes_channel : byteAt (n.bytes ch c) 1 = chanNumber ch := by
  change (BitVec.ofNat 8 (chanNumber ch)).toNat = _
  cases ch <;> rfl

theorem noticeBytes_code : wordAt (n.bytes ch c) 2 = n.body.code := by
  refine le16_small (n := n.body.code) ?_
  cases n.body <;> simp [NoticeBody.code]

theorem noticeBytes_noPage (h : n.page = none) :
    byteAt (n.bytes ch c) 4 = 255 ∧ byteAt (n.bytes ch c) 5 = 255 := by
  simp only [Notice.bytes, h]
  exact ⟨rfl, rfl⟩

theorem noticeBytes_page {p : PageRef} (h : n.page = some p) :
    byteAt (n.bytes ch c) 4 = p.slot.val ∧ byteAt (n.bytes ch c) 5 = p.gen % 256 := by
  simp only [Notice.bytes, h]
  exact ⟨flags_byte (by omega), BitVec.toNat_ofNat ..⟩

/-- Behind the page come the data bytes. -/
theorem noticeBytes_data (i : Nat) :
    wordAt (n.bytes ch c) (6 + i) = wordAt (n.body.data c.entryAddr c.remaining) i := by
  have hpage : ∃ a b, pageBytes n.page = [a, b] := by cases n.page <;> exact ⟨_, _, rfl⟩
  obtain ⟨a, b, hab⟩ := hpage
  simp only [Notice.bytes, hab]
  simp [wordAt, byteAt, le16, Nat.add_comm 6]

/-- The five words of data, each the low 16 bits of a value. -/
theorem noticeBytes_words {u v x y z : Nat}
    (h : n.body.data c.entryAddr c.remaining = le16 u ++ le16 v ++ le16 x ++ le16 y ++ le16 z) :
    wordAt (n.bytes ch c) 6 = u % 65536 ∧ wordAt (n.bytes ch c) 8 = v % 65536 ∧
      wordAt (n.bytes ch c) 10 = x % 65536 ∧ wordAt (n.bytes ch c) 12 = y % 65536 ∧
      wordAt (n.bytes ch c) 14 = z % 65536 := by
  rw [noticeBytes_data ch c n 0, noticeBytes_data ch c n 2, noticeBytes_data ch c n 4,
    noticeBytes_data ch c n 6, noticeBytes_data ch c n 8, h]
  exact ⟨le16_value u, le16_value v, le16_value x, le16_value y, le16_value z⟩

end

section
variable (i : Fin 24) (priority : Nat) (e : PendingEvent)

theorem eventBytes_source : byteAt (eventBytes i priority e) 1 = i.val := flags_byte (by omega)

theorem eventBytes_kind : wordAt (eventBytes i priority e) 2 = e.kind.code := by
  refine le16_small (n := e.kind.code) ?_
  cases e.kind <;> simp [EventKind.code]

theorem eventBytes_repeated :
    byteAt (eventBytes i priority e) 5 = if e.repeated then 1 else 0 := by
  change (if e.repeated then (1 : Byte) else 0).toNat = _
  cases e.repeated <;> rfl

theorem reasonBytes_length (r : MotorReason) : r.bytes.length = 2 := by
  rcases r with _ | _ | _ | _ <;> rfl

theorem eventData_length (d : EventData) : d.bytes.length = 10 := by
  cases d with
  | motor p r =>
    simp only [EventData.bytes, List.length_append, reasonBytes_length]
    rfl
  | level h => rfl
  | word v => rfl
  | abandoned sleep c => rfl

theorem eventBytes_length : (eventBytes i priority e).length = 16 := by
  simp only [eventBytes, List.length_append, eventData_length]
  rfl

/-- A signed position is read back modulo the 32-bit range. -/
theorem positionBytes_value (p : Int) (bs : List Byte) :
    (dwordAt (positionBytes p ++ bs) 0 : Int) = p % 4294967296 := by
  have hlow : wordAt (positionBytes p ++ bs) 0 = (p % 4294967296).toNat % 65536 := le16_value _
  have hhigh : wordAt (positionBytes p ++ bs) 2 = (p % 4294967296).toNat / 65536 % 65536 := le16_value _
  rw [dwordAt, hlow, hhigh]
  omega

section
variable {i : Fin 24} {priority : Nat} {e : PendingEvent}

theorem eventBytes_level {h : Bool} (hd : e.data = .level h) :
    wordAt (eventBytes i priority e) 6 = (if h then 1 else 0) ∧
      (eventBytes i priority e).drop 8 = List.replicate 8 0 := by
  simp only [eventBytes, hd]
  cases h <;> exact ⟨rfl, rfl⟩

theorem eventBytes_word {v : Nat} (hd : e.data = .word v) :
    wordAt (eventBytes i priority e) 6 = v % 65536 ∧
      (eventBytes i priority e).drop 8 = List.replicate 8 0 := by
  simp only [eventBytes, hd]
  exact ⟨le16_value v, rfl⟩

theorem eventBytes_abandoned {sleep : Bool} {c : Nat} (hd : e.data = .abandoned sleep c) :
    byteAt (eventBytes i priority e) 6 = (if sleep then 3 else 2) ∧
      byteAt (eventBytes i priority e) 7 = c % 256 ∧
      (eventBytes i priority e).drop 8 = List.replicate 8 0 := by
  simp only [eventBytes, hd]
  refine ⟨?_, BitVec.toNat_ofNat .., rfl⟩
  cases sleep <;> rfl

/-- A motor event: the position, the reason and the line, and four bytes of 0. -/
theorem eventBytes_motor {p : Int} {r : MotorReason} (hd : e.data = .motor p r) :
    (dwordAt (eventBytes i priority e) 6 : Int) = p % 4294967296 ∧
      (eventBytes i priority e).drop 10 = r.bytes ++ le32 0 := by
  simp only [eventBytes, hd]
  exact ⟨positionBytes_value p (r.bytes ++ le32 0), rfl⟩

theorem byteAt_drop (bs : List Byte) (n i : Nat) : byteAt (bs.drop n) i = byteAt bs (n + i) := by
  simp [byteAt, List.getD_eq_getElem?_getD]

end

end

end Sys2Proof.Machine
end

section
/-! PROOFS. The reports, byte by byte and post by post: the statement (10 R181, R182, R186; 11 R196). -/

namespace Sys2Proof.Machine

theorem notice_fields (ch : Channel) (c : Chan) (n : Notice) :
    let bs := n.bytes ch c
    let fields := fun kind a b c d e : Nat =>
      wordAt bs 2 = kind ∧ wordAt bs 6 = a % 65536 ∧ wordAt bs 8 = b % 65536 ∧
        wordAt bs 10 = c % 65536 ∧ wordAt bs 12 = d % 65536 ∧ wordAt bs 14 = e % 65536
    (n.body = .pageOpened → fields 1 0 0 0 0 0) ∧
    (∀ k t c, n.body = .pageClosed k t c → fields 2 k (if t then 1 else 0) c 0 0) ∧
    (∀ k c, n.body = .readShort k c → fields 3 k c 0 0 0) ∧
    (∀ l, n.body = .pageLimit l → fields 4 l 0 0 0 0) ∧
    (∀ v k, n.body = .mark v k → fields 5 v k 0 0 0) ∧
    (n.body = .paused .command → fields 6 0xFFFF c.entryAddr (c.entryAddr / 65536) c.remaining 0) ∧
    (∀ g : Fin 16, n.body = .paused (.line g) →
      fields 6 g.val c.entryAddr (c.entryAddr / 65536) c.remaining 0) ∧
    (∀ f a, n.body = .chainEnd f a → fields 7 (if f then 1 else 0) a (a / 65536) 0 0) ∧
    (∀ c a, n.body = .chainFault c a → fields 8 c.code a (a / 65536) 0 0) := by
  intro bs fields
  have hfields {kind u v x y z : Nat} (hkind : n.body.code = kind)
      (hd : n.body.data c.entryAddr c.remaining = le16 u ++ le16 v ++ le16 x ++ le16 y ++ le16 z) :
      fields kind u v x y z := ⟨(noticeBytes_code ch c n).trans hkind, noticeBytes_words ch c n hd⟩
  refine ⟨fun h => ?_, fun k t c h => ?_, fun k c h => ?_, fun l h => ?_, fun v k h => ?_, fun h => ?_,
    fun g h => ?_, fun f a h => ?_, fun c a h => ?_⟩
  all_goals exact hfields (by rw [h]; rfl) (by rw [h]; rfl)

section
variable {s : State} {w : Writing} {ch : Channel}

/-- What the post of a notice that is not final does. -/
theorem posted_notice (hwho : w.who = .notice ch false) :
    let e := (s.advanceProducer w).posted w.who
    let c := (s.chan ch).noticeGone
    let after : ChState := if c.state = .waiting .report ∧ c.pauseReq = none then .running else c.state
    (c.notices ≠ [] → e = (s.advanceProducer w).setChan ch c) ∧
    (c.notices = [] → c.phase ≠ .ending ∨ c.pauseReq ≠ none ∨ c.state = .paused →
      e = (s.advanceProducer w).setChan ch { c with state := after }) ∧
    (c.notices = [] → c.phase = .ending → c.pauseReq = none → c.state ≠ .paused →
      e = ((s.advanceProducer w).setChan ch { c with state := after }).endEntry ch ∧
        (c.atLines = false → e.chan ch = Chan.shift { c with state := after } s.page.geo)) := by
  intro e c after
  have he : e = (s.advanceProducer w).noticePosted ch false := by
    change (s.advanceProducer w).posted w.who = _
    rw [hwho]
    rfl
  have hchan : (s.advanceProducer w).chan ch = s.chan ch := advanceProducer_chan
  have hpaused : after = .paused ↔ c.state = .paused := afterReport_eq_paused (c := s.chan ch)
  rw [he]
  refine ⟨fun hmore => ?more, fun hlast hkeep => ?kept, fun hlast hphase hreq hstate => ?ends⟩
  case more => rw [noticePosted_more (by rwa [hchan]), hchan]
  all_goals
    have hpost : (s.advanceProducer w).noticePosted ch false =
        ((s.advanceProducer w).setChan ch { c with state := after }).endPosted ch := by
      rw [noticePosted_last (by rwa [hchan]), hchan]
      rfl
    rw [hpost]
  case kept =>
    refine endPosted_not_due ?_
    rw [chan_setChan_self]
    exact hkeep.imp_right (Or.imp_right hpaused.mpr)
  case ends =>
    rw [endPosted_due]
    · refine ⟨rfl, fun hlines => ?_⟩
      rw [endEntry_of_not_lines (by rw [chan_setChan_self]; exact hlines), chan_setChan_self,
        chan_setChan_self, setChan_page]
      exact congrArg (fun g => Chan.shift { c with state := after } g) (advanceProducer_stands (w := w)).geo
    all_goals rw [chan_setChan_self]
    · exact hphase
    · exact hlast
    · exact hreq
    · exact fun h => hstate (hpaused.mp h)

end

/-- Settles O22: the report in its ring entry and its post, the index words, and the bytes of every report. -/
theorem reportsAndIndexWordsAreWritten : Obligations.ReportsAndIndexWordsAreWritten := by
  refine ⟨fun s w hm hw hl hb => ?report, ⟨fun s v hm hb => ?producer, fun s v hm hb => ?consumer,
    fun s => rptn_eq_false⟩, ⟨fun c => ?completion, rfl⟩, ⟨fun ch c n => ?notice, rfl⟩,
    fun i priority e => ?event, rfl⟩
  case report =>
    have hs : ReportStands s ((s.advanceProducer w).posted w.who) w := posted_reportStands
    refine ⟨_, exec_reportWriteEnd hw hb, ?bytes, fun a ha => ?outside, hs.producer, hs.posted,
      hs.producerAsk, hs.writing, hs.eeprom, hs.power, hs.geo, fun hwho => ?ended, fun hwho => ?counted,
      fun ch hwho => ?final, fun ch hwho => ⟨?noticeCount, posted_notice hwho⟩, fun hwho => ?booted⟩
    case bytes => rw [hs.mem, ← hl]; exact Memory.readBytes_writeBytes w.bytes _ hm
    case outside => rw [hs.mem]; exact Memory.read_writeBytes_outside w.bytes _ a hm (by rwa [hl])
    case ended =>
      rw [hwho]
      refine ⟨?_, rfl, rfl, rfl, advanceProducer_chans (w := w), rfl⟩
      change (s.recUnit.consumer + 1) % (s.advanceProducer w).page.geo.cmdSize = _
      rw [advanceProducer_stands.geo]
    case counted =>
      rw [hwho]
      refine ⟨?_, advanceProducer_chans (w := w), rfl⟩
      change { s.releasePort.sensor with posted := s.releasePort.sensor.posted + 1 } = _
      rw [releasePort_sensor_but]
    case final =>
      have hpost : (s.advanceProducer w).posted w.who = (s.advanceProducer w).noticePosted ch true := by
        rw [hwho]
        rfl
      rw [hpost, noticePosted_final, advanceProducer_chan, chan_setChan_self]
      refine ⟨rfl, rfl, rfl, fun d hd => ?_⟩
      rw [chan_setChan_of_ne _ _ hd, advanceProducer_chan]
    case noticeCount => rw [hwho]; exact (noticePosted_posted false).trans (by rw [advanceProducer_chan])
    case booted =>
      rw [hwho]
      refine ⟨?_, advanceProducer_chans (w := w)⟩
      change { s.releasePort.boot with ready := .producerWord } = _
      rw [releasePort_boot]
  case producer =>
    have hmem := writeWord_mem hm (s.page.geo.idxBase + 2) v
    exact ⟨_, exec_producerIndexWriteEnd hb, hmem.1, hmem.2, rfl⟩
  case consumer =>
    obtain ⟨hin, hout⟩ := writeWord_mem hm s.page.geo.idxBase v
    refine ⟨_, exec_consumerIndexWriteEnd hb, ?_, ?_, fun hr => ?_, fun hr => ?_⟩
    · split <;> exact hin
    · split <;> exact hout
    · rw [if_pos hr]; rfl
    · rw [if_neg hr]; rfl
  case completion =>
    exact ⟨completionBytes_length c, rfl, BitVec.toNat_ofNat .., le16_value c.tag, completionBytes_code c,
      rfl, rfl, fun i => completionBytes_result c⟩
  case notice =>
    exact ⟨noticeBytes_length ch c n, rfl, noticeBytes_channel ch c n, noticeBytes_noPage ch c n,
      fun p => noticeBytes_page ch c n, notice_fields ch c n⟩
  case event =>
    refine ⟨eventBytes_length i priority e, rfl, eventBytes_source i priority e,
      eventBytes_kind i priority e, BitVec.toNat_ofNat .., eventBytes_repeated i priority e,
      fun h => eventBytes_level, fun v => eventBytes_word, fun sleep c => eventBytes_abandoned,
      fun p r hd => ?_⟩
    obtain ⟨hposition, htail⟩ := eventBytes_motor (i := i) (priority := priority) hd
    have hreason (n : Nat) : byteAt (eventBytes i priority e) (10 + n) = byteAt (r.bytes ++ le32 0) n := by
      rw [← byteAt_drop, htail]
    refine ⟨hposition, ?_, fun h => ?_, fun h => ?_, fun h => ?_, fun g h => ?_⟩
    · rw [← List.drop_drop (i := 2) (j := 10), htail, List.drop_left' (reasonBytes_length r)]
      rfl
    all_goals
      subst h
      rw [hreason 0, hreason 1]
    · exact ⟨rfl, rfl⟩
    · exact ⟨rfl, rfl⟩
    · exact ⟨rfl, rfl⟩
    · exact ⟨rfl, flags_byte (by omega)⟩

end Sys2Proof.Machine
end

section
/-! PROOFS. What the ring indices rest on (10 R180, R182, R186), and the operations that leave it: one lemma
`<operation>_rings` for each. -/

namespace Sys2Proof.Machine

/-- The stage of start-up, the geometry and the four indices. -/
structure Rings where
  stage : Stage
  geo : Geometry
  consumer : Nat
  producer : Nat
  hostProducer : Nat
  hostConsumer : Nat

/-- The stage of start-up, the geometry and the ring indices of a state. -/
def State.rings (s : State) : Rings :=
  { stage := s.boot.stage, geo := s.page.geo, consumer := s.recUnit.consumer
    producer := s.recUnit.producer, hostProducer := s.host.producer, hostConsumer := s.host.consumer }

theorem rings_of_kept {s t : State} (h : t.kept = s.kept) : t.rings = s.rings := by
  simp only [State.rings, kept_boot h, kept_geo h, kept_consumer h, kept_producer h, kept_hostProducer h,
    kept_hostConsumer h]

theorem rings_of_held {s t : State} (h : t.held = s.held) : t.rings = s.rings :=
  rings_of_kept (kept_of_held h)

variable (s : State)

@[simp] theorem settle_rings : s.settle.rings = s.rings := rings_of_kept (settle_kept s)

/-! ## Operations -/


@[simp] theorem setChan_rings (ch : Channel) (c : Chan) : (s.setChan ch c).rings = s.rings := rfl

@[simp] theorem setMotor_rings (m : MotorId) (x : Motor) : (s.setMotor m x).rings = s.rings := rfl

@[simp] theorem setSlot_rings (i : Fin 16) (p : Page) : (s.setSlot i p).rings = s.rings :=
  rings_of_held (setSlot_held ..)

@[simp] theorem setGate_rings (g : Fin 16) (x : Gateway) : (s.setGate g x).rings = s.rings := rfl

@[simp] theorem setSource_rings (i : Fin 24) (x : Source) : (s.setSource i x).rings = s.rings := rfl

@[simp] theorem setBuf_rings (b : BufId) (x : LineBuf) : (s.setBuf b x).rings = s.rings :=
  rings_of_held (setBuf_held ..)

@[simp] theorem raise_rings (i : Fin 24) (k : EventKind) (d : EventData) : (s.raise i k d).rings = s.rings :=
  rings_of_held (raise_held ..)

@[simp] theorem poolTest_rings : s.poolTest.rings = s.rings := rings_of_held (poolTest_held ..)

@[simp] theorem releaseTest_rings (i : Fin 16) : (s.releaseTest i).rings = s.rings :=
  rings_of_held (releaseTest_held ..)

@[simp] theorem freeBehind_rings (i : Fin 16) : (s.freeBehind i).rings = s.rings :=
  rings_of_held (freeBehind_held ..)

@[simp] theorem leave_rings (i : Fin 16) (ch : Channel) (r : Bool) : (s.leave i ch r).rings = s.rings :=
  rings_of_held (leave_held ..)

@[simp] theorem giveSlot_rings (i : Fin 16) (ch : Channel) (a b c : Bool) (n : Nat) :
    (s.giveSlot i ch a b c n).rings = s.rings :=
  rfl

@[simp] theorem assignLine_rings (i : Fin 16) (scan : Bool) : (s.assignLine i scan).1.rings = s.rings :=
  rings_of_held (assignLine_held ..)

@[simp] theorem storeLine_rings (i : Fin 16) : (s.storeLine i).rings = s.rings :=
  rings_of_held (storeLine_held ..)

@[simp] theorem closePage_rings (i : Fin 16) (cut : Bool) : (s.closePage i cut).rings = s.rings :=
  rings_of_held (closePage_held ..)

@[simp] theorem completePage_rings (i : Fin 16) (cut : Bool) : (s.completePage i cut).rings = s.rings :=
  rings_of_held (completePage_held ..)

@[simp] theorem afterDecision_rings (m : MotorId) (j : Option Nat) : (s.afterDecision m j).rings = s.rings :=
  rings_of_held (afterDecision_held ..)

@[simp] theorem reachRest_rings (m : MotorId) : (s.reachRest m).rings = s.rings := by
  unfold State.reachRest
  dsimp only
  split
  · rw [raise_rings]
    split <;> rfl
  · split <;> rfl

@[simp] theorem restDecision_rings (m : MotorId) : (s.restDecision m).rings = s.rings :=
  rings_of_held (restDecision_held ..)

@[simp] theorem haltMotor_rings (m : MotorId) (h : Halt) : (s.haltMotor m h).rings = s.rings := by
  unfold State.haltMotor
  dsimp only
  split
  · rfl
  · split
    · exact raise_rings _ _ _ _
    · rfl

@[simp] theorem actionHalt_rings (m : MotorId) (mode : HaltMode) (g : Fin 16) :
    (s.actionHalt m mode g).rings = s.rings :=
  haltMotor_rings s m _

@[simp] theorem unlinkMotor_rings (m : MotorId) : (s.unlinkMotor m).rings = s.rings :=
  rings_of_held (unlinkMotor_held ..)

@[simp] theorem shrinkFor_rings (ch : Channel) : (s.shrinkFor ch).rings = s.rings :=
  rings_of_held (shrinkFor_held ..)

@[simp] theorem freeBudget_rings (ch : Channel) : (s.freeBudget ch).rings = s.rings :=
  rings_of_held (freeBudget_held ..)

@[simp] theorem dropGrant_rings : s.dropGrant.rings = s.rings := rings_of_held (dropGrant_held ..)

@[simp] theorem afterGrant_rings : s.afterGrant.rings = s.rings := by
  unfold State.afterGrant
  split <;> rfl

@[simp] theorem releasePort_rings : s.releasePort.rings = s.rings := by
  simp [State.releasePort]

@[simp] theorem freePort_rings : s.freePort.rings = s.rings := afterGrant_rings _

@[simp] theorem endBurst_rings (j : Job) : (s.endBurst j).rings = s.rings := rings_of_held (endBurst_held ..)

@[simp] theorem cutLineWork_rings (ch : Channel) : (s.cutLineWork ch).rings = s.rings :=
  rings_of_held (cutLineWork_held ..)

@[simp] theorem notify_rings (ch : Channel) (n : Notice) : (s.notify ch n).rings = s.rings :=
  rings_of_held (notify_held ..)

@[simp] theorem notifyEnding_rings (ch : Channel) (n : Notice) : (s.notifyEnding ch n).rings = s.rings :=
  rings_of_held (notifyEnding_held ..)

@[simp] theorem postFinal_rings (ch : Channel) (n : Notice) : (s.postFinal ch n).rings = s.rings :=
  rings_of_held (postFinal_held ..)

@[simp] theorem abortSteps_rings (ch : Channel) : (s.abortSteps ch).rings = s.rings :=
  rings_of_held (abortSteps_held ..)

@[simp] theorem faultEntry_rings (ch : Channel) (code : FaultCode) : (s.faultEntry ch code).rings = s.rings :=
  rings_of_held (faultEntry_held ..)

@[simp] theorem beginLines_rings (ch : Channel) (n : Nat) (e : Option EdgeOption) (b : Nat) :
    (s.beginLines ch n e b).rings = s.rings :=
  rings_of_held (beginLines_held ..)

@[simp] theorem endEntry_rings (ch : Channel) : (s.endEntry ch).rings = s.rings :=
  rings_of_held (endEntry_held ..)

@[simp] theorem endIfDone_rings (ch : Channel) : (s.endIfDone ch).rings = s.rings :=
  rings_of_held (endIfDone_held ..)

@[simp] theorem endAtLimit_rings (ch : Channel) : (s.endAtLimit ch).rings = s.rings :=
  rings_of_held (endAtLimit_held ..)

@[simp] theorem limitIfFull_rings : s.limitIfFull.rings = s.rings := by
  unfold State.limitIfFull
  split <;> simp

@[simp] theorem select_rings (ch : Channel) (x : Selection) : (s.select ch x).rings = s.rings := by
  simp [State.select]

@[simp] theorem endTableWait_rings : s.endTableWait.rings = s.rings := by
  unfold State.endTableWait
  split <;> simp

@[simp] theorem countLine_rings (ch : Channel) : (s.countLine ch).rings = s.rings :=
  rings_of_held (countLine_held ..)

@[simp] theorem countMoved_rings (ch : Channel) : (s.countMoved ch).rings = s.rings := rfl

@[simp] theorem askPause_rings (ch : Channel) (cause : PauseCause) : (s.askPause ch cause).rings = s.rings :=
  rings_of_held (askPause_held ..)

@[simp] theorem truncateScan_rings : s.truncateScan.rings = s.rings := by
  unfold State.truncateScan
  split <;> simp

@[simp] theorem armBuffer_rings (b : BufId) (p : PageRef) (n a : Nat) (t : Bool) :
    (s.armBuffer b p n a t).rings = s.rings := by
  have hset := setBuf_rings s b
  unfold State.armBuffer
  dsimp only
  split
  · exact hset _
  · exact hset _

@[simp] theorem offerTrigger_rings : s.offerTrigger.rings = s.rings := by
  unfold State.offerTrigger
  dsimp only
  split
  · rfl
  next p _ =>
    have h := assignLine_rings s p.slot true
    split
    · split
      · simp
      · split
        · rfl
        · simp
        next heq =>
          rw [heq] at h
          split
          · simpa using h
          · split <;> simpa using h
    · simp

@[simp] theorem headLeaves_rings : s.headLeaves.rings = s.rings := rfl

@[simp] theorem groupDone_rings (m : MotorId) : (s.groupDone m).rings = s.rings := by
  unfold State.groupDone
  split <;> simp

@[simp] theorem countGroup_rings (m : MotorId) : (s.countGroup m).rings = s.rings := by
  unfold State.countGroup
  dsimp only
  repeat' split
  all_goals simp

@[simp] theorem commitOrRest_rings (m : MotorId) : (s.commitOrRest m).rings = s.rings := by
  unfold State.commitOrRest
  dsimp only
  split <;> simp

@[simp] theorem fallBudgets_rings (m : MotorId) : (s.fallBudgets m).rings = s.rings := rfl

@[simp] theorem issueStep_rings (m : MotorId) : (s.issueStep m).rings = s.rings := by
  unfold State.issueStep
  simp only [commitOrRest_rings, fallBudgets_rings, countGroup_rings]
  rfl

@[simp] theorem burnEnd_rings : s.burnEnd.rings = s.rings := by
  unfold State.burnEnd
  dsimp only
  split
  · exact notify_rings _ _ _
  · split
    · exact issueStep_rings _ _
    · rfl

@[simp] theorem complete_rings (c : ResultCode) (r : List Nat) : (s.complete c r).rings = s.rings := rfl

@[simp] theorem refuse_rings (c : ResultCode) : (s.refuse c).rings = s.rings := rfl

@[simp] theorem refuseRef_rings (a : RefAnswer) : (s.refuseRef a).rings = s.rings := by
  cases a <;> rfl

@[simp] theorem startWork_rings (w : Work) : (s.startWork w).rings = s.rings := rfl

@[simp] theorem leaveDoze_rings (k : Nat) : (s.leaveDoze k).rings = s.rings := by
  unfold State.leaveDoze
  split
  · exact raise_rings _ _ _ _
  · rfl

@[simp] theorem endPosted_rings (ch : Channel) : (s.endPosted ch).rings = s.rings := by
  unfold State.endPosted
  dsimp only
  split <;> simp

@[simp] theorem noticePosted_rings (ch : Channel) (f : Bool) : (s.noticePosted ch f).rings = s.rings := by
  unfold State.noticePosted
  dsimp only
  repeat' split
  all_goals simp

@[simp] theorem writeWord_rings (a v : Nat) : (s.writeWord a v).rings = s.rings := releasePort_rings s

@[simp] theorem askAbort_rings (ch : Channel) : (s.askAbort ch).rings = s.rings := by
  unfold State.askAbort
  dsimp only
  repeat' split
  all_goals simp

@[simp] theorem continueChain_rings (ch : Channel) : (s.continueChain ch).rings = s.rings := by
  simp [State.continueChain]

@[simp] theorem startMove_rings (m : MotorId) (d : Dir) (c : Nat) (n : Fin 4) (top : Nat) :
    (s.startMove m d c n top).rings = s.rings := by
  simp [State.startMove]

@[simp] theorem fillScan_rings (t : Table) (i : Nat) (ws : List Nat) :
    (s.fillScan t i ws).rings = s.rings := by
  cases t
  case shading b => cases b <;> rfl
  case tone b => cases b <;> rfl
  all_goals rfl

@[simp] theorem loadOn_rings (l : Load) : (s.loadOn l).rings = s.rings := by
  unfold State.loadOn
  split <;> simp

@[simp] theorem setRamp_rings (n : Fin 4) (t : List Nat) : (s.setRamp n t).rings = s.rings := rfl

@[simp] theorem recap_rings (n : Fin 4) : (s.recap n).rings = s.rings := by
  unfold State.recap
  split <;> rfl

@[simp] theorem replaceRamp_rings (n : Fin 4) (t : List Nat) : (s.replaceRamp n t).rings = s.rings :=
  recap_rings _ _

@[simp] theorem actHalts_rings (g : Fin 16) (c : GateCfg) (ms : List MotorId) :
    (s.actHalts g c ms).rings = s.rings := by
  induction ms generalizing s with
  | nil => rfl
  | cons m rest ih =>
    rw [State.actHalts, ih]
    split <;> simp

@[simp] theorem actPauses_rings (g : Fin 16) (c : GateCfg) (cs : List Channel) :
    (s.actPauses g c cs).rings = s.rings := by
  induction cs generalizing s with
  | nil => rfl
  | cons ch rest ih =>
    rw [State.actPauses, ih]
    split <;> simp

@[simp] theorem startWake_rings (c : WakeCause) : (s.startWake c).rings = s.rings := rfl

@[simp] theorem occur_rings (g : Fin 16) (k : EventKind) : (s.occur g k).rings = s.rings := by
  unfold State.occur
  dsimp only
  split <;> simp

@[simp] theorem withdraw_rings (i : Fin 24) : (s.withdraw i).rings = s.rings := by
  unfold State.withdraw
  split <;> simp

@[simp] theorem levelChanged_rings (g : Fin 16) : (s.levelChanged g).rings = s.rings := by
  unfold State.levelChanged
  dsimp only
  repeat' split
  all_goals simp

@[simp] theorem edgeEvent_rings (ch : Channel) (g : Fin 16) (high : Bool) :
    (s.edgeEvent ch g high).rings = s.rings := by
  unfold State.edgeEvent
  dsimp only
  split
  · split <;> rfl
  · rfl

@[simp] theorem changeLevel_rings (g : Fin 16) : (s.changeLevel g).rings = s.rings := by
  simp [State.changeLevel]

@[simp] theorem takeSample_rings (g : Fin 16) (level : Bool) : (s.takeSample g level).rings = s.rings := by
  unfold State.takeSample
  dsimp only
  repeat' split
  all_goals simp

@[simp] theorem takeSamples_rings (on : Fin 16 → Bool) (lines : BitVec 16) (gs : List (Fin 16)) :
    (s.takeSamples on lines gs).rings = s.rings := by
  induction gs generalizing s with
  | nil => rfl
  | cons g rest ih =>
    rw [State.takeSamples, ih]
    split <;> simp

@[simp] theorem configGate_rings (g : Fin 16) (c : GateCfg) : (s.configGate g c).rings = s.rings := by
  unfold State.configGate
  dsimp only
  split <;> simp

@[simp] theorem setPriority_rings (i : Fin 24) (p : Nat) : (s.setPriority i p).rings = s.rings := rfl

@[simp] theorem closeFilling_rings (is : List (Fin 16)) : (s.closeFilling is).rings = s.rings := by
  induction is generalizing s with
  | nil => rfl
  | cons i rest ih =>
    rw [State.closeFilling, ih]
    split <;> simp

@[simp] theorem dropReaders_rings (is : List (Fin 16)) : (s.dropReaders is).rings = s.rings := by
  induction is generalizing s with
  | nil => rfl
  | cons i rest ih => exact ih _

@[simp] theorem releaseAll_rings (is : List (Fin 16)) : (s.releaseAll is).rings = s.rings := by
  induction is generalizing s with
  | nil => rfl
  | cons i rest ih => exact (ih _).trans (releaseTest_rings s i)

@[simp] theorem resetPages_rings : s.resetPages.rings = s.rings := by
  have h : (((s.closeFilling ids16).dropReaders ids16).releaseAll ids16).rings = s.rings := by simp
  unfold State.resetPages
  generalize ((s.closeFilling ids16).dropReaders ids16).releaseAll ids16 = t at h ⊢
  exact h

@[simp] theorem emptyPending_rings (is : List (Fin 24)) : (s.emptyPending is).rings = s.rings := by
  induction is generalizing s with
  | nil => rfl
  | cons i rest ih => exact ih _

@[simp] theorem rearm_rings (gs : List (Fin 16)) : (s.rearm gs).rings = s.rings := by
  induction gs generalizing s with
  | nil => rfl
  | cons g rest ih =>
    rw [State.rearm, ih]
    dsimp only
    split
    · split <;> simp
    · rfl

@[simp] theorem abandonDrain_rings (t : Quiet) (c : Nat) : (s.abandonDrain t c).rings = s.rings :=
  raise_rings _ _ _ _

@[simp] theorem resetPower_rings : s.resetPower.rings = s.rings := by
  unfold State.resetPower
  split <;> simp

@[simp] theorem resetChannels_rings : s.resetChannels.rings = s.rings := rfl

@[simp] theorem resetMotors_rings : s.resetMotors.rings = s.rings := rfl

@[simp] theorem engineReset_rings : s.engineReset.rings = s.rings := by
  have h (u : CoderLink) (t : State) : ({ t with coder := u } : State).rings = t.rings := rfl
  unfold State.engineReset
  simp [h]

@[simp] theorem loadPriorities_rings (ps : List Nat) (is : List (Fin 24)) :
    (s.loadPriorities ps is).rings = s.rings := by
  induction is generalizing s with
  | nil => rfl
  | cons i rest ih => exact ih _

@[simp] theorem reloadRamps_rings (c : Sections) (ns : List (Fin 4)) :
    (s.reloadRamps c ns).rings = s.rings := by
  induction ns generalizing s with
  | nil => rfl
  | cons n rest ih =>
    rw [State.reloadRamps, ih]
    split <;> simp

@[simp] theorem reloadPhases_rings (c : Sections) (ms : List MotorId) :
    (s.reloadPhases c ms).rings = s.rings := by
  induction ms generalizing s with
  | nil => rfl
  | cons m rest ih =>
    rw [State.reloadPhases, ih]
    split <;> simp

@[simp] theorem reloadConstants_rings (k : Constants) : (s.reloadConstants k).rings = s.rings :=
  poolTest_rings _

@[simp] theorem reloadGates_rings (cs : List GateCfg) (gs : List (Fin 16)) :
    (s.reloadGates cs gs).rings = s.rings := by
  induction gs generalizing s with
  | nil => rfl
  | cons g rest ih => exact (ih _).trans (configGate_rings s g _)

@[simp] theorem reloaded_rings (c : Sections) : (s.reloaded c).rings = s.rings := by
  have hpriorities : (s.withPriorities c).rings = s.rings := by
    unfold State.withPriorities
    split <;> simp
  have htables (t : State) : (t.withTables c).rings = t.rings := by simp [State.withTables]
  have hstrobe (t : State) : (t.withStrobe c).rings = t.rings := by
    unfold State.withStrobe
    split <;> rfl
  have hconstants (t : State) : (t.withConstants c).rings = t.rings := by
    unfold State.withConstants
    split <;> simp
  rw [State.reloaded, hconstants, hstrobe, htables, hpriorities]

@[simp] theorem putInForce_rings (c : Sections) : (s.putInForce c).rings = s.rings := by
  rw [putInForce_eq]
  cases c.gateways <;> simp

@[simp] theorem setStore_rings (o : Option StoreOp) : (s.setStore o).rings = s.rings := rfl

@[simp] theorem storeFailed_rings (o : StoreOp) : (s.storeFailed o).rings = s.rings := raise_rings _ _ _ _

@[simp] theorem storeOn_rings (o : StoreOp) (rest : List Word) : (s.storeOn o rest).rings = s.rings := by
  unfold State.storeOn
  split <;> simp

@[simp] theorem openSlot_rings (ch : Channel) (i : Fin 16) (a b c : Bool) (n : Nat) :
    (s.openSlot ch i a b c n).rings = s.rings := by
  unfold State.openSlot
  dsimp only
  rw [notifyEnding_rings]
  split <;> rfl

@[simp] theorem startWait_rings (ch : Channel) (w : Wait) : (s.startWait ch w).rings = s.rings := rfl

@[simp] theorem openWriteEntry_rings (ch : Channel) (a b c : Bool) (n : Nat) :
    (s.openWriteEntry ch a b c n).rings = s.rings := by
  unfold State.openWriteEntry
  split
  · simp
  split
  · simp
  · split
    · simp
    · rfl

@[simp] theorem join_rings (ch : Channel) (r : PageRef) (rel : Bool) (n : Nat) :
    (s.join ch r rel n).rings = s.rings := by
  simp [State.join]

@[simp] theorem openResolved_rings (ch : Channel) (r : PageRef) (f rel : Bool) (n : Nat) :
    (s.openResolved ch r f rel n).rings = s.rings := by
  unfold State.openResolved
  split
  · rw [faultEntry_rings]
    split <;> rfl
  · split <;> simp

@[simp] theorem openPeer_rings (ch p : Channel) (f rel : Bool) (n : Nat) :
    (s.openPeer ch p f rel n).rings = s.rings := by
  unfold State.openPeer
  split <;> simp

@[simp] theorem reopen_rings (ch : Channel) (r : PageRef) (f rel : Bool) (n : Nat) :
    (s.reopen ch r f rel n).rings = s.rings := by
  unfold State.reopen
  split <;> simp

@[simp] theorem openReadEntry_rings (ch : Channel) (f rel p : Bool) (a b c : Nat) :
    (s.openReadEntry ch f rel p a b c).rings = s.rings := by
  unfold State.openReadEntry
  repeat' split
  all_goals simp

@[simp] theorem link_rings (ch : Channel) (m : MotorId) (spl : Nat) (n : Fin 4) (top : Nat) :
    (s.link ch m spl n top).rings = s.rings := by
  simp [State.link]

@[simp] theorem leavePage_rings (ch : Channel) (r : PageRef) : (s.leavePage ch r).rings = s.rings := by
  simp [State.leavePage]

@[simp] theorem closeWriterEntry_rings (ch : Channel) : (s.closeWriterEntry ch).rings = s.rings := by
  unfold State.closeWriterEntry
  split <;> simp

@[simp] theorem closeReaderEntry_rings (ch : Channel) : (s.closeReaderEntry ch).rings = s.rings := by
  unfold State.closeReaderEntry
  split
  · simp
  · split
    · rfl
    · simp

@[simp] theorem pauseNow_rings (ch : Channel) (c : PauseCause) : (s.pauseNow ch c).rings = s.rings := rfl

@[simp] theorem abortNow_rings (ch : Channel) : (s.abortNow ch).rings = s.rings := by
  simp [State.abortNow]

@[simp] theorem advanceReader_rings (ch : Channel) : (s.advanceReader ch).rings = s.rings := by
  unfold State.advanceReader
  dsimp only
  split <;> simp

@[simp] theorem endIfRead_rings (ch : Channel) : (s.endIfRead ch).rings = s.rings := by
  unfold State.endIfRead
  dsimp only
  split <;> simp

@[simp] theorem handOver_rings (ch : Channel) (n : Nat) (slot : List Byte) :
    (s.handOver ch n slot).rings = s.rings := by
  cases ch
  case print =>
    change (s.handToPrint n slot).rings = _
    unfold State.handToPrint
    dsimp only
    split <;> rfl
  all_goals rfl

@[simp] theorem storeHeld_rings : s.storeHeld.rings = s.rings := by
  change (s.chans.codeIn.openPage.elim s fun ref => s.storeLine ref.slot).rings = _
  cases s.chans.codeIn.openPage <;> rfl

@[simp] theorem goodStored_rings : s.goodStored.rings = s.rings := by
  have h := storeHeld_rings s
  unfold State.goodStored
  generalize s.storeHeld = t at h ⊢
  exact h

@[simp] theorem countConcealed_rings : s.countConcealed.rings = s.rings := by
  unfold State.countConcealed
  split <;> simp

@[simp] theorem burstTest_rings (n : Nat) : (s.burstTest n).rings = s.rings := by
  unfold State.burstTest
  split
  · exact raise_rings _ _ _ _
  · rfl

@[simp] theorem concealmentStored_rings : s.concealmentStored.rings = s.rings := by
  refine (burstTest_rings _ _).trans ?_
  exact (countConcealed_rings _).trans (storeHeld_rings s)

@[simp] theorem closeSent_rings (f : Frame) : (s.closeSent f).rings = s.rings := by
  unfold State.closeSent
  dsimp only
  repeat' split
  all_goals simp

@[simp] theorem finishCapture_rings (b : BufId) (v : List Byte) : (s.finishCapture b v).rings = s.rings := by
  unfold State.finishCapture
  dsimp only
  split
  · exact (setBuf_rings _ _ _).trans (setBuf_rings s b _)
  · exact setBuf_rings s b _

@[simp] theorem storeScan_rings (b : BufId) : (s.storeScan b).rings = s.rings := by
  simp [State.storeScan]

@[simp] theorem serveHost_rings (c : HostCycle) : (s.serveHost c).rings = s.rings := by
  unfold State.serveHost
  split <;> rfl

@[simp] theorem startCommand_rings : s.startCommand.rings = s.rings := by
  unfold State.startCommand State.startChain
  dsimp only
  repeat' split
  all_goals simp

@[simp] theorem stopPause_rings : s.stopPause.rings = s.rings := by
  unfold State.stopPause
  dsimp only
  repeat' split
  all_goals simp

@[simp] theorem stopAbort_rings : s.stopAbort.rings = s.rings := by
  unfold State.stopAbort
  dsimp only
  repeat' split
  all_goals simp

@[simp] theorem resumeCommand_rings : s.resumeCommand.rings = s.rings := by
  unfold State.resumeCommand
  dsimp only
  repeat' split
  all_goals simp

@[simp] theorem moveCommand_rings : s.moveCommand.rings = s.rings := by
  unfold State.moveCommand
  dsimp only
  repeat' split
  all_goals simp

@[simp] theorem stopRampCommand_rings : s.stopRampCommand.rings = s.rings := by
  unfold State.stopRampCommand
  dsimp only
  repeat' split
  all_goals simp

@[simp] theorem stopNowCommand_rings : s.stopNowCommand.rings = s.rings := by
  unfold State.stopNowCommand
  dsimp only
  repeat' split
  all_goals simp

@[simp] theorem motorResumeCommand_rings : s.motorResumeCommand.rings = s.rings := by
  unfold State.motorResumeCommand
  split <;> simp

@[simp] theorem motorReleaseCommand_rings : s.motorReleaseCommand.rings = s.rings := by
  unfold State.motorReleaseCommand
  repeat' split
  all_goals simp

@[simp] theorem loadCommand_rings : s.loadCommand.rings = s.rings := by
  unfold State.loadCommand
  dsimp only
  repeat' split
  all_goals simp

@[simp] theorem headClassCommand_rings : s.headClassCommand.rings = s.rings := rfl

@[simp] theorem queryCommand_rings : s.queryCommand.rings = s.rings := by
  unfold State.queryCommand State.copyPage
  dsimp only
  repeat' split
  all_goals simp

@[simp] theorem releaseCommand_rings : s.releaseCommand.rings = s.rings := by
  unfold State.releaseCommand State.askRelease
  dsimp only
  split <;> simp

@[simp] theorem sensorConfigCommand_rings : s.sensorConfigCommand.rings = s.rings := by
  unfold State.sensorConfigCommand
  dsimp only
  split <;> simp

@[simp] theorem priorityCommand_rings : s.priorityCommand.rings = s.rings := by
  unfold State.priorityCommand
  dsimp only
  split <;> simp

@[simp] theorem powerCommand_rings {e : State} (h : e.rings = s.rings) :
    (s.powerCommand e).rings = s.rings := by
  unfold State.powerCommand
  split
  · simp
  · exact (complete_rings _ _ _).trans h

@[simp] theorem powerRun_rings : s.powerRun.rings = s.rings := by
  unfold State.powerRun
  split
  · rfl
  · simp

@[simp] theorem powerDoze_rings : s.powerDoze.rings = s.rings := by
  unfold State.powerDoze
  split <;> rfl

@[simp] theorem leaveSelfRefresh_rings : s.leaveSelfRefresh.rings = s.rings :=
  rings_of_kept (judgeCycle_kept _)

@[simp] theorem clearBlock_rings (b m : Nat) : (s.clearBlock b m).rings = s.rings := by
  unfold State.clearBlock
  repeat' split
  all_goals rfl

@[simp] theorem reloadEnd_rings (r : Reading) : (s.reloadEnd r).rings = s.rings := by
  unfold State.reloadEnd
  dsimp only
  split
  · exact (complete_rings _ _ _).trans (putInForce_rings _ _)
  · rfl

@[simp] theorem storeCommand_rings : s.storeCommand.rings = s.rings := by
  unfold State.storeCommand
  dsimp only
  repeat' split
  all_goals rfl

@[simp] theorem linkMotorEntry_rings (ch : Channel) (m : MotorId) (spl : Nat) (n : Fin 4) (top : Nat) :
    (s.linkMotorEntry ch m spl n top).rings = s.rings := by
  unfold State.linkMotorEntry
  repeat' split
  all_goals simp

@[simp] theorem runAgain_rings (ch : Channel) : (s.runAgain ch).rings = s.rings := rfl

@[simp] theorem statusCommand_rings : s.statusCommand.rings = s.rings := by
  unfold State.statusCommand
  dsimp only
  split <;> simp

@[simp] theorem clearCommand_rings : s.clearCommand.rings = s.rings := by
  unfold State.clearCommand
  dsimp only
  split <;> simp

@[simp] theorem engineResetCommand_rings : s.engineResetCommand.rings = s.rings :=
  (complete_rings _ _ _).trans (engineReset_rings s)

@[simp] theorem reloadCommand_rings : s.reloadCommand.rings = s.rings := by
  unfold State.reloadCommand
  split
  · simp
  · split <;> simp

@[simp] theorem setProcessingEntry_rings (ch : Channel) (a b : Bool) (m t : Nat) :
    (s.setProcessingEntry ch a b m t).rings = s.rings := by
  unfold State.setProcessingEntry
  split
  · simp
  · split <;> simp

@[simp] theorem waitLineEntry_rings (ch : Channel) (g : Fin 16) (high : Bool) (n : Nat) :
    (s.waitLineEntry ch g high n).rings = s.rings := by
  unfold State.waitLineEntry
  dsimp only
  split <;> simp

@[simp] theorem jumpEntry_rings (ch : Channel) (a : Nat) : (s.jumpEntry ch a).rings = s.rings := by
  unfold State.jumpEntry
  split <;> simp

/-! ## Start-up (09 R171, R172, R173) -/

@[simp] theorem loadRamps_rings (c : Sections) (ns : List (Fin 4)) : (s.loadRamps c ns).rings = s.rings := by
  induction ns generalizing s with
  | nil => rfl
  | cons n rest ih => exact ih _

@[simp] theorem loadGates_rings (cs : List GateCfg) (gs : List (Fin 16)) :
    (s.loadGates cs gs).rings = s.rings := by
  induction gs generalizing s with
  | nil => rfl
  | cons g rest ih => exact ih _

@[simp] theorem tablesStage_rings (c : Sections) : (s.tablesStage c).rings = s.rings :=
  (loadPriorities_rings _ _ _).trans ((loadGates_rings _ _ _).trans (loadRamps_rings _ _ _))

@[simp] theorem occurActive_rings (gs : List (Fin 16)) : (s.occurActive gs).rings = s.rings := by
  induction gs generalizing s with
  | nil => rfl
  | cons g rest ih =>
    rw [State.occurActive, ih]
    split <;> simp

@[simp] theorem firstLevels_rings (lines : BitVec 16) (gs : List (Fin 16)) :
    (s.firstLevels lines gs).rings = s.rings := by
  rw [firstLevels_only]
  rfl

@[simp] theorem firstSample_rings (lines : BitVec 16) : (s.firstSample lines).rings = s.rings := by
  unfold State.firstSample
  rw [occurActive_rings, firstLevels_rings]
  rfl

theorem readyStage_rings : s.readyStage.rings = { s.rings with stage := .ready } := rfl

/-- Start-up ends at READY under the geometry brought, the indices as they stood. -/
theorem bringUp_rings (c : Sections) (lines : BitVec 16) : (s.bringUp c lines).rings =
    { s.rings with stage := .ready, geo := c.geometry.getD Geometry.default } := by
  rw [State.bringUp, readyStage_rings, firstSample_rings, tablesStage_rings]
  rfl

end Sys2Proof.Machine
end


section
/-! PROOFS. The ring indices under every command from READY on (10 R180, R182, R186, R189). -/

namespace Sys2Proof.Machine

/-- `t` has the stage of `s`, and its ring indices lie in their rings when those of `s` do. -/
structure KeepsRings (s t : State) : Prop where
  stage : t.boot.stage = s.boot.stage
  indices : IndicesOk s → IndicesOk t

theorem indicesOk_of_rings {s t : State} (h : t.rings = s.rings) (hs : IndicesOk s) : IndicesOk t := by
  obtain ⟨-, hgeo, hconsumer, hproducer, hhostProducer, hhostConsumer⟩ := Rings.mk.inj h
  unfold IndicesOk
  rwa [hgeo, hconsumer, hproducer, hhostProducer, hhostConsumer]

theorem KeepsRings.same {s t : State} (h : t.rings = s.rings) : KeepsRings s t :=
  ⟨congrArg Rings.stage h, indicesOk_of_rings h⟩

theorem rings_withRecUnit {s t : State} (h : t.rings = s.rings) {u : RecordUnit}
    (hconsumer : u.consumer = s.recUnit.consumer) (hproducer : u.producer = s.recUnit.producer) :
    ({ t with recUnit := u } : State).rings = s.rings := by
  obtain ⟨hstage, hgeo, -, -, hhostProducer, hhostConsumer⟩ := Rings.mk.inj h
  simp only [State.rings, hstage, hgeo, hconsumer, hproducer, hhostProducer, hhostConsumer]

theorem KeepsRings.trans {a b c : State} (h : KeepsRings a b) (k : KeepsRings b c) : KeepsRings a c :=
  ⟨k.stage.trans h.stage, fun ha => k.indices (h.indices ha)⟩

section
variable {s e : State} {due : Bool}

theorem runIf_keepsRings (h : KeepsRings s e) : Answers (KeepsRings s) (runIf due s e) :=
  runIf_answers (.same rfl) fun _ => h.trans (.same (settle_rings e))

theorem runIf_rings (h : e.rings = s.rings) : Answers (KeepsRings s) (runIf due s e) :=
  runIf_keepsRings (.same h)

theorem runIf_notDue (h : due = false) : Answers (KeepsRings s) (runIf due s e) :=
  runIf_answers (.same rfl) fun hd => absurd (hd.symm.trans h) nofun

end

variable (s : State)

theorem idle_rings : Answers (KeepsRings s) (runIf false s s) := runIf_rings rfl

/-! ## The rows that move an index -/

/-- A value written lies in its ring, for the part takes it modulo the ring's size (10 R180, R189). -/
theorem writeCommandWord_keepsRings (v : Word) : KeepsRings s (s.writeCommandWord v) := by
  unfold State.writeCommandWord
  split
  · refine ⟨rfl, fun ⟨hcmd, hrep, hconsumer, hproducer, _, hhostConsumer⟩ => ?_⟩
    exact ⟨hcmd, hrep, hconsumer, hproducer, Nat.mod_lt _ hcmd, hhostConsumer⟩
  · exact .same rfl

theorem writeReportWord_keepsRings (v : Word) : KeepsRings s (s.writeReportWord v) := by
  unfold State.writeReportWord
  split
  · refine ⟨rfl, fun ⟨hcmd, hrep, hconsumer, hproducer, hhostProducer, _⟩ => ?_⟩
    exact ⟨hcmd, hrep, hconsumer, hproducer, hhostProducer, Nat.mod_lt _ hrep⟩
  · exact .same rfl

theorem execHostMemoryCycle_keepsRings (hasel : Bool) (a : BitVec 21) (write : Option Word) :
    Answers (KeepsRings s) (execHostMemoryCycle hasel a write s) := by
  refine runIf_keepsRings ?_
  split
  · unfold State.attentionCycle
    split
    · split
      · exact writeReportWord_keepsRings s _
      · exact writeCommandWord_keepsRings s _
    · exact .same rfl
  · exact .same rfl

theorem advanceProducer_keepsRings (w : Writing) : KeepsRings s (s.advanceProducer w) := by
  have hport := releasePort_rings s
  obtain ⟨hstage, hgeo, -, -, hhostProducer, hhostConsumer⟩ := Rings.mk.inj hport
  refine ⟨hstage, fun ⟨hcmd, hrep, hconsumer, _, hp, hc⟩ => ?_⟩
  unfold IndicesOk State.advanceProducer
  rw [hgeo, hhostProducer, hhostConsumer]
  exact ⟨hcmd, hrep, hconsumer, Nat.mod_lt _ hrep, hp, hc⟩

theorem posted_keepsRings (w : Producer) : KeepsRings s (s.posted w) := by
  cases w with
  | completion =>
    refine ⟨rfl, fun ⟨hcmd, hrep, _, hproducer, hhostProducer, hhostConsumer⟩ => ?_⟩
    exact ⟨hcmd, hrep, Nat.mod_lt _ hcmd, hproducer, hhostProducer, hhostConsumer⟩
  | notice ch final => exact .same (noticePosted_rings s ch final)
  | event => exact .same rfl
  | boot => exact .same rfl

theorem execReportWriteEnd_keepsRings : Answers (KeepsRings s) (execReportWriteEnd s) := by
  unfold execReportWriteEnd
  split
  · exact runIf_keepsRings ((advanceProducer_keepsRings s _).trans (posted_keepsRings _ _))
  · exact idle_rings s

/-! ## The rows that leave every index -/

theorem execHostWordServed_rings : Answers (KeepsRings s) (execHostWordServed s) := by
  unfold execHostWordServed
  split
  · exact runIf_rings (by simp)
  · exact idle_rings s

theorem execPageQueryWriteEnd_rings : Answers (KeepsRings s) (execPageQueryWriteEnd s) := by
  unfold execPageQueryWriteEnd
  split
  · exact runIf_rings ((complete_rings _ _ _).trans (releasePort_rings s))
  · exact idle_rings s

theorem execConsumerIndexWriteEnd_rings : Answers (KeepsRings s) (execConsumerIndexWriteEnd s) := by
  unfold execConsumerIndexWriteEnd
  split
  · dsimp only
    split <;> exact runIf_rings (writeWord_rings s _ _)
  · exact idle_rings s

theorem execEntryFetchEnd_rings : Answers (KeepsRings s) (execEntryFetchEnd s) := by
  unfold execEntryFetchEnd
  repeat' split
  all_goals exact runIf_rings (by simp)

theorem execOpenWrite_rings (ch : Channel) : Answers (KeepsRings s) (execOpenWrite ch s) := by
  unfold execOpenWrite
  split
  · exact runIf_rings (by simp)
  · exact idle_rings s

theorem execOpenRead_rings (ch : Channel) : Answers (KeepsRings s) (execOpenRead ch s) := by
  unfold execOpenRead
  split
  · exact runIf_rings (by simp)
  · exact idle_rings s

theorem execLines_rings (ch : Channel) : Answers (KeepsRings s) (execLines ch s) := by
  unfold execLines
  split
  · exact runIf_rings (by simp)
  · exact idle_rings s

theorem execSetProcessing_rings (ch : Channel) : Answers (KeepsRings s) (execSetProcessing ch s) := by
  unfold execSetProcessing
  split
  · exact runIf_rings (by simp)
  · exact idle_rings s

theorem execLinkMotor_rings (ch : Channel) : Answers (KeepsRings s) (execLinkMotor ch s) := by
  unfold execLinkMotor
  repeat' split
  all_goals exact runIf_rings (by simp)

theorem execUnlink_rings (ch : Channel) : Answers (KeepsRings s) (execUnlink ch s) := by
  unfold execUnlink
  repeat' split
  all_goals exact runIf_rings (by simp)

theorem execWaitLine_rings (ch : Channel) : Answers (KeepsRings s) (execWaitLine ch s) := by
  unfold execWaitLine
  split
  · exact runIf_rings (by simp)
  · exact idle_rings s

theorem execCloseWriter_rings (ch : Channel) : Answers (KeepsRings s) (execCloseWriter ch s) := by
  unfold execCloseWriter
  split
  · exact runIf_rings (by simp)
  · exact idle_rings s

theorem execCloseReader_rings (ch : Channel) : Answers (KeepsRings s) (execCloseReader ch s) := by
  unfold execCloseReader
  split
  · exact runIf_rings (by simp)
  · exact idle_rings s

theorem execMark_rings (ch : Channel) : Answers (KeepsRings s) (execMark ch s) := by
  unfold execMark
  split
  · exact runIf_rings rfl
  · exact idle_rings s

theorem execJump_rings (ch : Channel) : Answers (KeepsRings s) (execJump ch s) := by
  unfold execJump
  split
  · exact runIf_rings (by simp)
  · exact idle_rings s

theorem execEndEntry_rings (ch : Channel) : Answers (KeepsRings s) (execEndEntry ch s) := by
  unfold execEndEntry
  split
  · exact runIf_rings rfl
  · exact idle_rings s

theorem execUnknownEntry_rings (ch : Channel) : Answers (KeepsRings s) (execUnknownEntry ch s) := by
  unfold execUnknownEntry
  split
  · exact runIf_rings (by simp)
  · exact idle_rings s

theorem execSlotHanded_rings : Answers (KeepsRings s) (execSlotHanded s) := by
  unfold execSlotHanded
  split
  · split
    · exact runIf_rings (openSlot_rings _ _ _ _ _ _ _)
    · exact idle_rings s
  · exact idle_rings s

theorem execPeerPageResolved_rings (ch : Channel) : Answers (KeepsRings s) (execPeerPageResolved ch s) := by
  unfold execPeerPageResolved
  repeat' split
  all_goals exact runIf_rings (by simp)

theorem execWaitCompleteEnd_rings (ch : Channel) : Answers (KeepsRings s) (execWaitCompleteEnd ch s) := by
  unfold execWaitCompleteEnd
  split
  · exact runIf_rings (by simp)
  · exact idle_rings s

theorem execWaitGateEnd_rings (ch : Channel) : Answers (KeepsRings s) (execWaitGateEnd ch s) := by
  unfold execWaitGateEnd
  split
  · exact runIf_rings (by simp)
  · exact idle_rings s

theorem execPauseBoundaryReached_rings (ch : Channel) :
    Answers (KeepsRings s) (execPauseBoundaryReached ch s) := by
  unfold execPauseBoundaryReached
  split
  · exact runIf_rings rfl
  · exact idle_rings s

theorem execAbortBoundaryReached_rings (ch : Channel) :
    Answers (KeepsRings s) (execAbortBoundaryReached ch s) := by
  unfold execAbortBoundaryReached
  split
  · exact runIf_rings (by simp)
  · exact idle_rings s

theorem execLineReadEnd_rings : Answers (KeepsRings s) (execLineReadEnd s) := by
  unfold execLineReadEnd
  split
  · exact runIf_rings (by simp)
  · exact idle_rings s

theorem execMotorStep_rings (m : MotorId) : Answers (KeepsRings s) (execMotorStep m s) := by
  refine runIf_rings ?_
  split
  · rfl
  · exact issueStep_rings s _

theorem execCaptureEnd_rings (samples : List Byte) : Answers (KeepsRings s) (execCaptureEnd samples s) := by
  unfold execCaptureEnd
  split
  · exact runIf_rings (by simp)
  · exact idle_rings s

theorem execScanWriteEnd_rings : Answers (KeepsRings s) (execScanWriteEnd s) := by
  unfold execScanWriteEnd
  split
  · exact runIf_rings (by simp)
  · exact idle_rings s

theorem execStrobePhaseEnd_rings : Answers (KeepsRings s) (execStrobePhaseEnd s) := by
  unfold execStrobePhaseEnd
  split
  · refine runIf_rings ?_
    split
    · rfl
    · exact burnEnd_rings s
  · exact idle_rings s

theorem execScanTableBurstEnd_rings : Answers (KeepsRings s) (execScanTableBurstEnd s) := by
  unfold execScanTableBurstEnd
  repeat' split
  all_goals exact runIf_rings (by simp)

theorem execStrobeLoadEnd_rings : Answers (KeepsRings s) (execStrobeLoadEnd s) := by
  unfold execStrobeLoadEnd
  split
  · exact runIf_rings ((complete_rings _ _ _).trans (releasePort_rings s))
  · exact idle_rings s

theorem execRampLoadEnd_rings : Answers (KeepsRings s) (execRampLoadEnd s) := by
  unfold execRampLoadEnd
  split
  · dsimp only
    split
    · refine runIf_rings ?_
      split <;> simp
    · exact idle_rings s
  · exact idle_rings s

theorem execPhaseLoadEnd_rings : Answers (KeepsRings s) (execPhaseLoadEnd s) := by
  unfold execPhaseLoadEnd
  repeat' split
  all_goals exact runIf_rings (by simp)

theorem execFrameTaken_rings : Answers (KeepsRings s) (execFrameTaken s) := by
  unfold execFrameTaken
  split
  · exact runIf_rings (closeSent_rings _ _)
  · exact idle_rings s

theorem execPageEndReceived_rings : Answers (KeepsRings s) (execPageEndReceived s) := by
  refine runIf_rings ?_
  split
  · exact endEntry_rings _ _
  · rfl

theorem execCodeInSlotWriteEnd_rings : Answers (KeepsRings s) (execCodeInSlotWriteEnd s) := by
  unfold execCodeInSlotWriteEnd
  split
  · exact runIf_rings (by simp)
  · exact idle_rings s

theorem execConcealmentStored_rings : Answers (KeepsRings s) (execConcealmentStored s) := by
  unfold execConcealmentStored
  split
  · exact runIf_rings (by simp)
  · exact idle_rings s

theorem execDrainTimerExpiry_rings : Answers (KeepsRings s) (execDrainTimerExpiry s) := by
  unfold execDrainTimerExpiry
  repeat' split
  all_goals exact runIf_rings (by simp)

theorem execStoreSourceBurstEnd_rings : Answers (KeepsRings s) (execStoreSourceBurstEnd s) := by
  unfold execStoreSourceBurstEnd
  split
  · exact runIf_rings (by simp)
  · exact idle_rings s

theorem execStoreWordShifted_rings : Answers (KeepsRings s) (execStoreWordShifted s) := by
  unfold execStoreWordShifted
  repeat' split
  all_goals exact runIf_rings rfl

theorem execEepromReady_rings : Answers (KeepsRings s) (execEepromReady s) := by
  unfold execEepromReady
  split
  · exact runIf_rings rfl
  · exact idle_rings s

theorem execEepromReadyTimeout_rings : Answers (KeepsRings s) (execEepromReadyTimeout s) := by
  unfold execEepromReadyTimeout
  split
  · exact runIf_rings (by simp)
  · exact idle_rings s

theorem execStoreReadbackEnd_rings (w : Word) : Answers (KeepsRings s) (execStoreReadbackEnd w s) := by
  unfold execStoreReadbackEnd
  split
  · split
    · refine runIf_rings ?_
      split
      · exact storeOn_rings _ _ _
      · exact storeFailed_rings _ _
    · exact idle_rings s
  · exact idle_rings s

theorem execProducerIndexWriteEnd_rings : Answers (KeepsRings s) (execProducerIndexWriteEnd s) := by
  unfold execProducerIndexWriteEnd
  split
  · exact runIf_rings (writeWord_rings s _ _)
  · exact idle_rings s

theorem execPageQueryFirstWriteEnd_rings : Answers (KeepsRings s) (execPageQueryFirstWriteEnd s) := by
  unfold execPageQueryFirstWriteEnd
  split
  · exact runIf_rings (rings_withRecUnit (releasePort_rings s) rfl rfl)
  · exact idle_rings s

/-! ## Every row -/


/-- From READY on every command but a reset keeps the stage, and the ring indices in their rings. -/
theorem exec_keepsRings (h : s.boot.stage = .ready) (c : Instr)
    (hc : ∀ cause rom, c ≠ .hardReset cause rom) : Answers (KeepsRings s) (exec c s) := by
  cases c with
  | hardReset cause rom => exact absurd rfl (hc cause rom)
  | probe k l => exact runIf_notDue (by rw [h]; rfl)
  | probeWordReadEnd l => exact runIf_notDue (by rw [h]; rfl)
  | imageReadEnd l => exact runIf_notDue (by rw [h]; rfl)
  | hostRelease => exact runIf_rings rfl
  | commandWordWrite v => exact runIf_keepsRings (writeCommandWord_keepsRings s v)
  | reportWordWrite v => exact runIf_keepsRings (writeReportWord_keepsRings s v)
  | hostMemoryCycle a w v => exact execHostMemoryCycle_keepsRings s a w v
  | hostWordServed => exact execHostWordServed_rings s
  | refreshDue => exact runIf_rings rfl
  | commandFetchEnd => exact runIf_rings (rings_withRecUnit (releasePort_rings s) rfl rfl)
  | unknownCommand => exact runIf_rings rfl
  | startChain => exact runIf_rings (startCommand_rings s)
  | stopChannelPause => exact runIf_rings (stopPause_rings s)
  | stopChannelAbort => exact runIf_rings (stopAbort_rings s)
  | resumeChannel => exact runIf_rings (resumeCommand_rings s)
  | motorMove => exact runIf_rings (moveCommand_rings s)
  | motorStopRamp => exact runIf_rings (stopRampCommand_rings s)
  | motorStopImmediate => exact runIf_rings (stopNowCommand_rings s)
  | motorResume => exact runIf_rings (motorResumeCommand_rings s)
  | motorRelease => exact runIf_rings (motorReleaseCommand_rings s)
  | loadTableScan => exact runIf_rings (loadCommand_rings s)
  | loadTableStrobe => exact runIf_rings (loadCommand_rings s)
  | loadTableRamp => exact runIf_rings (loadCommand_rings s)
  | loadTablePhase => exact runIf_rings (loadCommand_rings s)
  | headClass => exact runIf_rings rfl
  | pageQuery => exact runIf_rings (queryCommand_rings s)
  | pageQueryWriteEnd => exact execPageQueryWriteEnd_rings s
  | pageRelease => exact runIf_rings (releaseCommand_rings s)
  | sensorConfig => exact runIf_rings (sensorConfigCommand_rings s)
  | eventPriority => exact runIf_rings (priorityCommand_rings s)
  | eventThreshold => exact runIf_rings rfl
  | powerRun => exact runIf_rings (powerCommand_rings s (powerRun_rings s))
  | powerDoze => exact runIf_rings (powerCommand_rings s (powerDoze_rings s))
  | powerSleep => exact runIf_rings (powerCommand_rings s rfl)
  | statusQuery => exact runIf_rings (statusCommand_rings s)
  | clearFlags => exact runIf_rings (clearCommand_rings s)
  | engineReset => exact runIf_rings (engineResetCommand_rings s)
  | configReload => exact runIf_rings (reloadCommand_rings s)
  | reloadReadEnd => exact runIf_rings (reloadEnd_rings s _)
  | configStore => exact runIf_rings (storeCommand_rings s)
  | reportWriteEnd => exact execReportWriteEnd_keepsRings s
  | consumerIndexWriteEnd => exact execConsumerIndexWriteEnd_rings s
  | entryFetchEnd => exact execEntryFetchEnd_rings s
  | openWrite ch => exact execOpenWrite_rings s ch
  | openRead ch => exact execOpenRead_rings s ch
  | lines ch => exact execLines_rings s ch
  | setProcessing ch => exact execSetProcessing_rings s ch
  | linkMotor ch => exact execLinkMotor_rings s ch
  | unlink ch => exact execUnlink_rings s ch
  | waitLine ch => exact execWaitLine_rings s ch
  | closeWriter ch => exact execCloseWriter_rings s ch
  | closeReader ch => exact execCloseReader_rings s ch
  | mark ch => exact execMark_rings s ch
  | jump ch => exact execJump_rings s ch
  | endEntry ch => exact execEndEntry_rings s ch
  | unknownEntry ch => exact execUnknownEntry_rings s ch
  | slotHanded => exact execSlotHanded_rings s
  | peerPageResolved ch => exact execPeerPageResolved_rings s ch
  | waitCompleteEnd ch => exact execWaitCompleteEnd_rings s ch
  | waitLinesEnd _ => exact runIf_rings rfl
  | waitSpaceEnd => exact runIf_rings rfl
  | waitGateEnd ch => exact execWaitGateEnd_rings s ch
  | waitLineTimeout _ => exact runIf_rings (faultEntry_rings s _ .waitExpired)
  | waitMotorEnd _ => exact runIf_rings rfl
  | waitTableEnd => exact runIf_rings (endTableWait_rings s)
  | pauseBoundaryReached ch => exact execPauseBoundaryReached_rings s ch
  | abortBoundaryReached ch => exact execAbortBoundaryReached_rings s ch
  | lineReadEnd => exact execLineReadEnd_rings s
  | motorStep m => exact execMotorStep_rings s m
  | holdTimerExpiry _ => exact runIf_rings rfl
  | captureEnd samples => exact execCaptureEnd_rings s samples
  | scanWriteEnd => exact execScanWriteEnd_rings s
  | shiftLatchEnd => exact runIf_rings rfl
  | strobePhaseEnd => exact execStrobePhaseEnd_rings s
  | scanTableBurstEnd => exact execScanTableBurstEnd_rings s
  | strobeLoadEnd => exact execStrobeLoadEnd_rings s
  | rampLoadEnd => exact execRampLoadEnd_rings s
  | phaseLoadEnd => exact execPhaseLoadEnd_rings s
  | frameSendStart _ => exact runIf_rings rfl
  | frameTaken => exact execFrameTaken_rings s
  | lineReceived _ => exact runIf_rings rfl
  | badLineReceived => exact runIf_rings rfl
  | malformedFrame _ => exact runIf_rings (raise_rings _ _ _ _)
  | pageEndReceived => exact execPageEndReceived_rings s
  | unsolicitedFrame _ => exact runIf_rings (raise_rings _ _ _ _)
  | codeInSlotWriteEnd => exact execCodeInSlotWriteEnd_rings s
  | concealmentStored => exact execConcealmentStored_rings s
  | crstnPulseEnd => exact runIf_rings rfl
  | debounceLevelChange _ => exact runIf_rings (changeLevel_rings s _)
  | drainTimerExpiry => exact execDrainTimerExpiry_rings s
  | dozeEntry _ => exact runIf_rings (raise_rings _ _ _ _)
  | sleepEntry => exact runIf_rings (afterGrant_rings _)
  | sleepTimerExpiry => exact runIf_rings rfl
  | selfRefreshExitEnd => exact runIf_rings ((raise_rings _ _ _ _).trans (leaveSelfRefresh_rings s))
  | storeSourceBurstEnd => exact execStoreSourceBurstEnd_rings s
  | storeWordShifted => exact execStoreWordShifted_rings s
  | eepromReady => exact execEepromReady_rings s
  | eepromReadyTimeout => exact execEepromReadyTimeout_rings s
  | storeReadbackEnd word => exact execStoreReadbackEnd_rings s word
  | sensorSample _ => exact runIf_rings (takeSamples_rings s _ _ _)
  | receiveFrameHeader _ _ _ => exact runIf_rings rfl
  | frameCutShortEnd _ => exact runIf_rings rfl
  | refreshEnd => exact runIf_rings (freePort_rings s)
  | producerIndexWriteEnd => exact execProducerIndexWriteEnd_rings s
  | pageQueryFirstWriteEnd => exact execPageQueryFirstWriteEnd_rings s

end Sys2Proof.Machine
end


section
/-! PROOFS. A geometry that an image brings has rings (01 R1; 09 R167). -/

namespace Sys2Proof.Machine

/-- The geometry that a configuration brings, if it brings one, can be put in force (01 R1). -/
def Sections.GeometryOk (c : Sections) : Prop := ∀ g, c.geometry = some g → g.valid = true

section
variable {c d : Sections} {ws : List Nat}

theorem geometryOk_of_eq (h : d.geometry = c.geometry) (hc : c.GeometryOk) : d.GeometryOk :=
  fun g hg => hc g (h.symm.trans hg)

theorem empty_geometryOk : Sections.empty.GeometryOk := nofun

theorem setRamp_geometry (n : Fin 4) (t : List Nat) : (c.setRamp n t).geometry = c.geometry := by
  unfold Sections.setRamp
  split <;> rfl

theorem setPhase_geometry (m : MotorId) (p : PhaseCfg) : (c.setPhase m p).geometry = c.geometry := by
  cases m <;> rfl

theorem addRamp_geometry (h : c.addRamp ws = some d) : d.geometry = c.geometry := by
  unfold Sections.addRamp at h
  dsimp only at h
  split at h
  · split at h
    · cases h
      exact setRamp_geometry _ _
    · cases h
  · cases h

theorem addPhase_geometry (h : c.addPhase ws = some d) : d.geometry = c.geometry := by
  unfold Sections.addPhase at h
  dsimp only at h
  split at h
  · split at h
    · cases h
      exact setPhase_geometry _ _
    · cases h
  · cases h

/-- Only a GEOMETRY section changes the geometry, and it is taken up only when it is valid (R167 check 6). -/
theorem add_geometryOk {kind : Nat} (hc : c.GeometryOk) (h : c.add kind ws = some d) : d.GeometryOk := by
  unfold Sections.add at h
  split at h
  case h_1 =>
    split at h
    · next hvalid =>
      cases h
      rintro g ⟨⟩
      exact hvalid.2.2
    · cases h
  case h_3 => exact geometryOk_of_eq (addRamp_geometry h) hc
  case h_4 => exact geometryOk_of_eq (addPhase_geometry h) hc
  case h_6 =>
    split at h
    · split at h
      · cases h
        exact hc
      · cases h
    · cases h
  case h_8 => cases h
  all_goals
    split at h
    · cases h
      exact hc
    · cases h

theorem parseSections_geometryOk {fuel : Nat} (hc : c.GeometryOk) (h : parseSections fuel ws c = some d) :
    d.GeometryOk := by
  induction fuel generalizing ws c with
  | zero =>
    cases ws with
    | nil =>
      cases h
      exact hc
    | cons head rest => cases h
  | succ fuel ih =>
    cases ws with
    | nil =>
      cases h
      exact hc
    | cons head rest =>
      rw [parseSections] at h
      split at h
      · cases h
      · split at h
        · next hadd => exact ih (add_geometryOk hc hadd) h
        · cases h

theorem clampMark_geometry (bands : Nat) : (c.clampMark bands).geometry = c.geometry := by
  unfold Sections.clampMark
  split <;> rfl

end

theorem readImage_geometryOk (rom : List Word) (bandsOf : Sections → Nat) :
    (readImage rom bandsOf).sections.GeometryOk := by
  unfold readImage
  dsimp only
  repeat' split
  case h_1 hparse =>
    exact geometryOk_of_eq (clampMark_geometry _) (parseSections_geometryOk empty_geometryOk hparse)
  all_goals exact empty_geometryOk

theorem ringSize_pos {n : Nat} (h : ringSizeOk n = true) : 0 < n := by
  simp only [ringSizeOk, Bool.or_eq_true, beq_iff_eq] at h
  omega

theorem rings_pos {g : Geometry} (h : g.valid = true) : 0 < g.cmdSize ∧ 0 < g.repSize := by
  simp only [Geometry.valid, Bool.and_eq_true] at h
  have hcmd : ringSizeOk g.cmdSize = true := by tauto
  have hrep : ringSizeOk g.repSize = true := by tauto
  exact ⟨ringSize_pos hcmd, ringSize_pos hrep⟩

theorem geometryOk_rings_pos {c : Sections} (hc : c.GeometryOk) :
    0 < (c.geometry.getD Geometry.default).cmdSize ∧ 0 < (c.geometry.getD Geometry.default).repSize := by
  cases hg : c.geometry with
  | none => decide
  | some g => exact rings_pos (hc g hg)

end Sys2Proof.Machine
end

section
/-! PROOFS. The part before READY: every block stays at rest, until start-up ends (09 R166 to R174). -/

namespace Sys2Proof.Machine

/-- What every command leaves of a part that is not yet at READY. -/
structure RestsOrRises (t : State) : Prop where
  asleep : AsleepBeforeReady t
  indices : IndicesOk t

/-- The rows that can do something before READY: reset, the start-up unit's reading, the host's accesses. -/
def startsBeforeReady : Instr → Bool
  | .hardReset .. | .probe .. | .probeWordReadEnd .. | .imageReadEnd .. | .commandWordWrite ..
  | .reportWordWrite .. | .hostMemoryCycle .. => true
  | _ => false

section
variable {boot : BootUnit} {cycle : Option HostCycle} {data : Word} {eeprom : List Word} {free : Nat}
  {mem : List Host.Cell} {pending : List Instr}

theorem asleep_indices : IndicesOk (asleep boot cycle data eeprom free mem pending) := by
  have hring : 0 < 64 := by decide
  exact ⟨hring, hring, hring, hring, hring, hring⟩

theorem asleep_rests (hr : boot.ready = .none) (hs : boot.store = none) :
    RestsOrRises (asleep boot cycle data eeprom free mem pending) :=
  ⟨asleep_ok _ _ _ _ _ _ _ hr hs, asleep_indices⟩

theorem settle_asleep_rests (hb : boot.stage ≠ .ready) (hr : boot.ready = .none) (hs : boot.store = none) :
    RestsOrRises (asleep boot cycle data eeprom free mem pending).settle := by
  rw [settle_asleep _ _ _ _ _ _ _ hb hr]
  exact asleep_rests hr hs

/-- When start-up ends, the indices are those of reset and the geometry is the one brought (R171, R173). -/
theorem bringUp_asleep_rises (b : BootUnit) {c : Sections} (hc : c.GeometryOk) (lines : BitVec 16) :
    RestsOrRises
      (State.bringUp { asleep boot cycle data eeprom free mem pending with boot := b } c lines).settle := by
  have hrings := settle_rings
    (State.bringUp { asleep boot cycle data eeprom free mem pending with boot := b } c lines)
  rw [bringUp_rings] at hrings
  obtain ⟨hstage, hgeo, hconsumer, hproducer, hhostProducer, hhostConsumer⟩ := Rings.mk.inj hrings
  obtain ⟨hcmd, hrep⟩ := geometryOk_rings_pos hc
  refine ⟨fun h => absurd hstage h, ?_⟩
  unfold IndicesOk
  rw [hgeo, hconsumer, hproducer, hhostProducer, hhostConsumer]
  exact ⟨hcmd, hrep, hcmd, hrep, hcmd, hrep⟩

/-- Every other row waits for something that reset leaves absent: a command in hand, an entry due, a channel's
wait, a grant, a move, a line, a frame, a sample, a timer. -/
theorem exec_asleep_idle (hr : boot.ready = .none) (hs : boot.store = none) {c : Instr}
    (hc : startsBeforeReady c = false) :
    exec c (asleep boot cycle data eeprom free mem pending) =
      .next (asleep boot cycle data eeprom free mem pending) := by
  obtain ⟨stage, cause, rom, version, config, store, blank, invalid, checksum, skipped, fail, read, written,
    ready⟩ := boot
  subst hr hs
  cases c
  case hostWordServed => cases cycle <;> rfl
  case motorStep m | holdTimerExpiry m => cases m <;> rfl
  case openWrite ch | openRead ch | lines ch | setProcessing ch | linkMotor ch | unlink ch | waitLine ch
    | closeWriter ch | closeReader ch | mark ch | jump ch | endEntry ch | unknownEntry ch
    | peerPageResolved ch | waitCompleteEnd ch | waitLinesEnd ch | waitGateEnd ch | waitLineTimeout ch
    | waitMotorEnd ch | pauseBoundaryReached ch | abortBoundaryReached ch => cases ch <;> rfl
  case hardReset | probe | probeWordReadEnd | imageReadEnd | commandWordWrite | reportWordWrite
    | hostMemoryCycle => cases hc
  all_goals rfl

theorem exec_asleep (hb : boot.stage ≠ .ready) (hr : boot.ready = .none) (hs : boot.store = none)
    (c : Instr) :
    Answers RestsOrRises (exec c (asleep boot cycle data eeprom free mem pending)) := by
  have hrests : RestsOrRises (asleep boot cycle data eeprom free mem pending) := asleep_rests hr hs
  have hsettled := settle_asleep_rests (cycle := cycle) (data := data) (eeprom := eeprom) (free := free)
    (mem := mem) (pending := pending) hb hr hs
  have hword (v : Word) : (asleep boot cycle data eeprom free mem pending).writeCommandWord v =
      asleep boot cycle data eeprom free mem pending := if_neg (by simp [State.atReady, asleep, hr])
  have hreport (v : Word) : (asleep boot cycle data eeprom free mem pending).writeReportWord v =
      asleep boot cycle data eeprom free mem pending := if_neg (by simp [State.atReady, asleep, hr])
  cases hc : startsBeforeReady c with
  | false => exact (exec_asleep_idle hr hs hc) ▸ next_answers hrests
  | true =>
    cases c with
    | hardReset cause rom =>
      refine runIf_answers hrests fun _ => ?_
      rw [settle_powerOn]
      exact asleep_rests rfl rfl
    | probe cfgskip lines =>
      refine runIf_answers hrests fun _ => ?_
      split
      · exact settle_asleep_rests nofun hr hs
      · exact bringUp_asleep_rises _ empty_geometryOk lines
    | probeWordReadEnd lines =>
      refine runIf_answers hrests fun _ => ?_
      split
      · exact bringUp_asleep_rises _ empty_geometryOk lines
      · exact settle_asleep_rests (boot := { boot.countRead 1 with stage := .load }) nofun hr hs
    | imageReadEnd lines =>
      refine runIf_answers hrests fun _ => ?_
      exact bringUp_asleep_rises _ (readImage_geometryOk _ _) lines
    | commandWordWrite v =>
      refine runIf_answers hrests fun _ => ?_
      rwa [hword]
    | reportWordWrite v =>
      refine runIf_answers hrests fun _ => ?_
      rwa [hreport]
    | hostMemoryCycle hasel addr write =>
      refine runIf_answers hrests fun _ => ?_
      split
      · unfold State.attentionCycle
        split
        · split
          · rwa [hreport]
          · rwa [hword]
        · exact settle_asleep_rests hb hr hs
      · exact settle_asleep_rests hb hr hs
    | _ => cases hc

end

/-- A reset puts the part back before READY. -/
theorem execHardReset_rests (s : State) (cause : ResetCause) (rom : Option (List Word)) {t : State}
    (h : exec (.hardReset cause rom) s = .next t) : t = s ∨ RestsOrRises t := by
  have hanswers : Answers (fun t => t = s ∨ RestsOrRises t) (execHardReset cause rom s) := by
    refine runIf_answers (.inl rfl) fun _ => .inr ?_
    rw [settle_powerOn]
    exact asleep_rests rfl rfl
  exact hanswers t h

/-- Before READY the blocks stay at rest or start-up ends; from READY on the indices move round their rings. -/
theorem exec_ringsAnswer {s t : State} (c : Instr) (h : AsleepBeforeReady s) (ht : exec c s = .next t) :
    AsleepBeforeReady t ∧ (IndicesOk s → IndicesOk t) := by
  by_cases hready : s.boot.stage = .ready
  case neg =>
    obtain ⟨hr, hs, -⟩ := h hready
    rw [eq_asleep h hready] at ht
    obtain ⟨hasleep, hindices⟩ := exec_asleep hready hr hs c t ht
    exact ⟨hasleep, fun _ => hindices⟩
  case pos =>
    by_cases hc : ∃ cause rom, c = .hardReset cause rom
    · obtain ⟨cause, rom, rfl⟩ := hc
      obtain rfl | ⟨hasleep, hindices⟩ := execHardReset_rests s cause rom ht
      · exact ⟨h, id⟩
      · exact ⟨hasleep, fun _ => hindices⟩
    · obtain ⟨hstage, hindices⟩ :=
        exec_keepsRings s hready c (fun cause rom e => hc ⟨cause, rom, e⟩) t ht
      exact ⟨fun hn => absurd (hstage.trans hready) hn, hindices⟩

/-- Settles O6: the shape of the part before READY, and the ring indices row by row from READY on. -/
theorem ringIndicesStayInTheRings : Obligations.RingIndicesStayInTheRings :=
  ⟨fun c _ _ h ht => (exec_ringsAnswer c h ht).1, fun c _ _ h hs ht => (exec_ringsAnswer c h ht).2 hs⟩

end Sys2Proof.Machine
end

section
/-! PROOFS. Page memory at an engine reset (01 R16, R25): the operations that hand bands back, and the three
passes over the slots. -/

namespace Sys2Proof.Machine

/-! ## Bands handed back -/

/-- `t` is `s` behind operations that hand bands back: page records, the use and the tail of the free list,
the count of bands returned, and the band-pool condition with its events. -/
structure HandsBack (s t : State) : Prop where
  only : t = { s with page := t.page, sensor := t.sensor }
  page : t.page = { s.page with
    used := t.page.used, free := t.page.free, slots := t.page.slots, low := t.page.low
    returned := t.page.returned }
  free : s.page.free <+: t.page.free
  returned : t.page.returned =
    s.page.returned + BitVec.ofNat 16 (t.page.free.length - s.page.free.length)
  used : ∀ b, t.bandUsed b ≤ s.bandUsed b
  gen : ∀ i, (t.slot i).gen = (s.slot i).gen

/-- A band in the free list, none of its lines in use. -/
def State.BandFree (s : State) (b : Nat) : Prop := b ∈ s.page.free ∧ s.bandUsed b = 0

section
variable {s t u : State} {i j : Fin 16} {p : Page} {bs : List Nat} {b : Nat}

theorem HandsBack.refl (s : State) : HandsBack s s :=
  ⟨rfl, rfl, ⟨[], List.append_nil _⟩, by simp, fun _ => Nat.le_refl _, fun _ => rfl⟩

theorem HandsBack.trans (h : HandsBack s t) (k : HandsBack t u) : HandsBack s u where
  only := by rw [k.only, h.only]
  page := by rw [k.page, h.page]
  free := h.free.trans k.free
  returned := by
    have hst := h.free.length_le
    have htu := k.free.length_le
    have hsum : t.page.free.length - s.page.free.length + (u.page.free.length - t.page.free.length) =
        u.page.free.length - s.page.free.length := by omega
    rw [k.returned, h.returned, BitVec.add_assoc, ← BitVec.ofNat_add, hsum]
  used b := (k.used b).trans (h.used b)
  gen i := (k.gen i).trans (h.gen i)

theorem HandsBack.bandFree (h : HandsBack s t) (hb : s.BandFree b) : t.BandFree b :=
  ⟨h.free.subset hb.1, Nat.le_zero.mp (hb.2 ▸ h.used b)⟩

theorem HandsBack.bands (h : HandsBack s t) (hb : b ∈ bs ∨ s.BandFree b) : b ∈ bs ∨ t.BandFree b :=
  hb.imp_right h.bandFree

theorem setSlot_handsBack (hp : p.gen = (s.slot i).gen) : HandsBack s (s.setSlot i p) where
  only := rfl
  page := rfl
  free := ⟨[], List.append_nil _⟩
  returned := by simp [State.setSlot]
  used _ := Nat.le_refl _
  gen j := by
    by_cases h : j = i
    · rw [h, slot_setSlot_self, hp]
    · rw [slot_setSlot_of_ne _ _ h]

theorem returnBands_handsBack : HandsBack s (s.returnBands bs) where
  only := rfl
  page := rfl
  free := ⟨_, rfl⟩
  returned := by simp [State.returnBands]
  used b := by
    rw [returnBands_bandUsed]
    split
    · exact Nat.zero_le _
    · exact Nat.le_refl _
  gen _ := rfl

theorem poolTest_handsBack : HandsBack s s.poolTest where
  only := poolTest_only s
  page := by rw [poolTest_used, poolTest_free', poolTest_slots, poolTest_returned, ← poolTest_page]
  free := by rw [poolTest_free']
  returned := by simp
  used b := (poolTest_bandUsed s b).le
  gen j := by rw [poolTest_slot]

/-- A page record replaced, and bands of the page returned. -/
def State.handing (s : State) (i : Fin 16) (p : Page) (bs : List Nat) : State :=
  ((s.setSlot i p).returnBands bs).poolTest

theorem handing_handsBack (hp : p.gen = (s.slot i).gen) : HandsBack s (s.handing i p bs) :=
  (setSlot_handsBack hp).trans (returnBands_handsBack.trans poolTest_handsBack)

theorem handing_slot_self : (s.handing i p bs).slot i = p := by simp [State.handing]

theorem handing_free : (s.handing i p bs).page.free = s.page.free ++ bs := poolTest_free' _

theorem handing_bandUsed (b : Nat) :
    (s.handing i p bs).bandUsed b = if b ∈ bs then 0 else s.bandUsed b :=
  (poolTest_bandUsed _ b).trans (returnBands_bandUsed (s.setSlot i p) bs b)

theorem handing_bandFree (h : b ∈ bs) : (s.handing i p bs).BandFree b :=
  ⟨handing_free ▸ List.mem_append_right _ h, (handing_bandUsed b).trans (if_pos h)⟩

/-- A band of the page stays in its chain or is free. -/
theorem handing_bands (h : ∀ b ∈ (s.slot i).chain, b ∈ p.chain ∨ b ∈ bs) :
    ∀ b ∈ (s.slot i).chain, b ∈ ((s.handing i p bs).slot i).chain ∨ (s.handing i p bs).BandFree b := by
  intro b hb
  rw [handing_slot_self]
  exact (h b hb).imp_right handing_bandFree

/-! ## Freeing behind a reader, and the release test -/

/-- Freeing behind a reader leaves the page, or hands back its first band (01 R18). -/
theorem freeBehind_cases (s : State) (i : Fin 16) : s.freeBehind i = s ∨
    ∃ b rest, (s.slot i).chain = b :: rest ∧ (s.slot i).consume = true ∧ s.freeBehind i =
      s.handing i { s.slot i with chain := rest, freed := (s.slot i).freed + 64 } [b] := by
  unfold State.freeBehind
  dsimp only
  split
  next b rest n hchain _ =>
    split
    next h => exact .inr ⟨b, rest, hchain, h.1, rfl⟩
    next => exact .inl rfl
  next => exact .inl rfl

theorem freeBehind_handsBack (s : State) (i : Fin 16) : HandsBack s (s.freeBehind i) := by
  obtain h | ⟨b, rest, -, -, h⟩ := freeBehind_cases s i
  · rw [h]
    exact .refl s
  · rw [h]
    exact handing_handsBack rfl

theorem freeBehind_bands (s : State) (i : Fin 16) : ∀ b ∈ (s.slot i).chain,
    b ∈ ((s.freeBehind i).slot i).chain ∨ (s.freeBehind i).BandFree b := by
  obtain h | ⟨c, rest, hchain, -, h⟩ := freeBehind_cases s i
  · rw [h]
    exact fun b => .inl
  · rw [h]
    refine handing_bands fun b hb => ?_
    rw [hchain] at hb
    exact (List.mem_cons.mp hb).symm.imp_right List.mem_singleton.mpr

theorem freeBehind_of_kept_page (h : (s.slot i).consume = false) : s.freeBehind i = s := by
  obtain h' | ⟨_, _, -, hc, -⟩ := freeBehind_cases s i
  · exact h'
  · exact absurd (h.symm.trans hc) nofun

theorem freeBehind_bandUsed_of_not_mem (h : b ∉ (s.slot i).chain) :
    (s.freeBehind i).bandUsed b = s.bandUsed b := by
  obtain h' | ⟨c, rest, hchain, -, h'⟩ := freeBehind_cases s i
  · rw [h']
  · rw [h', handing_bandUsed, if_neg]
    rw [hchain] at h
    exact fun hb => h (List.mem_singleton.mp hb ▸ List.mem_cons_self)

theorem releaseTest_handsBack (s : State) (i : Fin 16) : HandsBack s (s.releaseTest i) := by
  by_cases h : (s.slot i).state = .complete ∧ (s.slot i).release ∧ (s.slot i).readers = 0
  · rw [releaseTest_of s h]
    exact handing_handsBack rfl
  · rw [releaseTest_of_not s h]
    exact .refl s

/-! ## The completion of a page (01 R16) -/

theorem getD_set_le {l : List Nat} {v : Nat} (b c : Nat) (h : v ≤ l.getD b 0) :
    (l.set b v).getD c 0 ≤ l.getD c 0 := by
  by_cases hc : c = b
  · subst hc
    by_cases hlen : c < l.length
    · rwa [getD_set_self hlen]
    · rw [List.set_eq_of_length_le (Nat.not_lt.mp hlen)]
  · rw [getD_set_of_ne _ hc]

/-- Dropping lines, from the last band back, raises the use of no band. -/
theorem dropUsed_getD_le (used bs : List Nat) (d c : Nat) :
    (dropUsed used bs d).getD c 0 ≤ used.getD c 0 := by
  induction bs generalizing used d with
  | nil => exact Nat.le_refl _
  | cons b rest ih => exact (ih _ _).trans (getD_set_le b c (Nat.sub_le _ _))

theorem dropUsed_getD_of_not_mem {bs : List Nat} (h : b ∉ bs) (used : List Nat) (d : Nat) :
    (dropUsed used bs d).getD b 0 = used.getD b 0 := by
  induction bs generalizing used d with
  | nil => rfl
  | cons c rest ih =>
    obtain ⟨hc, hrest⟩ := not_or.mp (mt List.mem_cons.mpr h)
    exact (ih hrest _ _).trans (getD_set_of_ne _ hc _)

/-- No line is left to drop. -/
theorem dropUsed_zero_getD (used bs : List Nat) (c : Nat) :
    (dropUsed used bs 0).getD c 0 = used.getD c 0 := by
  induction bs generalizing used with
  | nil => rfl
  | cons b rest ih =>
    rw [dropUsed, Nat.zero_sub, ih]
    by_cases hc : c = b
    · subst hc
      by_cases hlen : c < used.length
      · exact getD_set_self hlen _
      · rw [List.set_eq_of_length_le (Nat.not_lt.mp hlen)]
    · exact getD_set_of_ne _ hc _

/-- The last band has room for all the lines dropped. -/
theorem dropUsed_getD_head {used : List Nat} {d : Nat} (h : d ≤ used.getD b 0) (bs : List Nat) :
    (dropUsed used (b :: bs) d).getD b 0 = used.getD b 0 - d := by
  rw [dropUsed, Nat.sub_eq_zero_of_le h, dropUsed_zero_getD]
  by_cases hlen : b < used.length
  · exact getD_set_self hlen _
  · have hzero : used.getD b 0 = 0 := List.getD_eq_default _ _ (Nat.not_lt.mp hlen)
    rw [List.set_eq_of_length_le (Nat.not_lt.mp hlen), hzero, Nat.zero_sub]

/-- The lines assigned to a page and not stored are dropped. -/
def State.linesDropped (s : State) (i : Fin 16) : State :=
  { s with page := { s.page with
    used := dropUsed s.page.used (s.slot i).chain.reverse ((s.slot i).assigned - (s.slot i).stored) } }

/-- A page completed as truncated. -/
def Page.cutShort (p : Page) : Page :=
  { p with state := .complete, writer := none, assigned := p.stored, truncated := true }

theorem linesDropped_slot : (s.linesDropped i).slot j = s.slot j := rfl

theorem linesDropped_handsBack : HandsBack s (s.linesDropped i) where
  only := rfl
  page := rfl
  free := ⟨[], List.append_nil _⟩
  returned := by simp [State.linesDropped]
  used b := dropUsed_getD_le _ _ _ b
  gen _ := rfl

theorem linesDropped_bandUsed_of_not_mem (h : b ∉ (s.slot i).chain) :
    (s.linesDropped i).bandUsed b = s.bandUsed b :=
  dropUsed_getD_of_not_mem (mt List.mem_reverse.mp h) _ _

theorem linesDropped_bandUsed_last (h : (s.slot i).chain.getLast? = some b)
    (hd : (s.slot i).assigned - (s.slot i).stored ≤ s.bandUsed b) :
    (s.linesDropped i).bandUsed b = s.bandUsed b - ((s.slot i).assigned - (s.slot i).stored) := by
  obtain ⟨front, hchain⟩ := List.getLast?_eq_some_iff.mp h
  have hreverse : (s.slot i).chain.reverse = b :: front.reverse := by rw [hchain, List.reverse_append]; rfl
  unfold State.bandUsed State.linesDropped
  rw [hreverse]
  exact dropUsed_getD_head hd _

/-- The last band keeps a line, or there is none. -/
theorem closePage_of_left
    (h : ∀ b, (s.slot i).chain.getLast? = some b → (s.linesDropped i).bandUsed b ≠ 0) :
    s.closePage i true = ((s.linesDropped i).setSlot i (s.slot i).cutShort).freeBehind i := by
  have hleft : ((s.slot i).chain.getLast?.all fun b => decide ((dropUsed s.page.used
      (s.slot i).chain.reverse ((s.slot i).assigned - (s.slot i).stored)).getD b 0 ≠ 0)) = true :=
    (Option.all_eq_true _ _).mpr fun b hb => decide_eq_true (h b hb)
  unfold State.closePage
  simp only [hleft, if_true, Bool.or_true]
  rfl

/-- The last band, emptied, is handed back. -/
theorem closePage_of_emptied (h : (s.slot i).chain.getLast? = some b)
    (hb : (s.linesDropped i).bandUsed b = 0) : s.closePage i true =
      ((s.linesDropped i).handing i
        { (s.slot i).cutShort with chain := (s.slot i).chain.dropLast } [b]).freeBehind i := by
  obtain ⟨front, hchain⟩ := List.getLast?_eq_some_iff.mp h
  have hleft : ((s.slot i).chain.getLast?.all fun b => decide ((dropUsed s.page.used
      (s.slot i).chain.reverse ((s.slot i).assigned - (s.slot i).stored)).getD b 0 ≠ 0)) = false := by
    rw [h]
    exact decide_eq_false (not_not_intro hb)
  have hdrop : (s.slot i).chain.drop ((s.slot i).chain.length - 1) = [b] := by simp [hchain]
  unfold State.closePage
  simp only [hleft, hdrop, Bool.false_eq_true, if_false, Bool.or_true]
  rfl

/-- `t` is `s` behind the completion of page `i` as truncated. -/
structure PageCut (i : Fin 16) (s t : State) : Prop where
  handsBack : HandsBack s t
  others : ∀ j, j ≠ i → t.slot j = s.slot j
  page : ∃ chain freed, t.slot i = { (s.slot i).cutShort with chain, freed }
  bands : ∀ b ∈ (s.slot i).chain, b ∈ (t.slot i).chain ∨ t.BandFree b
  used : ∀ b, b ∉ (s.slot i).chain → t.bandUsed b = s.bandUsed b
  chain : ∀ b ∈ (t.slot i).chain, b ∈ (s.slot i).chain

theorem freeBehind_chain : ∀ b ∈ ((s.freeBehind i).slot i).chain, b ∈ (s.slot i).chain := by
  obtain h | ⟨c, rest, hchain, -, h⟩ := freeBehind_cases s i
  · rw [h]
    exact fun b => id
  · rw [h, handing_slot_self, hchain]
    exact fun b => List.mem_cons_of_mem c

/-- What frees behind a reader after a completion leaves it a completion. -/
theorem PageCut.freeBehind (h : PageCut i s t) : PageCut i s (t.freeBehind i) where
  handsBack := h.handsBack.trans (freeBehind_handsBack t i)
  others j hj := (freeBehind_slot_of_ne t hj).trans (h.others j hj)
  page := by
    obtain ⟨chain, freed, hslot⟩ := freeBehind_slot t i
    obtain ⟨_, _, hpage⟩ := h.page
    exact ⟨chain, freed, by rw [hslot, hpage]⟩
  bands b hb := (h.bands b hb).elim (freeBehind_bands t i b) fun hf =>
    .inr ((freeBehind_handsBack t i).bandFree hf)
  used b hb := (freeBehind_bandUsed_of_not_mem fun hm => hb (h.chain b hm)).trans (h.used b hb)
  chain b hb := h.chain b (freeBehind_chain b hb)

theorem setSlot_pageCut : PageCut i s ((s.linesDropped i).setSlot i (s.slot i).cutShort) where
  handsBack := linesDropped_handsBack.trans (setSlot_handsBack rfl)
  others j hj := slot_setSlot_of_ne (s.linesDropped i) _ hj
  page := ⟨_, _, slot_setSlot_self _ _ _⟩
  bands b hb := .inl (by rw [slot_setSlot_self]; exact hb)
  used b hb := linesDropped_bandUsed_of_not_mem hb
  chain b hb := by rw [slot_setSlot_self] at hb; exact hb

theorem handing_slot_of_ne (h : j ≠ i) : (s.handing i p bs).slot j = s.slot j := by
  simp [State.handing, slot_setSlot_of_ne _ _ h]

theorem handing_pageCut (h : (s.slot i).chain.getLast? = some b) :
    PageCut i s ((s.linesDropped i).handing i
      { (s.slot i).cutShort with chain := (s.slot i).chain.dropLast } [b]) where
  handsBack := linesDropped_handsBack.trans (handing_handsBack rfl)
  others j hj := (handing_slot_of_ne hj).trans linesDropped_slot
  page := ⟨_, _, handing_slot_self⟩
  bands := by
    refine handing_bands (s := s.linesDropped i) fun c hc => ?_
    obtain ⟨front, hchain⟩ := List.getLast?_eq_some_iff.mp h
    rw [linesDropped_slot, hchain] at hc
    rw [hchain, List.dropLast_concat]
    exact List.mem_append.mp hc
  used c hc := by
    rw [handing_bandUsed, if_neg, linesDropped_bandUsed_of_not_mem hc]
    exact fun hm => hc (List.mem_singleton.mp hm ▸ List.mem_of_getLast? h)
  chain c hc := by
    rw [handing_slot_self] at hc
    exact List.mem_of_mem_dropLast hc

theorem closePage_pageCut : PageCut i s (s.closePage i true) := by
  cases hlast : (s.slot i).chain.getLast? with
  | none =>
    rw [closePage_of_left fun b hb => absurd (hlast.symm.trans hb) nofun]
    exact setSlot_pageCut.freeBehind
  | some b =>
    by_cases hb : (s.linesDropped i).bandUsed b = 0
    · rw [closePage_of_emptied hlast hb]
      exact (handing_pageCut hlast).freeBehind
    · rw [closePage_of_left fun c hc => Option.some.inj (hlast.symm.trans hc) ▸ hb]
      exact setSlot_pageCut.freeBehind

/-! ## A page that is not consumed (01 R16, R18) -/

section
variable (hkeep : (s.slot i).consume = false)
include hkeep

theorem closePage_of_unconsumed_left
    (h : ∀ b, (s.slot i).chain.getLast? = some b → (s.linesDropped i).bandUsed b ≠ 0) :
    s.closePage i true = (s.linesDropped i).setSlot i (s.slot i).cutShort := by
  rw [closePage_of_left h]
  exact freeBehind_of_kept_page (by rw [slot_setSlot_self]; exact hkeep)

theorem closePage_of_unconsumed_emptied (h : (s.slot i).chain.getLast? = some b)
    (hb : (s.linesDropped i).bandUsed b = 0) : s.closePage i true =
      (s.linesDropped i).handing i
        { (s.slot i).cutShort with chain := (s.slot i).chain.dropLast } [b] := by
  rw [closePage_of_emptied h hb]
  exact freeBehind_of_kept_page (by rw [handing_slot_self]; exact hkeep)

theorem closePage_unconsumed_freed : ((s.closePage i true).slot i).freed = (s.slot i).freed := by
  by_cases h : ∀ b, (s.slot i).chain.getLast? = some b → (s.linesDropped i).bandUsed b ≠ 0
  · rw [closePage_of_unconsumed_left hkeep h, slot_setSlot_self]
    rfl
  · push Not at h
    obtain ⟨b, hlast, hb⟩ := h
    rw [closePage_of_unconsumed_emptied hkeep hlast hb, handing_slot_self]
    rfl

variable (hlast : (s.slot i).chain.getLast? = some b)
include hlast

/-- Fewer lines dropped than the last band holds: it stays. -/
theorem closePage_unconsumed_keeps (h : (s.slot i).assigned - (s.slot i).stored < s.bandUsed b) :
    ((s.closePage i true).slot i).chain = (s.slot i).chain := by
  have hused := linesDropped_bandUsed_last hlast h.le
  rw [closePage_of_unconsumed_left hkeep, slot_setSlot_self]
  · rfl
  · intro c hc
    obtain rfl := Option.some.inj (hlast.symm.trans hc)
    omega

/-- All the lines of the last band dropped: it goes. -/
theorem closePage_unconsumed_empties (h : (s.slot i).assigned - (s.slot i).stored = s.bandUsed b) :
    ((s.closePage i true).slot i).chain = (s.slot i).chain.dropLast ∧ b ∈ (s.closePage i true).page.free := by
  have hused := linesDropped_bandUsed_last hlast h.le
  rw [closePage_of_unconsumed_emptied hkeep hlast (by omega), handing_slot_self, handing_free]
  exact ⟨rfl, List.mem_append_right _ (List.mem_singleton.mpr rfl)⟩

end

end

end Sys2Proof.Machine
end


section
/-! PROOFS. Page memory at an engine reset (01 R25): the three passes over the slots, slot by slot. -/

namespace Sys2Proof.Machine

/-! ## A pass over the slots -/

section
variable {step : State → Fin 16 → State} {s : State} {i : Fin 16} {l : List (Fin 16)}

theorem foldl_handsBack (hstep : ∀ s i, HandsBack s (step s i)) : HandsBack s (l.foldl step s) := by
  induction l generalizing s with
  | nil => exact .refl s
  | cons j rest ih => exact (hstep s j).trans ih

theorem nodup_split (hn : l.Nodup) (hi : i ∈ l) : ∃ a b, l = a ++ i :: b ∧ i ∉ a ∧ i ∉ b ∧ a.Nodup := by
  obtain ⟨a, b, rfl⟩ := List.append_of_mem hi
  obtain ⟨ha, hb, hd⟩ := List.nodup_append.mp hn
  exact ⟨a, b, rfl, fun h => hd i h i List.mem_cons_self rfl, (List.nodup_cons.mp hb).1, ha⟩

/-- A pass of steps that each touch their own slot alone reaches slot `i` as it was, and leaves it as its step
leaves it. -/
theorem foldl_reaches (hne : ∀ s i j, j ≠ i → (step s i).slot j = s.slot j)
    (hback : ∀ s i, HandsBack s (step s i)) (hn : l.Nodup) (hi : i ∈ l) :
    ∃ a : List (Fin 16), i ∉ a ∧ a.Nodup ∧ HandsBack s (a.foldl step s) ∧ (a.foldl step s).slot i = s.slot i ∧
      HandsBack (step (a.foldl step s) i) (l.foldl step s) ∧
      (l.foldl step s).slot i = (step (a.foldl step s) i).slot i := by
  obtain ⟨a, b, rfl, ha, hb, hna⟩ := nodup_split hn hi
  refine ⟨a, ha, hna, foldl_handsBack hback, foldl_get_of_not_mem hne ha s, ?_, ?_⟩
  all_goals rw [List.foldl_append, List.foldl_cons]
  · exact foldl_handsBack hback
  · exact foldl_get_of_not_mem hne hb _

end

/-! ## The first pass: every FILLING page is completed -/

/-- A FILLING page is completed as truncated. -/
def State.cutFilling (s : State) (i : Fin 16) : State :=
  if (s.slot i).state = .filling then s.closePage i true else s

section
variable {s : State} {i j : Fin 16} {b : Nat} {l : List (Fin 16)}

theorem closeFilling_eq (s : State) (l : List (Fin 16)) : s.closeFilling l = l.foldl State.cutFilling s := by
  induction l generalizing s with
  | nil => rfl
  | cons i rest ih => exact ih _

theorem cutFilling_of_filling (h : (s.slot i).state = .filling) : s.cutFilling i = s.closePage i true :=
  if_pos h

theorem cutFilling_of_not (h : (s.slot i).state ≠ .filling) : s.cutFilling i = s := if_neg h

theorem cutFilling_handsBack (s : State) (i : Fin 16) : HandsBack s (s.cutFilling i) := by
  by_cases h : (s.slot i).state = .filling
  · rw [cutFilling_of_filling h]
    exact closePage_pageCut.handsBack
  · rw [cutFilling_of_not h]
    exact .refl s

theorem cutFilling_slot_of_ne (s : State) (i j : Fin 16) (h : j ≠ i) :
    (s.cutFilling i).slot j = s.slot j := by
  by_cases hf : (s.slot i).state = .filling
  · rw [cutFilling_of_filling hf]
    exact closePage_pageCut.others j h
  · rw [cutFilling_of_not hf]

theorem closeFilling_handsBack : HandsBack s (s.closeFilling l) := by
  rw [closeFilling_eq]
  exact foldl_handsBack cutFilling_handsBack

/-- A band of no page that the pass completes keeps its lines. -/
theorem foldl_cutFilling_bandUsed (hn : l.Nodup) (h : ∀ j ∈ l, b ∉ (s.slot j).chain) :
    (l.foldl State.cutFilling s).bandUsed b = s.bandUsed b := by
  induction l generalizing s with
  | nil => rfl
  | cons j rest ih =>
    obtain ⟨hj, hrest⟩ := List.nodup_cons.mp hn
    have hstep : (s.cutFilling j).bandUsed b = s.bandUsed b := by
      by_cases hf : (s.slot j).state = .filling
      · rw [cutFilling_of_filling hf]
        exact closePage_pageCut.used b (h j List.mem_cons_self)
      · rw [cutFilling_of_not hf]
    rw [List.foldl_cons, ih hrest, hstep]
    intro k hk
    rw [cutFilling_slot_of_ne s j k fun e => hj (e ▸ hk)]
    exact h k (List.mem_cons_of_mem j hk)

theorem closeFilling_slot_of_not (h : (s.slot i).state ≠ .filling) :
    (s.closeFilling ids16).slot i = s.slot i := by
  obtain ⟨a, -, -, -, hslot, -, hlast⟩ :=
    foldl_reaches (s := s) cutFilling_slot_of_ne cutFilling_handsBack ids16_nodup (mem_ids16 i)
  rw [closeFilling_eq, hlast, cutFilling_of_not (by rwa [hslot]), hslot]

/-- A page FILLING at the reset meets its completion as it was, and is left as the completion leaves it. -/
theorem closeFilling_reaches (h : (s.slot i).state = .filling) : ∃ u, HandsBack s u ∧ u.slot i = s.slot i ∧
    (∀ b, (∀ j, j ≠ i → b ∉ (s.slot j).chain) → u.bandUsed b = s.bandUsed b) ∧
    HandsBack (u.closePage i true) (s.closeFilling ids16) ∧
    (s.closeFilling ids16).slot i = (u.closePage i true).slot i := by
  obtain ⟨a, hi, hn, hback, hslot, hafter, hlast⟩ :=
    foldl_reaches (s := s) cutFilling_slot_of_ne cutFilling_handsBack ids16_nodup (mem_ids16 i)
  have hstep := cutFilling_of_filling ((congrArg Page.state hslot).trans h)
  rw [hstep] at hafter hlast
  rw [closeFilling_eq]
  refine ⟨_, hback, hslot, fun b hb => foldl_cutFilling_bandUsed hn fun j hj => hb j ?_, hafter, hlast⟩
  exact fun e => hi (e ▸ hj)

theorem closeFilling_slot (h : (s.slot i).state = .filling) : ∃ chain freed,
    (s.closeFilling ids16).slot i = { (s.slot i).cutShort with chain, freed } := by
  obtain ⟨u, -, hslot, -, -, hlast⟩ := closeFilling_reaches h
  obtain ⟨chain, freed, hpage⟩ := (closePage_pageCut (s := u) (i := i)).page
  exact ⟨chain, freed, by rw [hlast, hpage, hslot]⟩

theorem closeFilling_bands : ∀ b ∈ (s.slot i).chain,
    b ∈ ((s.closeFilling ids16).slot i).chain ∨ (s.closeFilling ids16).BandFree b := by
  intro b hb
  by_cases h : (s.slot i).state = .filling
  · obtain ⟨u, -, hslot, -, hafter, hlast⟩ := closeFilling_reaches h
    rw [← hslot] at hb
    rw [hlast]
    exact hafter.bands ((closePage_pageCut (s := u) (i := i)).bands b hb)
  · rw [closeFilling_slot_of_not h]
    exact .inl hb

end

/-! ## The second pass: the readers leave -/

/-- No reader is left. -/
def Page.unread (p : Page) : Page := { p with readPrint := false, readCodeOut := false }

@[simp] theorem unread_state (p : Page) : p.unread.state = p.state := rfl

@[simp] theorem unread_release (p : Page) : p.unread.release = p.release := rfl

@[simp] theorem unread_readers (p : Page) : p.unread.readers = 0 := rfl

@[simp] theorem unread_gen (p : Page) : p.unread.gen = p.gen := rfl

@[simp] theorem unread_chain (p : Page) : p.unread.chain = p.chain := rfl

/-- The readers of a slot leave. -/
def State.unreadSlot (s : State) (i : Fin 16) : State := s.setSlot i (s.slot i).unread

section
variable {s : State} {i : Fin 16} {l : List (Fin 16)}

theorem dropReaders_eq (s : State) (l : List (Fin 16)) : s.dropReaders l = l.foldl State.unreadSlot s := by
  induction l generalizing s with
  | nil => rfl
  | cons i rest ih => exact ih _

theorem unreadSlot_handsBack (s : State) (i : Fin 16) : HandsBack s (s.unreadSlot i) := setSlot_handsBack rfl

theorem dropReaders_handsBack : HandsBack s (s.dropReaders l) := by
  rw [dropReaders_eq]
  exact foldl_handsBack unreadSlot_handsBack

theorem dropReaders_slot : (s.dropReaders ids16).slot i = (s.slot i).unread := by
  rw [dropReaders_eq]
  exact foldl_get_of_mem (get := State.slot) (f := fun _ p => p.unread)
    (fun s i j h => slot_setSlot_of_ne s _ h) (fun s i => slot_setSlot_self s i _) ids16_nodup
    (mem_ids16 i) s

end

/-! ## The third pass: the releases that are due -/

section
variable {s : State} {i : Fin 16} {l : List (Fin 16)}

theorem releaseAll_eq (s : State) (l : List (Fin 16)) : s.releaseAll l = l.foldl State.releaseTest s := by
  induction l generalizing s with
  | nil => rfl
  | cons i rest ih => exact ih _

theorem releaseAll_handsBack : HandsBack s (s.releaseAll l) := by
  rw [releaseAll_eq]
  exact foldl_handsBack releaseTest_handsBack

theorem releaseAll_slot_of_not
    (h : ¬((s.slot i).state = .complete ∧ (s.slot i).release ∧ (s.slot i).readers = 0)) :
    (s.releaseAll ids16).slot i = s.slot i := by
  obtain ⟨a, -, -, -, hslot, -, hlast⟩ := foldl_reaches (s := s)
    (fun s i j h => releaseTest_slot_of_ne s h) releaseTest_handsBack ids16_nodup (mem_ids16 i)
  rw [releaseAll_eq, hlast, releaseTest_of_not _ (by rwa [hslot]), hslot]

theorem releaseAll_slot (h : (s.slot i).state = .complete ∧ (s.slot i).release ∧ (s.slot i).readers = 0) :
    (s.releaseAll ids16).slot i = { Page.reset with gen := (s.slot i).gen } ∧
      ∀ b ∈ (s.slot i).chain, (s.releaseAll ids16).BandFree b := by
  obtain ⟨a, -, -, -, hslot, hafter, hlast⟩ := foldl_reaches (s := s)
    (fun s i j h => releaseTest_slot_of_ne s h) releaseTest_handsBack ids16_nodup (mem_ids16 i)
  rw [releaseTest_of _ (by rwa [hslot]), ← State.handing, hslot] at hafter hlast
  rw [releaseAll_eq]
  exact ⟨hlast.trans handing_slot_self, fun b hb => hafter.bandFree (handing_bandFree hb)⟩

end

/-! ## The three passes together -/

/-- Page memory behind the three passes. -/
def State.pagesLeft (s : State) : State := ((s.closeFilling ids16).dropReaders ids16).releaseAll ids16

section
variable {s : State} {i : Fin 16} {b : Nat}

theorem closeFilling_pagesLeft : HandsBack (s.closeFilling ids16) s.pagesLeft := by
  have hdrop : HandsBack (s.closeFilling ids16) ((s.closeFilling ids16).dropReaders ids16) :=
    dropReaders_handsBack
  exact hdrop.trans releaseAll_handsBack

theorem pagesLeft_handsBack : HandsBack s s.pagesLeft := closeFilling_handsBack.trans closeFilling_pagesLeft

theorem pagesLeft_slot_of_not (h : ¬(((s.closeFilling ids16).slot i).state = .complete ∧
      ((s.closeFilling ids16).slot i).release = true)) :
    s.pagesLeft.slot i = ((s.closeFilling ids16).slot i).unread := by
  rw [State.pagesLeft, releaseAll_slot_of_not, dropReaders_slot]
  rw [dropReaders_slot, unread_state, unread_release]
  exact fun hd => h ⟨hd.1, hd.2.1⟩

/-- A page neither FILLING nor to be released only loses its readers. -/
theorem pagesLeft_slot_of_kept
    (h : (s.slot i).state = .empty ∨ (s.slot i).state = .complete ∧ (s.slot i).release = false) :
    s.pagesLeft.slot i = (s.slot i).unread := by
  have hnot : (s.slot i).state ≠ .filling := by
    rcases h with h | ⟨h, -⟩ <;> rw [h] <;> exact nofun
  rw [pagesLeft_slot_of_not, closeFilling_slot_of_not hnot]
  rw [closeFilling_slot_of_not hnot]
  rintro ⟨hstate, hrelease⟩
  rcases h with h | ⟨-, h⟩
  · exact absurd (h.symm.trans hstate) nofun
  · exact absurd (h.symm.trans hrelease) nofun

theorem closeFilling_complete (h : (s.slot i).state ≠ .empty) :
    ((s.closeFilling ids16).slot i).state = .complete ∧
      ((s.closeFilling ids16).slot i).release = (s.slot i).release := by
  by_cases hf : (s.slot i).state = .filling
  · obtain ⟨chain, freed, hslot⟩ := closeFilling_slot hf
    rw [hslot]
    exact ⟨rfl, rfl⟩
  · rw [closeFilling_slot_of_not hf]
    refine ⟨?_, rfl⟩
    cases hs : (s.slot i).state with
    | empty => exact absurd hs h
    | filling => exact absurd hs hf
    | complete => rfl

/-- A page with release pending is released, all its bands free. -/
theorem pagesLeft_slot_of_released (h : (s.slot i).state ≠ .empty) (hr : (s.slot i).release = true) :
    s.pagesLeft.slot i = { Page.reset with gen := (s.slot i).gen } ∧
      ∀ b ∈ (s.slot i).chain, s.pagesLeft.BandFree b := by
  obtain ⟨hcomplete, hrelease⟩ := closeFilling_complete h
  have hslot : ((s.closeFilling ids16).dropReaders ids16).slot i =
      ((s.closeFilling ids16).slot i).unread := dropReaders_slot
  obtain ⟨hreset, hbands⟩ := releaseAll_slot (s := (s.closeFilling ids16).dropReaders ids16) (i := i)
    (by
      rw [hslot, unread_state, unread_release, unread_readers]
      exact ⟨hcomplete, hrelease.trans hr, rfl⟩)
  rw [hslot, unread_gen] at hreset
  rw [hslot, unread_chain] at hbands
  have hclose : HandsBack s (s.closeFilling ids16) := closeFilling_handsBack
  refine ⟨by rw [State.pagesLeft, hreset, hclose.gen i], fun b hb => ?_⟩
  obtain hchain | hfree := closeFilling_bands b hb
  · exact hbands b hchain
  · exact closeFilling_pagesLeft.bandFree hfree

/-- A page FILLING and not to be released is left COMPLETE. -/
theorem pagesLeft_slot_of_filling (h : (s.slot i).state = .filling) (hr : (s.slot i).release = false) :
    s.pagesLeft.slot i = ((s.closeFilling ids16).slot i).unread := by
  refine pagesLeft_slot_of_not fun hd => ?_
  have hrelease := (closeFilling_complete (s := s) (i := i) (by rw [h]; exact nofun)).2
  exact absurd (hd.2.symm.trans (hrelease.trans hr)) nofun

theorem pagesLeft_slot_cut (h : (s.slot i).state = .filling) (hr : (s.slot i).release = false) :
    ∃ chain freed, s.pagesLeft.slot i = { (s.slot i).cutShort.unread with chain, freed } := by
  obtain ⟨chain, freed, hslot⟩ := closeFilling_slot h
  exact ⟨chain, freed, by rw [pagesLeft_slot_of_filling h hr, hslot]; rfl⟩

section
variable (h : (s.slot i).state = .filling) (hr : (s.slot i).release = false)
  (hkeep : (s.slot i).consume = false)
include h hr hkeep

/-- No band of a page that is not consumed is freed behind a reader. -/
theorem pagesLeft_unconsumed_freed : (s.pagesLeft.slot i).freed = (s.slot i).freed := by
  obtain ⟨u, -, hslot, -, -, hlast⟩ := closeFilling_reaches h
  have hfreed := closePage_unconsumed_freed ((congrArg Page.consume hslot).trans hkeep)
  rw [pagesLeft_slot_of_filling h hr, hlast, ← hslot]
  exact hfreed

variable (hb : (s.slot i).chain.getLast? = some b) (howned : ∀ j, j ≠ i → b ∉ (s.slot j).chain)
include hb howned

theorem pagesLeft_unconsumed_keeps (hd : (s.slot i).assigned - (s.slot i).stored < s.bandUsed b) :
    (s.pagesLeft.slot i).chain = (s.slot i).chain := by
  obtain ⟨u, -, hslot, hused, -, hlast⟩ := closeFilling_reaches h
  rw [← hused b howned] at hd
  rw [← hslot] at hkeep hb hd
  rw [pagesLeft_slot_of_filling h hr, hlast, ← hslot]
  exact closePage_unconsumed_keeps hkeep hb hd

theorem pagesLeft_unconsumed_empties (hd : (s.slot i).assigned - (s.slot i).stored = s.bandUsed b) :
    (s.pagesLeft.slot i).chain = (s.slot i).chain.dropLast ∧ b ∈ s.pagesLeft.page.free := by
  obtain ⟨u, -, hslot, hused, hafter, hlast⟩ := closeFilling_reaches h
  rw [← hused b howned] at hd
  rw [← hslot] at hkeep hb hd
  obtain ⟨hchain, hfree⟩ := closePage_unconsumed_empties hkeep hb hd
  rw [pagesLeft_slot_of_filling h hr, hlast, ← hslot]
  exact ⟨hchain, (hafter.trans closeFilling_pagesLeft).free.subset hfree⟩

end

end

end Sys2Proof.Machine
end


section
/-! PROOFS. The level gateways armed again at an engine reset (07 R151): on a machine at rest an occurrence
sets HALTED of the motors of its halt set and makes the entry of its line. -/

namespace Sys2Proof.Machine

/-! ## An occurrence on a machine at rest (07 R141, R142) -/

/-- Every motor is at rest, every channel IDLE, and the part awake. -/
structure Resting (s : State) : Prop where
  motor : ∀ m, (s.motor m).moving = false
  chan : ∀ ch, (s.chan ch).state = .idle
  awake : s.power.state ≠ .sleep

/-- HALTED of a motor behind the halt of line `g`, if the halt set of `c` names the motor. -/
def GateCfg.haltedBy (c : GateCfg) (m : MotorId) (old : Option Halt) (g : Fin 16) : Option Halt :=
  if c.haltSet.getLsbD (motorNumber m) = true then some (mergeHalt old (c.halt g)) else old

section
variable {s t : State} {g : Fin 16} {m : MotorId} {c : GateCfg} {ms : List MotorId} {kind : EventKind}

theorem Resting.congr (h : Resting s) (hm : ∀ m, (t.motor m).moving = (s.motor m).moving)
    (hc : t.chans = s.chans) (hp : t.power = s.power) : Resting t where
  motor m := (hm m).trans (h.motor m)
  chan ch := by
    have hchan : t.chan ch = s.chan ch := by cases ch <;> simp only [State.chan, hc]
    rw [hchan]
    exact h.chan ch
  awake := hp ▸ h.awake

theorem actPauses_of_resting (h : Resting s) (chs : List Channel) : s.actPauses g c chs = s := by
  induction chs with
  | nil => rfl
  | cons ch rest ih =>
    rw [State.actPauses, askPause_of_refused (.inl (h.chan ch)), ite_self]
    exact ih

theorem actionHalt_of_resting (h : Resting s) (mode : HaltMode) : s.actionHalt m mode g =
    { s with motors := { s.motors.set m
      { s.motor m with halted := some (mergeHalt (s.motor m).halted { mode, cause := .line g }) } with
      haltedByAction := true } } := by
  unfold State.actionHalt
  rw [haltMotor_of_rest _ (h.motor m)]
  rfl

theorem actHalts_sensor_of_resting (h : Resting s) : (s.actHalts g c ms).sensor = s.sensor := by
  induction ms generalizing s with
  | nil => rfl
  | cons m rest ih =>
    rw [State.actHalts]
    split
    · rw [ih, actionHalt_of_resting h]
      refine h.congr (fun d => ?_) (actionHalt_chans s m c.haltMode g) (actionHalt_power s m c.haltMode g)
      rw [actionHalt_of_resting h]
      cases m <;> cases d <;> rfl
    · exact ih h

theorem actHalts_motor_of_resting (h : Resting s) (m : MotorId) :
    (s.actHalts g (s.gate g).cfg allMotors).motor m =
      { s.motor m with halted := (s.gate g).cfg.haltedBy m (s.motor m).halted g } := by
  rw [actHalts_motor]
  unfold GateCfg.haltedBy
  split
  next hbit => rw [haltedMotor_of_halted hbit, haltedBy_of_rest (h.motor m)]
  next hbit => rw [haltedMotor_of_spared (by simpa using hbit)]

theorem actHalts_resting (h : Resting s) : Resting (s.actHalts g (s.gate g).cfg allMotors) := by
  refine h.congr (fun m => ?_) allHalts_done.chans (by rw [allHalts_done.only])
  rw [actHalts_motor_of_resting h]
  rfl

/-- On a machine at rest an occurrence sets HALTED of motors and raises the event of its line, no more. -/
theorem occur_of_resting (h : Resting s) : s.occur g kind =
    (s.actHalts g (s.gate g).cfg allMotors).raise (lineSource g) kind (.level (s.gate g).high) := by
  rw [occur_of_awake (.inl h.awake), State.acted, actPauses_of_resting (actHalts_resting h)]

theorem actHalts_only_of_resting (h : Resting s) : s.actHalts g (s.gate g).cfg allMotors =
    { s with motors := (s.actHalts g (s.gate g).cfg allMotors).motors } := by
  conv => lhs; rw [allHalts_done.only, actHalts_sensor_of_resting h]

theorem actHalts_motors_of_resting (h : Resting s) :
    (s.actHalts g (s.gate g).cfg allMotors).motors = { s.motors with
      m0 := (s.actHalts g (s.gate g).cfg allMotors).motors.m0
      m1 := (s.actHalts g (s.gate g).cfg allMotors).motors.m1
      m2 := (s.actHalts g (s.gate g).cfg allMotors).motors.m2
      haltedByAction := s.motors.haltedByAction || (s.gate g).cfg.haltSet != 0 } := by
  have hstops : allMotors.filter (s.stopsNow (s.gate g).cfg) = [] :=
    List.filter_eq_nil_iff.mpr fun m _ => by rw [stopsNow_eq_false (.inr (.inl (h.motor m)))]; exact nofun
  have hdone : HaltsDone g (s.gate g).cfg allMotors s _ := allHalts_done
  have hhalts := hdone.halts
  rw [hstops, List.length_nil, BitVec.add_zero] at hhalts
  simp only [← hhalts, ← any_allMotors, ← hdone.action, ← hdone.ramps, ← hdone.steps]

end

/-! ## One line armed again (07 R151) -/

/-- A level gateway is armed; the others stay. -/
def Gateway.rearmed (x : Gateway) : Gateway :=
  { x with armed := x.armed || x.cfg.mode == .levelHigh || x.cfg.mode == .levelLow }

/-- The line gives its occurrence when its gateway is armed again: it was not armed, and its level is
active. -/
def State.occursRearmed (s : State) (g : Fin 16) : Bool :=
  !(s.gate g).armed && ((s.gate g).cfg.mode == .levelHigh && (s.gate g).high ||
    (s.gate g).cfg.mode == .levelLow && !(s.gate g).high)

/-- The gateway of line `g` is armed again. -/
def State.rearmLine (s : State) (g : Fin 16) : State :=
  let u := s.setGate g (s.gate g).rearmed
  if s.occursRearmed g then u.occur g .active else u

section
variable {s t : State} {g : Fin 16}

theorem isLevel_eq (m : GateMode) : m.isLevel = (m == .levelHigh || m == .levelLow) := by cases m <;> rfl

theorem active_eq (m : GateMode) (high : Bool) :
    m.active high = (m == .levelHigh && high || m == .levelLow && !high) := by
  cases m <;> cases high <;> rfl

theorem isLevel_of_active {m : GateMode} {high : Bool} (h : m.active high = true) : m.isLevel = true := by
  cases m <;> first | rfl | exact absurd h nofun

theorem rearmed_of_level {x : Gateway} (h : x.cfg.mode.isLevel = true) :
    x.rearmed = { x with armed := true } := by
  rw [isLevel_eq] at h
  rw [Gateway.rearmed, Bool.or_assoc, h, Bool.or_true]

theorem rearmed_of_edge {x : Gateway} (h : x.cfg.mode.isLevel = false) : x.rearmed = x := by
  rw [isLevel_eq] at h
  rw [Gateway.rearmed, Bool.or_assoc, h, Bool.or_false]

theorem occursRearmed_iff : s.occursRearmed g = true ↔
    (s.gate g).armed = false ∧ (s.gate g).cfg.mode.active (s.gate g).high = true := by
  rw [State.occursRearmed, ← active_eq, Bool.and_eq_true, Bool.not_eq_true']

theorem rearm_cons (g : Fin 16) (gs : List (Fin 16)) : s.rearm (g :: gs) = (s.rearmLine g).rearm gs := by
  rw [State.rearm]
  refine congrArg (fun t : State => t.rearm gs) ?_
  unfold State.rearmLine
  dsimp only
  cases hlevel : (s.gate g).cfg.mode.isLevel with
  | true =>
    rw [if_pos rfl, rearmed_of_level hlevel]
    exact if_congr occursRearmed_iff.symm rfl rfl
  | false =>
    have hsilent : s.occursRearmed g ≠ true := fun h =>
      absurd (hlevel.symm.trans (isLevel_of_active (occursRearmed_iff.mp h).2)) nofun
    rw [if_neg nofun, rearmed_of_edge hlevel, setGate_gate, if_neg hsilent]

theorem lineSource_injective {g h : Fin 16} (e : lineSource g = lineSource h) : g = h := by
  have hval : (lineSource g).val = (lineSource h).val := congrArg Fin.val e
  exact Fin.ext hval

/-- HALTED of a motor behind the rearming of a line: the halt of its occurrence, if there is one, is
merged in. -/
def State.haltedAt (s : State) (m : MotorId) (old : Option Halt) (g : Fin 16) : Option Halt :=
  if s.occursRearmed g then (s.gate g).cfg.haltedBy m old g else old

/-- `t` is `s`, a machine at rest, behind the rearming of the lines `gs`. -/
structure Rearmed (gs : List (Fin 16)) (s t : State) : Prop where
  only : t = { s with motors := t.motors, sensor := t.sensor }
  sensor : t.sensor = { s.sensor with
    gates := t.sensor.gates, sources := t.sensor.sources, raises := t.sensor.raises }
  motors : t.motors = { s.motors with
    m0 := t.motors.m0, m1 := t.motors.m1, m2 := t.motors.m2
    haltedByAction := t.motors.haltedByAction }
  gate : ∀ g ∈ gs, t.gate g = (s.gate g).rearmed
  gateOther : ∀ g, g ∉ gs → t.gate g = s.gate g
  source : ∀ g ∈ gs, t.source (lineSource g) =
    if s.occursRearmed g then (s.source (lineSource g)).raised .active (.level (s.gate g).high)
    else s.source (lineSource g)
  sourceOther : ∀ i, (∀ g ∈ gs, i ≠ lineSource g) → t.source i = s.source i
  raises : t.sensor.raises = s.sensor.raises + BitVec.ofNat 16 (gs.filter s.occursRearmed).length
  action : t.motors.haltedByAction = (s.motors.haltedByAction ||
    gs.any fun g => s.occursRearmed g && (s.gate g).cfg.haltSet != 0)
  motor : ∀ m, t.motor m = { s.motor m with halted := gs.foldl (s.haltedAt m) (s.motor m).halted }

theorem Rearmed.nil : Rearmed [] s s where
  only := rfl
  sensor := rfl
  motors := rfl
  gate _ h := absurd h List.not_mem_nil
  gateOther _ _ := rfl
  source _ h := absurd h List.not_mem_nil
  sourceOther _ _ := rfl
  raises := (BitVec.add_zero _).symm
  action := (Bool.or_false _).symm
  motor _ := rfl

theorem Rearmed.resting {gs : List (Fin 16)} (h : Rearmed gs s t) (hs : Resting s) : Resting t := by
  refine hs.congr (fun m => ?_) (by rw [h.only]) (by rw [h.only])
  rw [h.motor]
  rfl

/-- A line without an occurrence. -/
theorem rearmLine_of_silent (h : s.occursRearmed g = false) : Rearmed [g] s (s.rearmLine g) := by
  have hline : s.rearmLine g = s.setGate g (s.gate g).rearmed := if_neg (by rw [h]; exact nofun)
  rw [hline]
  constructor
  case only => rfl
  case sensor => rfl
  case motors => rfl
  case gate =>
    intro j hj
    obtain rfl := List.mem_singleton.mp hj
    exact gate_setGate_self s j _
  case gateOther => exact fun j hj => gate_setGate_of_ne s _ (mt List.mem_singleton.mpr hj)
  case source =>
    intro j hj
    obtain rfl := List.mem_singleton.mp hj
    rw [setGate_source, if_neg (by rw [h]; exact nofun)]
  case sourceOther => exact fun i _ => setGate_source s g _ i
  case raises => simp [h]
  case action => simp [h]
  case motor =>
    intro m
    have hhalted : s.haltedAt m (s.motor m).halted g = (s.motor m).halted := if_neg (by rw [h]; exact nofun)
    rw [setGate_motor, List.foldl_cons, List.foldl_nil, hhalted]

/-- A line with an occurrence, whose source has no entry. -/
theorem rearmLine_of_occurring (hs : Resting s) (h : s.occursRearmed g = true)
    (he : (s.source (lineSource g)).entry = none) : Rearmed [g] s (s.rearmLine g) := by
  have hrest : Resting (s.setGate g (s.gate g).rearmed) := hs.congr (fun _ => rfl) rfl rfl
  have hgate : (s.setGate g (s.gate g).rearmed).gate g = (s.gate g).rearmed := gate_setGate_self s g _
  have hline : s.rearmLine g = (s.setGate g (s.gate g).rearmed).occur g .active := if_pos h
  have hcfg : (s.gate g).rearmed.cfg = (s.gate g).cfg := rfl
  have hhigh : (s.gate g).rearmed.high = (s.gate g).high := rfl
  have hmotors := actHalts_motors_of_resting (g := g) hrest
  have hmotor := actHalts_motor_of_resting (g := g) hrest
  have honly := actHalts_only_of_resting (g := g) hrest
  rw [hgate, hcfg] at hmotors honly
  simp only [hgate, hcfg] at hmotor
  rw [hline, occur_of_resting hrest, hgate, hcfg, hhigh]
  generalize (s.setGate g (s.gate g).rearmed).actHalts g (s.gate g).cfg allMotors = u at *
  have hsource (i : Fin 24) : u.source i = s.source i := by rw [honly]; rfl
  constructor
  case only => rw [raise_motors, raise_only, honly]; rfl
  case sensor =>
    rw [raise_sensor, hsource, he, honly]
    simp
  case motors => rw [raise_motors, hmotors]; rfl
  case gate =>
    intro j hj
    obtain rfl := List.mem_singleton.mp hj
    rw [State.gate, raise_sensor, honly]
    exact hgate
  case gateOther =>
    intro j hj
    rw [State.gate, raise_sensor, honly]
    exact gate_setGate_of_ne s _ (mt List.mem_singleton.mpr hj)
  case source =>
    intro j hj
    obtain rfl := List.mem_singleton.mp hj
    rw [raise_source_self, hsource, if_pos h]
  case sourceOther =>
    intro i hi
    rw [raise_source_of_ne (hi g (List.mem_singleton_self g)), hsource]
  case raises =>
    rw [raise_sensor, honly]
    simp [h]
  case action =>
    rw [raise_motors, hmotors]
    simp [h]
  case motor =>
    intro m
    have hhalted : s.haltedAt m (s.motor m).halted g =
        (s.gate g).cfg.haltedBy m (s.motor m).halted g := if_pos h
    rw [raise_motor, hmotor, setGate_motor, List.foldl_cons, List.foldl_nil, hhalted]

theorem rearmLine_rearmed (hs : Resting s) (he : (s.source (lineSource g)).entry = none) :
    Rearmed [g] s (s.rearmLine g) := by
  cases h : s.occursRearmed g with
  | false => exact rearmLine_of_silent h
  | true => exact rearmLine_of_occurring hs h he

/-- The rearming of more lines behind that of a line which is not among them. -/
theorem Rearmed.cons {u : State} {gs : List (Fin 16)} (h : Rearmed [g] s t) (k : Rearmed gs t u)
    (hg : g ∉ gs) : Rearmed (g :: gs) s u := by
  have hne {j : Fin 16} (hj : j ∈ gs) : j ≠ g := fun e => hg (e ▸ hj)
  have hgate {j : Fin 16} (hj : j ∈ gs) : t.gate j = s.gate j :=
    h.gateOther j (mt List.mem_singleton.mp (hne hj))
  have hoccurs {j : Fin 16} (hj : j ∈ gs) : t.occursRearmed j = s.occursRearmed j := by
    simp only [State.occursRearmed, hgate hj]
  have hsource {j : Fin 16} (hj : j ≠ g) : t.source (lineSource j) = s.source (lineSource j) :=
    h.sourceOther _ fun i hi e => hj ((lineSource_injective e).trans (List.mem_singleton.mp hi))
  constructor
  case only => rw [k.only, h.only]
  case sensor => rw [k.sensor, h.sensor]
  case motors => rw [k.motors, h.motors]
  case gate =>
    intro j hj
    obtain rfl | hj := List.mem_cons.mp hj
    · rw [k.gateOther j hg, h.gate j (List.mem_singleton_self j)]
    · rw [k.gate j hj, hgate hj]
  case gateOther =>
    intro j hj
    obtain ⟨hjg, hjs⟩ := not_or.mp (mt List.mem_cons.mpr hj)
    rw [k.gateOther j hjs, h.gateOther j (mt List.mem_singleton.mp hjg)]
  case source =>
    intro j hj
    obtain rfl | hj := List.mem_cons.mp hj
    · rw [k.sourceOther _ fun i hi e => hne hi (lineSource_injective e).symm,
        h.source j (List.mem_singleton_self j)]
    · rw [k.source j hj, hoccurs hj, hgate hj, hsource (hne hj)]
  case sourceOther =>
    intro i hi
    rw [k.sourceOther i fun j hj => hi j (List.mem_cons_of_mem g hj),
      h.sourceOther i fun j hj => hi j (List.mem_singleton.mp hj ▸ List.mem_cons_self)]
  case raises =>
    have hfilter : gs.filter t.occursRearmed = gs.filter s.occursRearmed :=
      List.filter_congr fun j hj => hoccurs hj
    have hsplit : (g :: gs).filter s.occursRearmed =
        [g].filter s.occursRearmed ++ gs.filter s.occursRearmed := List.filter_append [g] gs
    rw [k.raises, h.raises, hfilter, hsplit, List.length_append, BitVec.ofNat_add, BitVec.add_assoc]
  case action =>
    have hany : (gs.any fun j => t.occursRearmed j && (t.gate j).cfg.haltSet != 0) =
        gs.any fun j => s.occursRearmed j && (s.gate j).cfg.haltSet != 0 := by
      rw [Bool.eq_iff_iff, List.any_eq_true, List.any_eq_true]
      exact exists_congr fun j => and_congr_right fun hj => by rw [hoccurs hj, hgate hj]
    rw [k.action, h.action, hany]
    simp [Bool.or_assoc]
  case motor =>
    intro m
    have hfold (o : Option Halt) : gs.foldl (t.haltedAt m) o = gs.foldl (s.haltedAt m) o :=
      List.foldl_ext _ _ o fun old j hj => by simp only [State.haltedAt, hoccurs hj, hgate hj]
    rw [k.motor, hfold, h.motor]
    rfl

/-- The lines of a machine at rest armed again, none of their sources having an entry. -/
theorem rearm_rearmed {gs : List (Fin 16)} (hn : gs.Nodup) (hs : Resting s)
    (he : ∀ g ∈ gs, (s.source (lineSource g)).entry = none) : Rearmed gs s (s.rearm gs) := by
  induction gs generalizing s with
  | nil => exact .nil
  | cons g rest ih =>
    obtain ⟨hg, hrest⟩ := List.nodup_cons.mp hn
    have hline : Rearmed [g] s (s.rearmLine g) := rearmLine_rearmed hs (he g List.mem_cons_self)
    rw [rearm_cons]
    refine hline.cons (ih hrest (hline.resting hs) fun j hj => ?_) hg
    have hne : j ≠ g := fun e => hg (e ▸ hj)
    rw [hline.sourceOther _ fun i hi e => hne ((lineSource_injective e).trans (List.mem_singleton.mp hi))]
    exact he j (List.mem_cons_of_mem g hj)

end

/-! ## The halts of several lines (06 R133) -/

section
variable {s : State} {m : MotorId} {g : Fin 16}

/-- The rearming of line `g` halts motor `m`. -/
def State.haltsAt (s : State) (g : Fin 16) (m : MotorId) : Prop :=
  s.occursRearmed g = true ∧ (s.gate g).cfg.haltSet.getLsbD (motorNumber m) = true

theorem haltedAt_of_halts (h : s.haltsAt g m) (old : Option Halt) :
    s.haltedAt m old g = some (mergeHalt old ((s.gate g).cfg.halt g)) :=
  (if_pos h.1).trans (if_pos h.2)

theorem haltedAt_of_not (h : ¬s.haltsAt g m) (old : Option Halt) : s.haltedAt m old g = old := by
  unfold State.haltedAt GateCfg.haltedBy
  split
  next ho => exact if_neg fun hb => h ⟨ho, hb⟩
  next => rfl

theorem halt_mode (c : GateCfg) (g : Fin 16) : (c.halt g).mode = c.haltMode := rfl

/-- An IMMEDIATE halt stays, whatever comes behind it. -/
theorem foldl_haltedAt_immediate (gs : List (Fin 16)) {h : Halt} (hi : h.mode = .immediate) :
    gs.foldl (s.haltedAt m) (some h) = some h := by
  induction gs with
  | nil => rfl
  | cons g rest ih =>
    have hstep : s.haltedAt m (some h) g = some h := by
      by_cases hg : s.haltsAt g m
      · rw [haltedAt_of_halts hg]
        simp [mergeHalt, hi]
      · exact haltedAt_of_not hg _
    rw [List.foldl_cons, hstep, ih]

/-- Behind RAMP halts the first stays. -/
theorem foldl_haltedAt_ramp {gs : List (Fin 16)}
    (hr : ∀ g ∈ gs, s.haltsAt g m → (s.gate g).cfg.haltMode = .ramp)
    (h : Halt) : gs.foldl (s.haltedAt m) (some h) = some h := by
  induction gs with
  | nil => rfl
  | cons g rest ih =>
    have hstep : s.haltedAt m (some h) g = some h := by
      by_cases hg : s.haltsAt g m
      · rw [haltedAt_of_halts hg]
        simp [mergeHalt, halt_mode, hr g List.mem_cons_self hg]
      · exact haltedAt_of_not hg _
    rw [List.foldl_cons, hstep, ih fun j hj => hr j (List.mem_cons_of_mem g hj)]

theorem foldl_haltedAt_none {gs : List (Fin 16)} (hn : ∀ g ∈ gs, ¬s.haltsAt g m) (old : Option Halt) :
    gs.foldl (s.haltedAt m) old = old := by
  induction gs with
  | nil => rfl
  | cons g rest ih =>
    rw [List.foldl_cons, haltedAt_of_not (hn g List.mem_cons_self),
      ih fun j hj => hn j (List.mem_cons_of_mem g hj)]

/-- Behind RAMP halts HALTED is clear or a RAMP halt. -/
theorem foldl_haltedAt_not_immediate {gs : List (Fin 16)}
    (hr : ∀ g ∈ gs, s.haltsAt g m → (s.gate g).cfg.haltMode = .ramp) :
    gs.foldl (s.haltedAt m) none = none ∨
      ∃ h : Halt, h.mode = .ramp ∧ gs.foldl (s.haltedAt m) none = some h := by
  induction gs with
  | nil => exact .inl rfl
  | cons g rest ih =>
    have hrest : ∀ j ∈ rest, s.haltsAt j m → (s.gate j).cfg.haltMode = .ramp :=
      fun j hj => hr j (List.mem_cons_of_mem g hj)
    rw [List.foldl_cons]
    by_cases hg : s.haltsAt g m
    · rw [haltedAt_of_halts hg, foldl_haltedAt_ramp hrest]
      exact .inr ⟨_, hr g List.mem_cons_self hg, rfl⟩
    · rw [haltedAt_of_not hg]
      exact ih hrest

theorem ids16_split (g : Fin 16) : ∃ a b, ids16 = a ++ g :: b ∧ ∀ h ∈ a, h < g := by
  obtain ⟨a, b, hsplit⟩ := List.append_of_mem (mem_ids16 g)
  have hsorted : (a ++ g :: b).Pairwise (· < ·) := hsplit ▸ List.pairwise_lt_finRange 16
  exact ⟨a, b, hsplit, fun h hh => (List.pairwise_append.mp hsorted).2.2 h hh g List.mem_cons_self⟩

theorem halted_of_no_line (h : ∀ g, ¬s.haltsAt g m) : ids16.foldl (s.haltedAt m) none = none :=
  foldl_haltedAt_none (fun g _ => h g) none

/-- The first IMMEDIATE line is the cause. -/
theorem halted_of_immediate (h : s.haltsAt g m) (hi : (s.gate g).cfg.haltMode = .immediate)
    (hr : ∀ j, j < g → s.haltsAt j m → (s.gate j).cfg.haltMode = .ramp) :
    ids16.foldl (s.haltedAt m) none = some { mode := .immediate, cause := .line g } := by
  obtain ⟨a, b, hsplit, hlt⟩ := ids16_split g
  have hhalt : (s.gate g).cfg.halt g = { mode := .immediate, cause := .line g } := by rw [GateCfg.halt, hi]
  rw [hsplit, List.foldl_append, List.foldl_cons, haltedAt_of_halts h, hhalt]
  obtain hnone | ⟨old, hold, hsome⟩ := foldl_haltedAt_not_immediate fun j hj => hr j (hlt j hj)
  · rw [hnone]
    exact foldl_haltedAt_immediate b rfl
  · have hmerge : mergeHalt (some old) { mode := .immediate, cause := .line g } =
        { mode := .immediate, cause := .line g } := if_pos ⟨hold, rfl⟩
    rw [hsome, hmerge]
    exact foldl_haltedAt_immediate b rfl

/-- With RAMP lines alone the first is the cause. -/
theorem halted_of_ramp (h : s.haltsAt g m)
    (hr : ∀ j, s.haltsAt j m → g ≤ j ∧ (s.gate j).cfg.haltMode = .ramp) :
    ids16.foldl (s.haltedAt m) none = some { mode := .ramp, cause := .line g } := by
  obtain ⟨a, b, hsplit, hlt⟩ := ids16_split g
  have hhalt : (s.gate g).cfg.halt g = { mode := .ramp, cause := .line g } := by rw [GateCfg.halt, (hr g h).2]
  have hbefore : ∀ j ∈ a, ¬s.haltsAt j m := fun j hj hh => absurd (hr j hh).1 (not_le.mpr (hlt j hj))
  rw [hsplit, List.foldl_append, List.foldl_cons, foldl_haltedAt_none hbefore, haltedAt_of_halts h, hhalt]
  exact foldl_haltedAt_ramp (fun j _ hj => (hr j hj).2) _

end

end Sys2Proof.Machine
end


section
/-! PROOFS. The DRAM port and the other blocks at an engine reset (10 R193). -/

namespace Sys2Proof.Machine

/-! ## The line work of every channel is cut (01 R22) -/

section
variable {s : State} {ch : Channel}

/-- A cut takes from the port the channel's bursts, and how far a burst has come. -/
theorem cutLineWork_port : (s.cutLineWork ch).port = { s.port with
    busy := s.port.busy.filter fun j => j.lineWork != some ch
    suspended := s.port.suspended.filter fun j => j.lineWork != some ch
    done := (s.cutLineWork ch).port.done
    partialData := (s.cutLineWork ch).port.partialData } := by
  have hbusy : (s.cutBusy ch).port = { s.port with
      busy := s.port.busy.filter fun j => j.lineWork != some ch
      done := (s.cutBusy ch).port.done, partialData := (s.cutBusy ch).port.partialData } := by
    cases hb : s.port.busy with
    | none => rw [cutBusy_of_other (by simp [hb]), Option.filter_none, ← hb]
    | some j =>
      by_cases hj : j.lineWork = some ch
      · have hfilter : (some j).filter (fun j => j.lineWork != some ch) = none := by simp [hj]
        rw [cutBusy_of_own hb hj, hfilter]
        unfold State.dropGrant State.drawn
        dsimp only
        rw [passWords_port]
      · have hfilter : (some j).filter (fun j => j.lineWork != some ch) = some j := by simp [hj]
        rw [cutBusy_of_other (by simpa [hb] using hj), hfilter, ← hb]
  have hsuspended (t : State) : (t.cutSuspended ch).port = { t.port with
      suspended := t.port.suspended.filter fun j => j.lineWork != some ch
      done := (t.cutSuspended ch).port.done, partialData := (t.cutSuspended ch).port.partialData } := by
    cases hs : t.port.suspended with
    | none => rw [cutSuspended_of_other (by simp [hs]), Option.filter_none, ← hs]
    | some j =>
      by_cases hj : j.lineWork = some ch
      · have hfilter : (some j).filter (fun j => j.lineWork != some ch) = none := by simp [hj]
        rw [cutSuspended_of_own hs hj, hfilter]
      · have hfilter : (some j).filter (fun j => j.lineWork != some ch) = some j := by simp [hj]
        rw [cutSuspended_of_other (by simpa [hs] using hj), hfilter, ← hs]
  rw [cutLineWork_eq, hsuspended, hbusy]

end

/-- The line work of the four channels is cut. -/
def State.lineWorkCut (s : State) : State :=
  (((s.cutLineWork .scan).cutLineWork .print).cutLineWork .codeOut).cutLineWork .codeIn

section
variable {s : State}

theorem cutLineWork_of_only {t : State} (h : t = { s with mem := t.mem, port := t.port, free := t.free })
    (ch : Channel) : t.cutLineWork ch = { s with
      mem := (t.cutLineWork ch).mem, port := (t.cutLineWork ch).port, free := (t.cutLineWork ch).free } := by
  rw [cutLineWork_only, h]

theorem lineWorkCut_only : s.lineWorkCut = { s with
    mem := s.lineWorkCut.mem, port := s.lineWorkCut.port, free := s.lineWorkCut.free } :=
  cutLineWork_of_only (cutLineWork_of_only (cutLineWork_of_only (cutLineWork_of_only rfl _) _) _) _

theorem lineWorkCut_page : s.lineWorkCut.page = s.page := by rw [lineWorkCut_only]

theorem lineWorkCut_slot (i : Fin 16) : s.lineWorkCut.slot i = s.slot i := by
  simp only [State.slot, lineWorkCut_page]

theorem lineWorkCut_bandUsed (b : Nat) : s.lineWorkCut.bandUsed b = s.bandUsed b := by
  simp only [State.bandUsed, lineWorkCut_page]

/-- A burst outside the four channels' line work passes the four cuts, and no other does. -/
theorem filter_four (o : Option Job) :
    (((o.filter fun j => j.lineWork != some .scan).filter fun j => j.lineWork != some .print).filter
      fun j => j.lineWork != some .codeOut).filter (fun j => j.lineWork != some .codeIn) =
      o.filter fun j => j.lineWork.isNone := by
  cases o with
  | none => rfl
  | some j =>
    cases hj : j.lineWork with
    | none => simp [Option.filter, hj]
    | some ch => cases ch <;> simp [Option.filter, hj]

theorem lineWorkCut_port : s.lineWorkCut.port = { s.port with
    busy := s.port.busy.filter fun j => j.lineWork.isNone
    suspended := s.port.suspended.filter fun j => j.lineWork.isNone
    done := s.lineWorkCut.port.done
    partialData := s.lineWorkCut.port.partialData } := by
  rw [← filter_four, ← filter_four]
  unfold State.lineWorkCut
  conv => lhs; rw [cutLineWork_port, cutLineWork_port, cutLineWork_port, cutLineWork_port]

/-- Without line work there is nothing to cut. -/
theorem lineWorkCut_of_none
    (h : ∀ j, s.port.busy = some j ∨ s.port.suspended = some j → j.lineWork = none) :
    s.lineWorkCut = s := by
  have hcut (ch : Channel) : s.cutLineWork ch = s := by
    have hne {j : Job} (hj : s.port.busy = some j ∨ s.port.suspended = some j) :
        j.lineWork ≠ some ch := by
      rw [h j hj]
      exact nofun
    rw [cutLineWork_eq, cutBusy_of_other fun j hj => hne (.inl hj),
      cutSuspended_of_other fun j hj => hne (.inr hj)]
  unfold State.lineWorkCut
  rw [hcut, hcut, hcut, hcut]

end

/-! ## The blocks but for the gateways and the power unit (02 R57, 03 R76, 04 R95, 05 R109, 06 R134) -/

section
variable {s : State}

/-- The sources without an entry. -/
def State.emptySources (s : State) : Vector Source 24 :=
  Vector.ofFn fun i => { s.source i with entry := none }

theorem emptyPending_only (is : List (Fin 24)) : s.emptyPending is =
    { s with sensor := { s.sensor with sources := (s.emptyPending is).sensor.sources } } := by
  induction is generalizing s with
  | nil => rfl
  | cons i rest ih => exact ih

theorem emptyPending_eq_foldl (is : List (Fin 24)) : s.emptyPending is =
    is.foldl (fun t i => t.setSource i { t.source i with entry := none }) s := by
  induction is generalizing s with
  | nil => rfl
  | cons i rest ih => exact ih

theorem emptyPending_all : s.emptyPending ids24 =
    { s with sensor := { s.sensor with sources := s.emptySources } } := by
  rw [emptyPending_only, sources_eq_ofFn fun i => ?_]
  · rfl
  · rw [emptyPending_eq_foldl]
    exact foldl_get_of_mem (f := fun _ x => { x with entry := none })
      (fun t i j h => source_setSource_of_ne t _ h) (fun t i => source_setSource_self t i _)
      ids24_nodup (mem_ids24 i) s

/-- Every block at the reset but for the gateways and the power unit. -/
def State.blocksReset (s : State) : State :=
  let t := s.lineWorkCut.resetPages.resetChannels.resetMotors
  { t with coder := t.coder.engineReset }.emptyPending ids24

/-- The blocks are reset and the gateways armed again. -/
def State.gatesReset (s : State) : State := s.blocksReset.rearm ids16

theorem engineReset_eq : s.engineReset = s.gatesReset.resetPower := rfl

theorem resetPages_only : s.resetPages = { s with page := s.resetPages.page } := by
  have honly := (pagesLeft_handsBack (s := s)).only
  have hdef : s.resetPages = { s.pagesLeft with sensor := s.sensor, page := s.resetPages.page } := rfl
  rw [hdef, honly]

theorem blocksReset_eq : s.blocksReset = { s with
    mem := s.lineWorkCut.mem
    port := s.lineWorkCut.port
    free := s.lineWorkCut.free
    page := s.lineWorkCut.resetPages.page
    chans := s.resetChannels.chans
    scan := s.resetChannels.scan
    print := s.resetChannels.print
    coder := s.coder.engineReset
    motors := s.resetMotors.motors
    sensor := { s.sensor with sources := s.emptySources } } := by
  unfold State.blocksReset
  rw [emptyPending_all, resetPages_only]
  generalize s.lineWorkCut.resetPages.page = p
  rw [lineWorkCut_only]
  rfl

theorem blocksReset_gate (g : Fin 16) : s.blocksReset.gate g = s.gate g := by
  rw [blocksReset_eq]
  rfl

theorem blocksReset_source (i : Fin 24) : s.blocksReset.source i = { s.source i with entry := none } := by
  have hsources : s.blocksReset.sensor.sources = s.emptySources := by rw [blocksReset_eq]
  simp [State.source, hsources, State.emptySources]

theorem blocksReset_motor (m : MotorId) : s.blocksReset.motor m = (s.motor m).engineReset := by
  rw [blocksReset_eq]
  cases m <;> rfl

theorem blocksReset_chan (ch : Channel) : s.blocksReset.chan ch = (s.chan ch).engineReset := by
  rw [blocksReset_eq]
  cases ch <;> rfl

theorem engineReset_moving (x : Motor) : x.engineReset.moving = false := by
  have hstopped : (if x.moving = true then x.hold false else x).moving = false := by
    split
    next => exact hold_moving x false
    next h => exact eq_false_of_ne_true h
  exact hstopped

/-- The gateways are armed again on a machine at rest. -/
theorem blocksReset_resting (h : s.power.state ≠ .sleep) : Resting s.blocksReset where
  motor m := by rw [blocksReset_motor, engineReset_moving]
  chan ch := by rw [blocksReset_chan]; rfl
  awake := by rw [blocksReset_eq]; exact h

theorem blocksReset_occursRearmed (g : Fin 16) : s.blocksReset.occursRearmed g = s.occursRearmed g := by
  simp only [State.occursRearmed, blocksReset_gate]

theorem blocksReset_haltedAt (m : MotorId) : s.blocksReset.haltedAt m = s.haltedAt m := by
  funext old g
  simp only [State.haltedAt, blocksReset_gate, blocksReset_occursRearmed]

theorem blocksReset_rearmed (h : s.power.state ≠ .sleep) :
    Rearmed ids16 s.blocksReset s.gatesReset :=
  rearm_rearmed ids16_nodup (blocksReset_resting h) fun g _ => by rw [blocksReset_source]

end

/-! ## The power unit (08 R164) -/

/-- The quiet state to which a drain is under way. -/
def State.drainTarget (s : State) : Option Quiet := if s.power.state = .drain then s.power.target else none

section
variable {s : State} {t : Quiet}

theorem drainTarget_isSome :
    s.drainTarget.isSome = (s.power.state == .drain && s.power.target.isSome) := by
  unfold State.drainTarget
  split
  next h => simp [h]
  next h => simp [h]

theorem resetPower_of_none (h : s.drainTarget = none) : s.resetPower = s := by
  unfold State.resetPower
  split
  next t hstate htarget => exact absurd ((if_pos hstate).symm.trans h) (htarget ▸ nofun)
  next => rfl

theorem resetPower_of_some (h : s.drainTarget = some t) : s.resetPower = s.abandonDrain t 7 := by
  obtain ⟨hstate, htarget⟩ : s.power.state = .drain ∧ s.power.target = some t := by
    unfold State.drainTarget at h
    split at h
    next hstate => exact ⟨hstate, h⟩
    next => exact absurd h nofun
  unfold State.resetPower
  rw [hstate, htarget]

/-- An abandoned drain changes the power unit and raises its event. -/
theorem abandonDrain_only (c : Nat) : s.abandonDrain t c = { s with
    sensor := (s.abandonDrain t c).sensor
    power := { s.power with
      state := .run, target := none, drainTimer := none, abandoned := s.power.abandoned + 1 } } :=
  raise_only _ _ _ _

/-- Of an empty source a raise merges nothing. -/
theorem raise_sensor_of_empty {i : Fin 24} (h : (s.source i).entry = none)
    (kind : EventKind) (data : EventData) :
    (s.raise i kind data).sensor = { s.sensor with
      sources := (s.raise i kind data).sensor.sources, raises := s.sensor.raises + 1 } := by
  rw [raise_sensor, h]
  simp

theorem abandonDrain_sensor (c : Nat) (h : (s.source 22).entry = none) : (s.abandonDrain t c).sensor =
    { s.sensor with sources := (s.abandonDrain t c).sensor.sources, raises := s.sensor.raises + 1 } :=
  raise_sensor_of_empty (by exact h) _ _

theorem abandonDrain_source (c : Nat) : (s.abandonDrain t c).source 22 =
    (s.source 22).raised .abandoned (.abandoned (t == Quiet.sleep) c) := raise_source_self

theorem abandonDrain_source_of_ne (c : Nat) {i : Fin 24} (h : i ≠ 22) :
    (s.abandonDrain t c).source i = s.source i := raise_source_of_ne h

theorem abandonDrain_motors (c : Nat) : (s.abandonDrain t c).motors = s.motors := raise_motors _ _ _ _

theorem abandonDrain_gates (c : Nat) : (s.abandonDrain t c).sensor.gates = s.sensor.gates :=
  raise_gates _ _ _ _

theorem abandonDrain_gate (c : Nat) (g : Fin 16) : (s.abandonDrain t c).gate g = s.gate g :=
  raise_gate _ _ _ _ g

theorem abandonDrain_motor (c : Nat) (m : MotorId) : (s.abandonDrain t c).motor m = s.motor m :=
  raise_motor _ _ _ _ m

end

end Sys2Proof.Machine
end


section
/-! PROOFS. What one engine reset leaves of every block (10 R193). -/

namespace Sys2Proof.Machine

section
variable {s t : State}

/-- The lines whose gateways give an occurrence when they are armed again. -/
def State.occurring (s : State) : List (Fin 16) := ids16.filter s.occursRearmed

/-- `t` is `s` behind an engine reset, block by block. -/
structure EngineResetDone (s t : State) : Prop where
  only : t = { s with
    mem := s.lineWorkCut.mem, port := s.lineWorkCut.port, free := s.lineWorkCut.free
    page := s.lineWorkCut.resetPages.page
    chans := s.resetChannels.chans, scan := s.resetChannels.scan, print := s.resetChannels.print
    coder := s.coder.engineReset
    motors := t.motors, sensor := t.sensor, power := t.power }
  motors : t.motors = { s.motors with
    m0 := t.motors.m0, m1 := t.motors.m1, m2 := t.motors.m2
    haltedByAction := s.motors.haltedByAction ||
      ids16.any fun g => s.occursRearmed g && (s.gate g).cfg.haltSet != 0 }
  motor : ∀ m, t.motor m = { (s.motor m).engineReset with halted := ids16.foldl (s.haltedAt m) none }
  sensor : t.sensor = { s.sensor with
    gates := t.sensor.gates, sources := t.sensor.sources
    raises := s.sensor.raises + BitVec.ofNat 16 (s.occurring.length + flag s.drainTarget.isSome 1) }
  gate : ∀ g, t.gate g = (s.gate g).rearmed
  line : ∀ g, t.source (lineSource g) =
    if s.occursRearmed g then
      { s.source (lineSource g) with entry := none }.raised .active (.level (s.gate g).high)
    else { s.source (lineSource g) with entry := none }
  other : ∀ i : Fin 24, 16 ≤ i.val → i ≠ 22 → t.source i = { s.source i with entry := none }
  drain : t.source 22 = match s.drainTarget with
    | none => { s.source 22 with entry := none }
    | some q => { s.source 22 with entry := none }.raised .abandoned (.abandoned (q == Quiet.sleep) 7)
  power : t.power = if s.drainTarget.isSome then
      { s.power with state := .run, target := none, drainTimer := none, abandoned := s.power.abandoned + 1 }
    else s.power

end

section
variable {s : State} (h : s.power.state ≠ .sleep)
include h

theorem gatesReset_only : s.gatesReset = { s with
    mem := s.lineWorkCut.mem, port := s.lineWorkCut.port, free := s.lineWorkCut.free
    page := s.lineWorkCut.resetPages.page
    chans := s.resetChannels.chans, scan := s.resetChannels.scan, print := s.resetChannels.print
    coder := s.coder.engineReset
    motors := s.gatesReset.motors, sensor := s.gatesReset.sensor } := by
  have honly : s.gatesReset = { s.blocksReset with
    motors := s.gatesReset.motors, sensor := s.gatesReset.sensor } := (blocksReset_rearmed h).only
  rw [honly, blocksReset_eq]

theorem gatesReset_motors : s.gatesReset.motors = { s.motors with
    m0 := s.gatesReset.motors.m0, m1 := s.gatesReset.motors.m1, m2 := s.gatesReset.motors.m2
    haltedByAction := s.motors.haltedByAction ||
      ids16.any fun g => s.occursRearmed g && (s.gate g).cfg.haltSet != 0 } := by
  have hrearmed : Rearmed ids16 s.blocksReset s.gatesReset := blocksReset_rearmed h
  have haction := hrearmed.action
  simp only [blocksReset_occursRearmed, blocksReset_gate] at haction
  have hmotors : s.blocksReset.motors = s.resetMotors.motors := by rw [blocksReset_eq]
  refine hrearmed.motors.trans ?_
  rw [haction, hmotors]
  rfl

theorem gatesReset_motor (m : MotorId) : s.gatesReset.motor m =
    { (s.motor m).engineReset with halted := ids16.foldl (s.haltedAt m) none } := by
  have hrearmed : Rearmed ids16 s.blocksReset s.gatesReset := blocksReset_rearmed h
  have hhalted : (s.motor m).engineReset.halted = none := rfl
  rw [hrearmed.motor, blocksReset_haltedAt, blocksReset_motor, hhalted]

theorem gatesReset_sensor : s.gatesReset.sensor = { s.sensor with
    gates := s.gatesReset.sensor.gates, sources := s.gatesReset.sensor.sources
    raises := s.sensor.raises + BitVec.ofNat 16 s.occurring.length } := by
  have hrearmed : Rearmed ids16 s.blocksReset s.gatesReset := blocksReset_rearmed h
  have hraises := hrearmed.raises
  rw [funext blocksReset_occursRearmed, ← State.occurring] at hraises
  rw [hrearmed.sensor, hraises, blocksReset_eq]

theorem gatesReset_gate (g : Fin 16) : s.gatesReset.gate g = (s.gate g).rearmed := by
  have hrearmed : Rearmed ids16 s.blocksReset s.gatesReset := blocksReset_rearmed h
  rw [hrearmed.gate g (mem_ids16 g), blocksReset_gate]

theorem gatesReset_line (g : Fin 16) : s.gatesReset.source (lineSource g) =
    if s.occursRearmed g then
      { s.source (lineSource g) with entry := none }.raised .active (.level (s.gate g).high)
    else { s.source (lineSource g) with entry := none } := by
  have hrearmed : Rearmed ids16 s.blocksReset s.gatesReset := blocksReset_rearmed h
  rw [hrearmed.source g (mem_ids16 g), blocksReset_occursRearmed, blocksReset_gate, blocksReset_source]

theorem gatesReset_other {i : Fin 24} (hi : 16 ≤ i.val) :
    s.gatesReset.source i = { s.source i with entry := none } := by
  have hrearmed : Rearmed ids16 s.blocksReset s.gatesReset := blocksReset_rearmed h
  rw [hrearmed.sourceOther i fun g _ e => ?_, blocksReset_source]
  have hval : i.val = g.val := congrArg Fin.val e
  omega

theorem gatesReset_drainTarget : s.gatesReset.drainTarget = s.drainTarget := by
  rw [State.drainTarget, gatesReset_only h]
  rfl

/-- No drain is under way. -/
theorem engineReset_done_of_none (hd : s.drainTarget = none) : EngineResetDone s s.engineReset := by
  rw [engineReset_eq, resetPower_of_none ((gatesReset_drainTarget h).trans hd)]
  constructor
  case only =>
    refine (gatesReset_only h).trans ?_
    rw [gatesReset_only h]
  case motors => exact gatesReset_motors h
  case motor => exact gatesReset_motor h
  case sensor => 
    rw [hd]
    exact gatesReset_sensor h
  case gate => exact gatesReset_gate h
  case line => exact gatesReset_line h
  case other => exact fun i hi _ => gatesReset_other h hi
  case drain => 
    rw [hd]
    exact gatesReset_other h (by decide)
  case power => 
    rw [hd, gatesReset_only h]
    rfl

/-- A drain under way is abandoned. -/
theorem engineReset_done_of_some {q : Quiet} (hd : s.drainTarget = some q) :
    EngineResetDone s s.engineReset := by
  have honly := gatesReset_only h
  have hempty : (s.gatesReset.source 22).entry = none := by rw [gatesReset_other h (by decide)]
  have hafter := abandonDrain_only (s := s.gatesReset) (t := q) 7
  have hsensor := abandonDrain_sensor (t := q) 7 hempty
  rw [engineReset_eq, resetPower_of_some ((gatesReset_drainTarget h).trans hd)]
  constructor
  case only => rw [hafter, honly]
  case motors =>
    rw [abandonDrain_motors]
    exact gatesReset_motors h
  case motor => exact fun m => (abandonDrain_motor 7 m).trans (gatesReset_motor h m)
  case sensor =>
    have hone : BitVec.ofNat 16 (flag (some q).isSome 1) = 1 := rfl
    rw [hd, BitVec.ofNat_add, hone, ← BitVec.add_assoc, abandonDrain_gates]
    refine hsensor.trans ?_
    generalize (s.gatesReset.abandonDrain q 7).sensor.sources = v
    rw [gatesReset_sensor h]
  case gate => exact fun g => (abandonDrain_gate 7 g).trans (gatesReset_gate h g)
  case line =>
    intro g
    have hne : lineSource g ≠ 22 := fun e => by
      have hval : g.val = 22 := congrArg Fin.val e
      omega
    rw [abandonDrain_source_of_ne 7 hne, gatesReset_line h]
  case other => exact fun i hi hne => (abandonDrain_source_of_ne 7 hne).trans (gatesReset_other h hi)
  case drain => rw [hd, abandonDrain_source, gatesReset_other h (by decide)]
  case power =>
    rw [hd, hafter, honly]
    rfl

theorem engineReset_done : EngineResetDone s s.engineReset := by
  cases hd : s.drainTarget with
  | none => exact engineReset_done_of_none h hd
  | some q => exact engineReset_done_of_some h hd

end

end Sys2Proof.Machine
end


section
/-! PROOFS. ENGINE RESET block by block, as the statement puts it (10 R193). -/

namespace Sys2Proof.Machine

/-! ## Page memory (01 R16, R25) -/

section
variable {s t : State} {i : Fin 16} {b : Nat}

/-- The reset clears the reservation and the waiters, and sets the band-pool condition anew. -/
theorem resetPages_page : s.resetPages.page = { s.pagesLeft.page with
    r := 0, slotWait := [], low := decide (s.pagesLeft.page.free.length < s.pagesLeft.page.lowMark) } := by
  unfold State.resetPages State.pagesLeft
  generalize ((s.closeFilling ids16).dropReaders ids16).releaseAll ids16 = u
  rfl

/-- A slot is kept, is to be released, or is FILLING and not to be released. -/
theorem slot_cases (p : Page) : (p.state = .empty ∨ p.state = .complete ∧ p.release = false) ∨
    (p.state ≠ .empty ∧ p.release = true) ∨ (p.state = .filling ∧ p.release = false) := by
  cases p.state <;> cases p.release <;> simp

section
variable (h : EngineResetDone s t)
include h

theorem EngineResetDone.pagesLeft_page : t.page = { s.lineWorkCut.pagesLeft.page with
    r := 0, slotWait := []
    low := decide (s.lineWorkCut.pagesLeft.page.free.length < s.lineWorkCut.pagesLeft.page.lowMark) } := by
  have hpage : t.page = s.lineWorkCut.resetPages.page := by rw [h.only]
  exact hpage.trans resetPages_page

theorem EngineResetDone.free_eq : t.page.free = s.lineWorkCut.pagesLeft.page.free := by
  rw [h.pagesLeft_page]

theorem EngineResetDone.slot_eq : t.slot i = s.lineWorkCut.pagesLeft.slot i := by
  simp only [State.slot, h.pagesLeft_page]

theorem EngineResetDone.bandFree (hb : s.lineWorkCut.pagesLeft.BandFree b) : t.BandFree b := by
  simpa only [State.BandFree, State.bandUsed, h.pagesLeft_page] using hb

theorem EngineResetDone.free_kept : s.page.free <+: t.page.free := by
  rw [h.free_eq, ← lineWorkCut_page]
  exact pagesLeft_handsBack.free

theorem EngineResetDone.page_eq : t.page = { s.page with
    used := t.page.used, free := t.page.free, slots := t.page.slots, r := 0, slotWait := []
    low := decide (t.page.free.length < s.page.lowMark)
    returned := s.page.returned + BitVec.ofNat 16 (t.page.free.length - s.page.free.length) } := by
  have hback : HandsBack s.lineWorkCut s.lineWorkCut.pagesLeft := pagesLeft_handsBack
  have hpage := hback.page
  rw [hback.returned, lineWorkCut_page] at hpage
  rw [h.pagesLeft_page, hpage]

theorem EngineResetDone.slot_of_kept
    (hk : (s.slot i).state = .empty ∨ (s.slot i).state = .complete ∧ (s.slot i).release = false) :
    t.slot i = (s.slot i).unread := by
  rw [← lineWorkCut_slot (s := s)] at hk ⊢
  exact h.slot_eq.trans (pagesLeft_slot_of_kept hk)

theorem EngineResetDone.slot_of_released (he : (s.slot i).state ≠ .empty) (hr : (s.slot i).release = true) :
    t.slot i = { Page.reset with gen := (s.slot i).gen } ∧ ∀ b ∈ (s.slot i).chain, t.BandFree b := by
  rw [← lineWorkCut_slot (s := s)] at he hr ⊢
  obtain ⟨hslot, hbands⟩ := pagesLeft_slot_of_released he hr
  exact ⟨h.slot_eq.trans hslot, fun b hb => h.bandFree (hbands b hb)⟩

theorem EngineResetDone.slot_of_filling (hf : (s.slot i).state = .filling) (hr : (s.slot i).release = false) :
    t.slot i = { (s.slot i).cutShort.unread with chain := (t.slot i).chain, freed := (t.slot i).freed } := by
  rw [← lineWorkCut_slot (s := s)] at hf hr ⊢
  obtain ⟨chain, freed, hslot⟩ := pagesLeft_slot_cut hf hr
  rw [h.slot_eq, hslot]

theorem EngineResetDone.slot_closed :
    (t.slot i).state ≠ .filling ∧ (t.slot i).readers = 0 ∧ (t.slot i).gen = (s.slot i).gen := by
  obtain hk | ⟨he, hr⟩ | ⟨hf, hr⟩ := slot_cases (s.slot i)
  · rw [h.slot_of_kept hk, unread_state]
    refine ⟨?_, rfl, rfl⟩
    rcases hk with hs | ⟨hs, -⟩ <;> rw [hs] <;> exact nofun
  · rw [(h.slot_of_released he hr).1]
    exact ⟨nofun, rfl, rfl⟩
  · rw [h.slot_of_filling hf hr]
    exact ⟨nofun, rfl, rfl⟩

theorem EngineResetDone.slot_truncated (hf : (s.slot i).state = .filling)
    (hc : (t.slot i).state = .complete) :
    (t.slot i).truncated = true := by
  cases hr : (s.slot i).release with
  | true =>
    rw [(h.slot_of_released (by rw [hf]; exact nofun) hr).1] at hc
    exact absurd hc nofun
  | false => rw [h.slot_of_filling hf hr]; rfl

section
variable (hf : (s.slot i).state = .filling) (hr : (s.slot i).release = false)
  (hkeep : (s.slot i).consume = false)
include hf hr hkeep

theorem EngineResetDone.unconsumed_freed : (t.slot i).freed = (s.slot i).freed := by
  rw [← lineWorkCut_slot (s := s)] at hf hr hkeep ⊢
  rw [h.slot_eq]
  exact pagesLeft_unconsumed_freed hf hr hkeep

variable (hb : (s.slot i).chain.getLast? = some b)
  (howned : ∀ j, j ≠ i → ∀ a, a ∈ (s.slot i).chain → a ∉ (s.slot j).chain)
include hb howned

theorem EngineResetDone.unconsumed_keeps (hd : (s.slot i).assigned - (s.slot i).stored < s.bandUsed b) :
    (t.slot i).chain = (s.slot i).chain := by
  have hlast (j : Fin 16) (hj : j ≠ i) : b ∉ (s.slot j).chain := howned j hj b (List.mem_of_getLast? hb)
  simp only [← lineWorkCut_slot (s := s), ← lineWorkCut_bandUsed (s := s)] at hf hr hkeep hb hlast hd ⊢
  rw [h.slot_eq]
  exact pagesLeft_unconsumed_keeps hf hr hkeep hb hlast hd

theorem EngineResetDone.unconsumed_empties (hd : (s.slot i).assigned - (s.slot i).stored = s.bandUsed b) :
    (t.slot i).chain = (s.slot i).chain.dropLast ∧ b ∈ t.page.free := by
  have hlast (j : Fin 16) (hj : j ≠ i) : b ∉ (s.slot j).chain := howned j hj b (List.mem_of_getLast? hb)
  simp only [← lineWorkCut_slot (s := s), ← lineWorkCut_bandUsed (s := s)] at hf hr hkeep hb hlast hd ⊢
  rw [h.slot_eq, h.free_eq]
  exact pagesLeft_unconsumed_empties hf hr hkeep hb hlast hd

end

end

end

end Sys2Proof.Machine
end


section
/-! PROOFS. ENGINE RESET: the channels, the motors, the events, the power unit and the DRAM port (10 R193). -/

namespace Sys2Proof.Machine

section
variable {s t : State} {ch : Channel} {m : MotorId} {g : Fin 16}

/-! ## The motors (06 R114, R134) -/

theorem engineReset_of_rest {x : Motor} (hx : x.moving = false) : x.engineReset = { x with
    halted := none, link := none, move := none, remaining := 0, budget := none, committed := none
    group := 0, rampPath := none, heldStep := false } := by
  unfold Motor.engineReset
  rw [hx, if_neg nofun]

theorem engineReset_of_moving {x : Motor} (hx : x.moving = true) : x.engineReset = { x with
    halted := none, link := none, move := none, remaining := 0, budget := none, committed := none
    group := 0, rampPath := none, heldStep := false
    state := if x.holdTime = 0 ∧ x.autoRelease = true then .off else .hold
    k := none, due := none, run := [], dark := false
    holdTimer := if x.holdTime = 0 then none else some (x.holdTime * 10)
    timerRelease := x.autoRelease } := by
  unfold Motor.engineReset
  rw [hx, if_pos rfl]
  rfl

/-- What a raise makes of a source without an entry. -/
theorem raised_of_empty (x : Source) (kind : EventKind) (data : EventData) :
    { x with entry := none }.raised kind data = { x with
      entry := if x.priority = 0 then none else some { kind, data, repeated := false } } := by
  by_cases hp : x.priority = 0
  · rw [raised_of_silent (x := { x with entry := none }) hp, if_pos hp]
  · rw [Source.raised, if_neg hp, if_neg hp]
    rfl

section
variable (h : EngineResetDone s t)
include h

theorem EngineResetDone.halted : (t.motor m).halted = ids16.foldl (s.haltedAt m) none := by rw [h.motor]

theorem EngineResetDone.motor_of_rest (hx : (s.motor m).moving = false) : t.motor m = { s.motor m with
    halted := (t.motor m).halted, link := none, move := none, remaining := 0, budget := none
    committed := none, group := 0, rampPath := none, heldStep := false } := by
  rw [h.halted, h.motor, engineReset_of_rest hx]

theorem EngineResetDone.motor_of_moving (hx : (s.motor m).moving = true) : t.motor m = { s.motor m with
    halted := (t.motor m).halted, link := none, move := none, remaining := 0, budget := none
    committed := none, group := 0, rampPath := none, heldStep := false
    state := if (s.motor m).holdTime = 0 ∧ (s.motor m).autoRelease = true then .off else .hold
    k := none, due := none, run := [], dark := false
    holdTimer := if (s.motor m).holdTime = 0 then none else some ((s.motor m).holdTime * 10)
    timerRelease := (s.motor m).autoRelease } := by
  rw [h.halted, h.motor, engineReset_of_moving hx]

/-! ## The events (07 R151; 08 R164) -/

theorem EngineResetDone.line_source : t.source (lineSource g) = { s.source (lineSource g) with
    entry :=
      if s.occursRearmed g = true ∧ (s.source (lineSource g)).priority ≠ 0 then
        some { kind := .active, data := .level (s.gate g).high, repeated := false }
      else none } := by
  rw [h.line]
  by_cases ho : s.occursRearmed g = true
  · rw [if_pos ho, raised_of_empty]
    by_cases hp : (s.source (lineSource g)).priority = 0
    · rw [if_pos hp, if_neg fun hc => hc.2 hp]
    · rw [if_neg hp, if_pos ⟨ho, hp⟩]
  · rw [if_neg ho, if_neg fun hc => ho hc.1]

theorem EngineResetDone.raises : t.sensor.raises = s.sensor.raises + BitVec.ofNat 16
    (s.occurring.length + flag (s.power.state == .drain && s.power.target.isSome) 1) := by
  rw [h.sensor, drainTarget_isSome]

/-! ## The power unit (08 R164) -/

theorem EngineResetDone.source_of_no_drain (hs : s.power.state ≠ .drain) :
    t.source 22 = { s.source 22 with entry := none } := by
  rw [h.drain, State.drainTarget, if_neg hs]

theorem EngineResetDone.source_of_drain {q : Quiet} (hs : s.power.state = .drain)
    (hq : s.power.target = some q) : t.source 22 = { s.source 22 with
      entry :=
        if (s.source 22).priority = 0 then none
        else some
          { kind := .abandoned, data := .abandoned (decide (q = .sleep)) 7, repeated := false } } := by
  rw [h.drain, State.drainTarget, if_pos hs, hq]
  exact raised_of_empty _ _ _

theorem EngineResetDone.power_of_no_drain (hs : s.power.state ≠ .drain) : t.power = s.power := by
  rw [h.power, State.drainTarget, if_neg hs]
  rfl

theorem EngineResetDone.power_of_drain {q : Quiet} (hs : s.power.state = .drain)
    (hq : s.power.target = some q) : t.power = { s.power with
      state := .run, target := none, drainTimer := none, abandoned := s.power.abandoned + 1 } := by
  rw [h.power, State.drainTarget, if_pos hs, hq]
  rfl

/-! ## The channels and the completion (02 R57; 10 R185) -/

theorem EngineResetDone.chan : t.chan ch = { Chan.reset with
    moved := (s.chan ch).moved, posted := (s.chan ch).posted, chainFault := (s.chan ch).chainFault } := by
  rw [h.only]
  cases ch <;> rfl

theorem EngineResetDone.chanWants_none : t.chanWants ch = none := by
  have hfetch : (t.chan ch).fetch = none := by rw [h.chan]; rfl
  have hjob : t.lineJob ch = none := by
    rw [h.only]
    cases ch <;> rfl
  unfold State.chanWants
  rw [hfetch, hjob]

theorem EngineResetDone.complete_recUnit (code : ResultCode) (r : List Nat) :
    (t.complete code r).recUnit = (s.complete code r).recUnit := by
  have hunit : t.recUnit = s.recUnit := by rw [h.only]
  have hhost : t.host = s.host := by rw [h.only]
  have hgeo : t.page.geo = s.page.geo := by rw [h.page_eq]
  exact complete_recUnit_congr hunit (by simp only [State.ringFull, hunit, hhost, hgeo]) code r

/-- The loader goes on with a store. -/
theorem EngineResetDone.loaderWants (hw : s.recUnit.work = none) (code : ResultCode) (r : List Nat) :
    (t.complete code r).loaderWants = s.loaderWants := by
  have hboot : (t.complete code r).boot = s.boot := by rw [complete_boot, h.only]
  have hwork : (t.complete code r).recUnit.work = none := rfl
  unfold State.loaderWants
  rw [hboot, hwork, hw]

/-! ## The DRAM port (01 R22) -/

theorem EngineResetDone.port_eq : t.port = { s.port with
    busy := s.port.busy.filter fun j => j.lineWork.isNone
    suspended := s.port.suspended.filter fun j => j.lineWork.isNone
    done := t.port.done, partialData := t.port.partialData } := by
  have hport : t.port = s.lineWorkCut.port := by rw [h.only]
  rw [hport]
  exact lineWorkCut_port

theorem EngineResetDone.port_of_none
    (hn : ∀ j, s.port.busy = some j ∨ s.port.suspended = some j → j.lineWork = none) :
    t.port = s.port ∧ t.mem = s.mem := by
  have hport : t.port = s.lineWorkCut.port := by rw [h.only]
  have hmem : t.mem = s.lineWorkCut.mem := by rw [h.only]
  rw [hport, hmem, lineWorkCut_of_none hn]
  exact ⟨rfl, rfl⟩

end

theorem filter_of_lineWork {o : Option Job} {j : Job} (ho : o = some j) (hj : j.lineWork.isSome = true) :
    o.filter (fun j => j.lineWork.isNone) = none := by
  rw [ho]
  exact Option.filter_some_neg (by simpa using hj)

theorem filter_of_no_lineWork {o : Option Job} {j : Job} (ho : o = some j) (hj : j.lineWork = none) :
    o.filter (fun j => j.lineWork.isNone) = some j := by
  simp [ho, hj]

/-! ## The statement -/

theorem exec_engineReset {bs : List Byte} (h : InHand s 18 bs) :
    exec .engineReset s = .next (State.settle s.engineResetCommand) := runIf_of (cmdIs_of_inHand h _) s _

theorem exec_crstnPulseEnd (hlow : s.coder.resetLow = true) (hready : s.boot.ready = .released) :
    exec .crstnPulseEnd s = .next (State.settle { s with coder := s.coder.leaveReset }) := by
  have hdue : (s.coder.resetLow && s.atReady) = true := by simp [State.atReady, hlow, hready]
  exact runIf_of hdue s _

end

/-- Settles O39: an engine reset reaches every block, and the coder leaves its reset with CRSTN_PULSE_END. -/
theorem engineResetReachesEveryBlock : Obligations.EngineResetReachesEveryBlock := by
  refine ⟨fun s bs h hawake => ?command, fun s hlow hready => exec_crstnPulseEnd hlow hready⟩
  have hwork : s.recUnit.work = none := h.2.1
  have hdone : EngineResetDone s s.engineReset := engineReset_done hawake
  have hexec := exec_engineReset h
  rw [State.engineResetCommand] at hexec
  generalize s.engineReset = t at hdone hexec
  have honly := hdone.only
  have hpage := hdone.page_eq
  have hmotors := hdone.motors
  have hsensor := hdone.sensor
  have hport := hdone.port_eq
  have hbusy := congrArg DramPort.busy hport
  have hsuspended := congrArg DramPort.suspended hport
  refine ⟨_, hexec, fun i => hdone.slot_closed, fun i => hdone.slot_truncated, ?r, ?slotWait, ?geo, ?low,
    ?lowMark, ?staleRef, ?taken, hdone.free_kept, ?returned,
    fun i => ⟨hdone.slot_of_kept, hdone.slot_of_released, fun hf hr =>
      ⟨hdone.slot_of_filling hf hr, ?unconsumed⟩⟩,
    fun ch => hdone.chan, ?scan, ?print, ?coder,
    ⟨fun m => ⟨hdone.motor_of_rest, hdone.motor_of_moving, ?haltedNone, ?haltedImmediate, ?haltedRamp⟩,
      ?action, fun g => hdone.line_source, hdone.raises⟩,
    ?ramps, ?steps, ?halts, hdone.gate, ?sources, hdone.source_of_no_drain, fun q => hdone.source_of_drain,
    ?threshold, ?merged, ?posted, ?sampling, ?groups, hdone.power_of_no_drain, fun q => hdone.power_of_drain,
    hdone.complete_recUnit _ _, ?port, ?eeprom, ?boot, ?host⟩
  case r => exact (congrArg PageMem.r hpage :)
  case slotWait => exact (congrArg PageMem.slotWait hpage :)
  case geo => exact (congrArg PageMem.geo hpage :)
  case low => exact (congrArg PageMem.low hpage :)
  case lowMark => exact (congrArg PageMem.lowMark hpage :)
  case staleRef => exact (congrArg PageMem.staleRef hpage :)
  case taken => exact (congrArg PageMem.taken hpage :)
  case returned => exact (congrArg PageMem.returned hpage :)
  case unconsumed =>
    exact fun hkeep => ⟨hdone.unconsumed_freed hf hr hkeep, fun b hb howned =>
      ⟨hdone.unconsumed_keeps hf hr hkeep hb howned, hdone.unconsumed_empties hf hr hkeep hb howned⟩⟩
  case scan => exact (congrArg State.scan honly :)
  case print => exact (congrArg State.print honly :)
  case coder => exact (congrArg State.coder honly :)
  case haltedNone => exact fun hn => hdone.halted.trans (halted_of_no_line hn)
  case haltedImmediate => exact fun g hg hi hr => hdone.halted.trans (halted_of_immediate hg hi hr)
  case haltedRamp => exact fun g hg hr => hdone.halted.trans (halted_of_ramp hg hr)
  case action => exact (congrArg MotorUnit.haltedByAction hmotors :)
  case ramps => exact (congrArg MotorUnit.ramps hmotors :)
  case steps => exact (congrArg MotorUnit.steps hmotors :)
  case halts => exact (congrArg MotorUnit.halts hmotors :)
  case sources => exact fun i hi hne => hdone.other i hi fun e => hne (congrArg Fin.val e)
  case threshold => exact (congrArg SensorUnit.threshold hsensor :)
  case merged => exact (congrArg SensorUnit.merged hsensor :)
  case posted => exact (congrArg SensorUnit.posted hsensor :)
  case sampling => exact (congrArg SensorUnit.sampling hsensor :)
  case groups => exact (congrArg SensorUnit.groups hsensor :)
  case port =>
    refine ⟨(congrArg DramPort.mode hport :), (congrArg DramPort.rotation hport :),
      (congrArg DramPort.refreshDue hport :),
      fun ch => hdone.chanWants_none, hdone.loaderWants hwork _ _, fun j hj hline => ?busyCut,
      fun j hj hline => ?busyKept, fun hn => ?busyNone, fun j hj hline => ?suspendedCut,
      fun j hj hline => ?suspendedKept, fun hn => ?suspendedNone, hdone.port_of_none⟩
    case busyCut => exact hbusy.trans (filter_of_lineWork hj hline)
    case busyKept => exact hbusy.trans (filter_of_no_lineWork hj hline)
    case busyNone => exact hbusy.trans (by rw [hn]; rfl)
    case suspendedCut => exact hsuspended.trans (filter_of_lineWork hj hline)
    case suspendedKept => exact hsuspended.trans (filter_of_no_lineWork hj hline)
    case suspendedNone => exact hsuspended.trans (by rw [hn]; rfl)
  case eeprom => exact (congrArg State.eeprom honly :)
  case boot => exact (congrArg State.boot honly :)
  case host => exact (congrArg State.host honly :)

end Sys2Proof.Machine
end

section
/-! PROOFS. The queue that commands are taken from (log 3): `<operation>_pending` says of each operation that it
leaves the queue as it is. The operations come in the order of the families that call them. -/

namespace Sys2Proof.Machine

/-- What an operation of `settle` leaves as it is has the queue in it. -/
theorem pending_of_held {s t : State} (h : t.held = s.held) : t.pending = s.pending :=
  kept_pending (kept_of_held h)

/-- A choice between two states chooses between their queues. -/
@[simp] theorem pending_ite (p : Prop) [Decidable p] (s t : State) :
    (if p then s else t).pending = if p then s.pending else t.pending :=
  apply_ite State.pending p s t

variable (s : State)

@[simp] theorem settle_pending : s.settle.pending = s.pending := kept_pending (settle_kept s)

/-! ## Operations that `settle` is made of -/

@[simp] theorem afterDecision_pending (m : MotorId) (j : Option Nat) :
    (s.afterDecision m j).pending = s.pending := pending_of_held (afterDecision_held ..)

@[simp] theorem restDecision_pending (m : MotorId) : (s.restDecision m).pending = s.pending :=
  pending_of_held (restDecision_held ..)

@[simp] theorem abortSteps_pending (ch : Channel) : (s.abortSteps ch).pending = s.pending :=
  pending_of_held (abortSteps_held ..)

@[simp] theorem postFinal_pending (ch : Channel) (n : Notice) : (s.postFinal ch n).pending = s.pending :=
  pending_of_held (postFinal_held ..)

@[simp] theorem faultEntry_pending (ch : Channel) (code : FaultCode) :
    (s.faultEntry ch code).pending = s.pending := pending_of_held (faultEntry_held ..)

@[simp] theorem beginLines_pending (ch : Channel) (n : Nat) (o : Option EdgeOption) (b : Nat) :
    (s.beginLines ch n o b).pending = s.pending := pending_of_held (beginLines_held ..)

@[simp] theorem endEntry_pending (ch : Channel) : (s.endEntry ch).pending = s.pending :=
  pending_of_held (endEntry_held ..)

@[simp] theorem groupDone_pending (m : MotorId) : (s.groupDone m).pending = s.pending := by
  cases m
  · obtain ⟨starts, hkept⟩ := offerTrigger_kept (s := s)
    exact congrArg Kept.pending hkept
  · rfl
  · rfl

@[simp] theorem afterGrant_pending : s.afterGrant.pending = s.pending := by rw [afterGrant_only]

/-! ## Occurrences and levels of the sensor lines (07) -/

@[simp] theorem occur_pending (g : Fin 16) (k : EventKind) : (s.occur g k).pending = s.pending := by
  rw [occur_only]

@[simp] theorem levelChanged_pending (g : Fin 16) : (s.levelChanged g).pending = s.pending := by
  simp [State.levelChanged]

@[simp] theorem edgeEvent_pending (ch : Channel) (g : Fin 16) (high : Bool) :
    (s.edgeEvent ch g high).pending = s.pending := by
  rw [edgeEvent_only]

@[simp] theorem changeLevel_pending (g : Fin 16) : (s.changeLevel g).pending = s.pending := by
  simp [State.changeLevel]

@[simp] theorem takeSample_pending (g : Fin 16) (level : Bool) :
    (s.takeSample g level).pending = s.pending := by
  simp [State.takeSample]

@[simp] theorem takeSamples_pending (on : Fin 16 → Bool) (lines : BitVec 16) (gs : List (Fin 16)) :
    (s.takeSamples on lines gs).pending = s.pending := by
  induction gs generalizing s with
  | nil => rfl
  | cons g rest ih => simp [State.takeSamples, ih]

@[simp] theorem occurActive_pending (gs : List (Fin 16)) : (s.occurActive gs).pending = s.pending := by
  induction gs generalizing s with
  | nil => rfl
  | cons g rest ih => simp [State.occurActive, ih]

@[simp] theorem configGate_pending (g : Fin 16) (c : GateCfg) : (s.configGate g c).pending = s.pending := by
  simp [State.configGate]

/-! ## Start-up and reload (09) -/

@[simp] theorem tablesStage_pending (c : Sections) : (s.tablesStage c).pending = s.pending := by
  rw [State.tablesStage, loadPriorities_only, loadGates_only, loadRamps_only]

@[simp] theorem firstSample_pending (lines : BitVec 16) : (s.firstSample lines).pending = s.pending := by
  rw [State.firstSample, occurActive_pending, firstLevels_only]

@[simp] theorem bringUp_pending (c : Sections) (lines : BitVec 16) :
    (s.bringUp c lines).pending = s.pending := by
  have hready (t : State) : t.readyStage.pending = t.pending := rfl
  rw [State.bringUp, hready, firstSample_pending, tablesStage_pending]
  rfl

@[simp] theorem reloadGates_pending (cs : List GateCfg) (gs : List (Fin 16)) :
    (s.reloadGates cs gs).pending = s.pending := by
  induction gs generalizing s with
  | nil => rfl
  | cons g rest ih => exact (ih _).trans (configGate_pending s g _)

@[simp] theorem reloaded_pending (c : Sections) : (s.reloaded c).pending = s.pending := by
  rw [reloaded_only]

@[simp] theorem putInForce_pending (c : Sections) : (s.putInForce c).pending = s.pending := by
  rw [putInForce_eq]
  cases c.gateways <;> simp

@[simp] theorem reloadEnd_pending (r : Reading) : (s.reloadEnd r).pending = s.pending := by
  simp [State.reloadEnd]

@[simp] theorem storeFailed_pending (o : StoreOp) : (s.storeFailed o).pending = s.pending :=
  raise_pending ..

@[simp] theorem storeOn_pending (o : StoreOp) (rest : List Word) : (s.storeOn o rest).pending = s.pending := by
  simp [State.storeOn]

/-! ## The engine reset (10 R193) -/

@[simp] theorem rearm_pending (gs : List (Fin 16)) : (s.rearm gs).pending = s.pending := by
  induction gs generalizing s with
  | nil => rfl
  | cons g rest ih => simp [State.rearm, ih]

@[simp] theorem resetPower_pending : s.resetPower.pending = s.pending := by
  unfold State.resetPower
  split
  · rw [abandonDrain_only]
  · rfl

@[simp] theorem resetPages_pending : s.resetPages.pending = s.pending := by rw [resetPages_only]

@[simp] theorem emptyPending_pending (is : List (Fin 24)) : (s.emptyPending is).pending = s.pending := by
  rw [emptyPending_only]

@[simp] theorem engineReset_pending : s.engineReset.pending = s.pending := by
  have hblocks (t : State) : t.resetChannels.resetMotors.pending = t.pending := rfl
  simp only [State.engineReset, resetPower_pending, rearm_pending, emptyPending_pending, hblocks,
    resetPages_pending, cutLineWork_pending]

/-! ## The commands' effects (10 R183 to R185) -/

@[simp] theorem refuseRef_pending (a : RefAnswer) : (s.refuseRef a).pending = s.pending := by
  cases a <;> rfl

@[simp] theorem endPosted_pending (ch : Channel) : (s.endPosted ch).pending = s.pending := by
  simp [State.endPosted]

@[simp] theorem continueChain_pending (ch : Channel) : (s.continueChain ch).pending = s.pending := by
  simp [State.continueChain]

@[simp] theorem askAbort_pending (ch : Channel) : (s.askAbort ch).pending = s.pending := by
  unfold State.askAbort
  dsimp only
  split
  · rfl
  · cases ch <;> simp

@[simp] theorem startMove_pending (m : MotorId) (d : Dir) (c : Nat) (n : Fin 4) (top : Nat) :
    (s.startMove m d c n top).pending = s.pending := by
  simp [State.startMove]

theorem startCommand_pending : s.startCommand.pending = s.pending := by
  unfold State.startCommand
  dsimp only
  split
  · exact refuse_pending s _
  · simp [State.startChain]

theorem stopPause_pending : s.stopPause.pending = s.pending := by
  unfold State.stopPause
  dsimp only
  split <;> simp

theorem stopAbort_pending : s.stopAbort.pending = s.pending := by
  unfold State.stopAbort
  dsimp only
  split <;> simp

theorem resumeCommand_pending : s.resumeCommand.pending = s.pending := by
  unfold State.resumeCommand
  split
  · exact refuse_pending s _
  · dsimp only
    split <;> simp

theorem moveCommand_pending : s.moveCommand.pending = s.pending := by
  unfold State.moveCommand
  dsimp only
  split
  · exact refuse_pending s _
  · split <;> simp

theorem stopRampCommand_pending : s.stopRampCommand.pending = s.pending := by
  unfold State.stopRampCommand
  dsimp only
  split <;> simp

theorem stopNowCommand_pending : s.stopNowCommand.pending = s.pending := by
  unfold State.stopNowCommand
  dsimp only
  split <;> simp

theorem motorResumeCommand_pending : s.motorResumeCommand.pending = s.pending := by
  unfold State.motorResumeCommand
  split <;> simp

theorem motorReleaseCommand_pending : s.motorReleaseCommand.pending = s.pending := by
  unfold State.motorReleaseCommand
  split <;> simp

theorem loadCommand_pending : s.loadCommand.pending = s.pending := by
  unfold State.loadCommand
  dsimp only
  split <;> simp

theorem queryCommand_pending : s.queryCommand.pending = s.pending := by
  have hcopy (i : Fin 16) (a : Nat) : (s.copyPage i a).pending = s.pending := rfl
  unfold State.queryCommand
  dsimp only
  split
  · exact refuse_pending s _
  · split
    · exact refuse_pending s _
    · split
      · exact hcopy _ _
      · split
        · exact hcopy _ _
        · exact refuseRef_pending s _

theorem releaseCommand_pending : s.releaseCommand.pending = s.pending := by
  unfold State.releaseCommand State.askRelease
  dsimp only
  split <;> simp

theorem sensorConfigCommand_pending : s.sensorConfigCommand.pending = s.pending := by
  unfold State.sensorConfigCommand
  dsimp only
  split <;> simp

theorem priorityCommand_pending : s.priorityCommand.pending = s.pending := by
  unfold State.priorityCommand
  dsimp only
  split
  · exact refuse_pending s _
  · rfl

theorem powerCommand_pending {e : State} (h : e.pending = s.pending) :
    (s.powerCommand e).pending = s.pending := by
  unfold State.powerCommand
  split
  · exact refuse_pending s _
  · exact (complete_pending e _ _).trans h

theorem powerRun_pending : s.powerRun.pending = s.pending := by
  unfold State.powerRun
  split <;> simp

theorem powerDoze_pending : s.powerDoze.pending = s.pending := by
  simp [State.powerDoze, State.loadDrain]

theorem statusCommand_pending : s.statusCommand.pending = s.pending := by
  simp [State.statusCommand]

theorem clearBlock_pending (b m : Nat) : (s.clearBlock b m).pending = s.pending := by
  unfold State.clearBlock
  repeat' split
  all_goals rfl

theorem clearCommand_pending : s.clearCommand.pending = s.pending := by
  simp [State.clearCommand, clearBlock_pending]

theorem engineResetCommand_pending : s.engineResetCommand.pending = s.pending :=
  (complete_pending _ _ _).trans (engineReset_pending s)

theorem reloadCommand_pending : s.reloadCommand.pending = s.pending := by
  simp [State.reloadCommand]

theorem storeCommand_pending : s.storeCommand.pending = s.pending := by
  simp [State.storeCommand]

/-! ## The host port and the record unit (10 R180, R186, R189) -/

@[simp] theorem writeCommandWord_pending (v : Word) : (s.writeCommandWord v).pending = s.pending := by
  simp [State.writeCommandWord]

@[simp] theorem writeReportWord_pending (v : Word) : (s.writeReportWord v).pending = s.pending := by
  simp [State.writeReportWord]

@[simp] theorem attentionCycle_pending (report : Bool) (write : Option Word) :
    (s.attentionCycle report write).pending = s.pending := by
  unfold State.attentionCycle
  split <;> simp

@[simp] theorem serveHost_pending (c : HostCycle) : (s.serveHost c).pending = s.pending := by
  unfold State.serveHost
  split <;> rfl

@[simp] theorem noticePosted_pending (ch : Channel) (final : Bool) :
    (s.noticePosted ch final).pending = s.pending := by
  simp [State.noticePosted]

@[simp] theorem posted_pending (w : Producer) : (s.posted w).pending = s.pending := by
  cases w with
  | notice ch final => exact noticePosted_pending s ch final
  | completion | event | boot => rfl

@[simp] theorem advanceProducer_pending (w : Writing) : (s.advanceProducer w).pending = s.pending :=
  releasePort_pending s

/-! ## Entries (02 R35 to R49) -/

@[simp] theorem openSlot_pending (ch : Channel) (i : Fin 16) (a b c : Bool) (n : Nat) :
    (s.openSlot ch i a b c n).pending = s.pending := by
  simp [State.openSlot]

@[simp] theorem openWriteEntry_pending (ch : Channel) (a b c : Bool) (n : Nat) :
    (s.openWriteEntry ch a b c n).pending = s.pending := by
  unfold State.openWriteEntry State.startWait
  split
  · exact faultEntry_pending s ch _
  · split
    · exact faultEntry_pending s ch _
    · split <;> simp

@[simp] theorem openResolved_pending (ch : Channel) (r : PageRef) (follow release : Bool) (n : Nat) :
    (s.openResolved ch r follow release n).pending = s.pending := by
  unfold State.openResolved
  split <;> simp [State.join]

@[simp] theorem openPeer_pending (ch p : Channel) (follow release : Bool) (n : Nat) :
    (s.openPeer ch p follow release n).pending = s.pending := by
  unfold State.openPeer
  split
  · exact openResolved_pending ..
  · rfl

@[simp] theorem reopen_pending (ch : Channel) (r : PageRef) (follow release : Bool) (n : Nat) :
    (s.reopen ch r follow release n).pending = s.pending := by
  simp [State.reopen, State.startWait]

@[simp] theorem openReadEntry_pending (ch : Channel) (follow release peer : Bool) (a b n : Nat) :
    (s.openReadEntry ch follow release peer a b n).pending = s.pending := by
  unfold State.openReadEntry
  split
  · exact faultEntry_pending s ch _
  · split
    · exact faultEntry_pending s ch _
    · split
      · exact reopen_pending ..
      · split <;> split <;> simp

@[simp] theorem select_pending (ch : Channel) (x : Selection) : (s.select ch x).pending = s.pending := by
  simp [State.select]

@[simp] theorem endTableWait_pending : s.endTableWait.pending = s.pending := by
  unfold State.endTableWait
  split <;> simp

theorem setProcessingEntry_pending (ch : Channel) (a b : Bool) (m t : Nat) :
    (s.setProcessingEntry ch a b m t).pending = s.pending := by
  simp [State.setProcessingEntry, State.startWait]

theorem linkMotorEntry_pending (ch : Channel) (m : MotorId) (spl : Nat) (n : Fin 4) (top : Nat) :
    (s.linkMotorEntry ch m spl n top).pending = s.pending := by
  simp [State.linkMotorEntry, State.startWait, State.link]

theorem waitLineEntry_pending (ch : Channel) (g : Fin 16) (high : Bool) (n : Nat) :
    (s.waitLineEntry ch g high n).pending = s.pending := by
  simp [State.waitLineEntry]

theorem closeWriterEntry_pending (ch : Channel) : (s.closeWriterEntry ch).pending = s.pending := by
  unfold State.closeWriterEntry
  split <;> simp

@[simp] theorem leavePage_pending (ch : Channel) (r : PageRef) : (s.leavePage ch r).pending = s.pending := by
  simp [State.leavePage]

theorem closeReaderEntry_pending (ch : Channel) : (s.closeReaderEntry ch).pending = s.pending := by
  unfold State.closeReaderEntry
  split <;> simp [State.offerPageEnd]

theorem jumpEntry_pending (ch : Channel) (a : Nat) : (s.jumpEntry ch a).pending = s.pending := by
  simp [State.jumpEntry]

@[simp] theorem runAgain_pending (ch : Channel) : (s.runAgain ch).pending = s.pending := rfl

/-! ## Steps of the motors and the paths of the lines (03 to 06) -/

@[simp] theorem countGroup_pending (m : MotorId) : (s.countGroup m).pending = s.pending := by
  unfold State.countGroup
  dsimp only
  split <;> simp

@[simp] theorem commitOrRest_pending (m : MotorId) : (s.commitOrRest m).pending = s.pending := by
  unfold State.commitOrRest
  dsimp only
  split <;> simp

@[simp] theorem issueStep_pending (m : MotorId) : (s.issueStep m).pending = s.pending := by
  simp [State.issueStep, State.fallBudgets]

@[simp] theorem burnEnd_pending : s.burnEnd.pending = s.pending := by
  unfold State.burnEnd
  dsimp only
  split <;> simp

@[simp] theorem advanceReader_pending (ch : Channel) : (s.advanceReader ch).pending = s.pending := by
  unfold State.advanceReader
  dsimp only
  split <;> simp

@[simp] theorem handOver_pending (ch : Channel) (n : Nat) (slot : List Byte) :
    (s.handOver ch n slot).pending = s.pending := by
  cases ch with
  | print => simp [State.handOver, State.handToPrint, State.enterQueue]
  | scan | codeOut | codeIn => rfl

@[simp] theorem endIfRead_pending (ch : Channel) : (s.endIfRead ch).pending = s.pending := by
  simp [State.endIfRead]

theorem finishCapture_pending (b : BufId) (samples : List Byte) :
    (s.finishCapture b samples).pending = s.pending := by
  simp [State.finishCapture]

theorem storeScan_pending (b : BufId) : (s.storeScan b).pending = s.pending := by
  rw [storeScan_only]

@[simp] theorem fillScan_pending (t : Table) (i : Nat) (ws : List Nat) :
    (s.fillScan t i ws).pending = s.pending := by
  cases t <;> simp [State.fillScan]

@[simp] theorem loadOn_pending (l : Load) : (s.loadOn l).pending = s.pending := by
  simp [State.loadOn]

@[simp] theorem recap_pending (n : Fin 4) : (s.recap n).pending = s.pending := by simp [State.recap]

@[simp] theorem replaceRamp_pending (n : Fin 4) (t : List Nat) : (s.replaceRamp n t).pending = s.pending :=
  recap_pending _ n

theorem closeSent_pending (f : Frame) : (s.closeSent f).pending = s.pending := by
  unfold State.closeSent
  dsimp only
  split <;> simp

@[simp] theorem limitIfFull_pending : s.limitIfFull.pending = s.pending := by
  rw [limitIfFull_only, setChan_pending]

@[simp] theorem storeHeld_pending : s.storeHeld.pending = s.pending := by
  unfold State.storeHeld
  cases s.chans.codeIn.openPage <;> rfl

@[simp] theorem goodStored_pending : s.goodStored.pending = s.pending := by
  simp [State.goodStored]

@[simp] theorem concealmentStored_pending : s.concealmentStored.pending = s.pending := by
  have hcount (t : State) : t.countConcealed.pending = t.pending := by
    unfold State.countConcealed
    split <;> rfl
  simp [State.concealmentStored, State.burstTest, hcount]

end Sys2Proof.Machine
end

section
/-! PROOFS. The step and the queue: what every row answers, whether its condition holds or not (log 1). -/

namespace Sys2Proof.Machine

/-- The answer is a next state, under the queue of `s`. -/
def KeepsQueue (s : State) (o : Host.Outcome State Fault Refusal) : Prop :=
  ∃ t, o = .next t ∧ t.pending = s.pending

/-- A row keeps the queue when its effect does, for `settle` does. -/
theorem runIf_keepsQueue {s e : State} {due : Bool} (h : e.pending = s.pending) :
    KeepsQueue s (runIf due s e) := by
  obtain ⟨t, ht⟩ := runIf_next due s e
  have hkept : Answers (fun u => u.pending = s.pending) (runIf due s e) :=
    runIf_answers rfl fun _ => (settle_pending e).trans h
  exact ⟨t, ht, hkept t ht⟩

variable (s : State)

theorem idle_keepsQueue : KeepsQueue s (runIf false s s) := runIf_keepsQueue rfl

/-! ## Start-up, the host port and the record unit -/

theorem execProbe_keepsQueue (cfgskip : Bool) (lines : BitVec 16) :
    KeepsQueue s (execProbe cfgskip lines s) :=
  runIf_keepsQueue (by simp)

theorem execProbeWordReadEnd_keepsQueue (lines : BitVec 16) :
    KeepsQueue s (execProbeWordReadEnd lines s) :=
  runIf_keepsQueue (by simp)

theorem execHostMemoryCycle_keepsQueue (hasel : Bool) (a : BitVec 21) (write : Option Word) :
    KeepsQueue s (execHostMemoryCycle hasel a write s) :=
  runIf_keepsQueue (by simp)

theorem execHostWordServed_keepsQueue : KeepsQueue s (execHostWordServed s) := by
  unfold execHostWordServed
  split
  · exact runIf_keepsQueue ((freePort_pending _).trans (serveHost_pending s _))
  · exact idle_keepsQueue s

theorem execReportWriteEnd_keepsQueue : KeepsQueue s (execReportWriteEnd s) := by
  unfold execReportWriteEnd
  split
  · exact runIf_keepsQueue ((posted_pending _ _).trans (advanceProducer_pending s _))
  · exact idle_keepsQueue s

theorem execProducerIndexWriteEnd_keepsQueue : KeepsQueue s (execProducerIndexWriteEnd s) := by
  unfold execProducerIndexWriteEnd
  split
  · exact runIf_keepsQueue (releasePort_pending s)
  · exact idle_keepsQueue s

theorem execConsumerIndexWriteEnd_keepsQueue : KeepsQueue s (execConsumerIndexWriteEnd s) := by
  unfold execConsumerIndexWriteEnd
  split
  · dsimp only
    split <;> exact runIf_keepsQueue (releasePort_pending s)
  · exact idle_keepsQueue s

theorem execPageQueryFirstWriteEnd_keepsQueue : KeepsQueue s (execPageQueryFirstWriteEnd s) := by
  unfold execPageQueryFirstWriteEnd
  split
  · exact runIf_keepsQueue (releasePort_pending s)
  · exact idle_keepsQueue s

theorem execPageQueryWriteEnd_keepsQueue : KeepsQueue s (execPageQueryWriteEnd s) := by
  unfold execPageQueryWriteEnd
  split
  · exact runIf_keepsQueue ((complete_pending _ _ _).trans (releasePort_pending s))
  · exact idle_keepsQueue s

theorem execStoreSourceBurstEnd_keepsQueue : KeepsQueue s (execStoreSourceBurstEnd s) := by
  unfold execStoreSourceBurstEnd
  split
  · exact runIf_keepsQueue ((setStore_pending _ _).trans (releasePort_pending s))
  · exact idle_keepsQueue s

theorem execStoreWordShifted_keepsQueue : KeepsQueue s (execStoreWordShifted s) := by
  unfold execStoreWordShifted
  split
  · split
    · exact runIf_keepsQueue rfl
    · exact idle_keepsQueue s
  · exact idle_keepsQueue s

theorem execEepromReady_keepsQueue : KeepsQueue s (execEepromReady s) := by
  unfold execEepromReady
  split
  · exact runIf_keepsQueue rfl
  · exact idle_keepsQueue s

theorem execEepromReadyTimeout_keepsQueue : KeepsQueue s (execEepromReadyTimeout s) := by
  unfold execEepromReadyTimeout
  split
  · exact runIf_keepsQueue (storeFailed_pending s _)
  · exact idle_keepsQueue s

theorem execStoreReadbackEnd_keepsQueue (w : Word) : KeepsQueue s (execStoreReadbackEnd w s) := by
  unfold execStoreReadbackEnd
  split
  · split
    · exact runIf_keepsQueue (by simp)
    · exact idle_keepsQueue s
  · exact idle_keepsQueue s

theorem execDrainTimerExpiry_keepsQueue : KeepsQueue s (execDrainTimerExpiry s) := by
  unfold execDrainTimerExpiry
  split
  · split
    · exact runIf_keepsQueue (raise_pending _ _ _ _)
    · exact idle_keepsQueue s
  · exact idle_keepsQueue s

theorem execSelfRefreshExitEnd_keepsQueue : KeepsQueue s (execSelfRefreshExitEnd s) := by
  refine runIf_keepsQueue ((raise_pending _ _ _ _).trans ?_)
  rw [leaveSelfRefresh_only]

/-! ## Table loads -/

theorem execScanTableBurstEnd_keepsQueue : KeepsQueue s (execScanTableBurstEnd s) := by
  unfold execScanTableBurstEnd
  split
  · dsimp only
    split
    · exact runIf_keepsQueue (by simp)
    · exact runIf_keepsQueue (by simp)
    · exact idle_keepsQueue s
  · exact idle_keepsQueue s

theorem execStrobeLoadEnd_keepsQueue : KeepsQueue s (execStrobeLoadEnd s) := by
  unfold execStrobeLoadEnd
  split
  · exact runIf_keepsQueue ((complete_pending _ _ _).trans (releasePort_pending s))
  · exact idle_keepsQueue s

theorem execRampLoadEnd_keepsQueue : KeepsQueue s (execRampLoadEnd s) := by
  unfold execRampLoadEnd
  split
  · dsimp only
    split
    · refine runIf_keepsQueue ?_
      split <;> simp
    · exact idle_keepsQueue s
  · exact idle_keepsQueue s

theorem execPhaseLoadEnd_keepsQueue : KeepsQueue s (execPhaseLoadEnd s) := by
  unfold execPhaseLoadEnd
  split
  · dsimp only
    split
    · exact runIf_keepsQueue (by simp)
    · exact idle_keepsQueue s
  · exact idle_keepsQueue s

/-! ## Entries, the ends of waits and the boundaries -/

section
variable (ch : Channel)

theorem execEntryFetchEnd_keepsQueue : KeepsQueue s (execEntryFetchEnd s) := by
  unfold execEntryFetchEnd
  split
  · dsimp only
    split
    · exact runIf_keepsQueue ((setChan_pending _ _ _).trans (releasePort_pending s))
    · exact runIf_keepsQueue (releasePort_pending s)
  · exact idle_keepsQueue s

theorem execOpenWrite_keepsQueue : KeepsQueue s (execOpenWrite ch s) := by
  unfold execOpenWrite
  split
  · exact runIf_keepsQueue (openWriteEntry_pending ..)
  · exact idle_keepsQueue s

theorem execOpenRead_keepsQueue : KeepsQueue s (execOpenRead ch s) := by
  unfold execOpenRead
  split
  · exact runIf_keepsQueue (openReadEntry_pending ..)
  · exact idle_keepsQueue s

theorem execLines_keepsQueue : KeepsQueue s (execLines ch s) := by
  unfold execLines
  split
  · exact runIf_keepsQueue (beginLines_pending ..)
  · exact idle_keepsQueue s

theorem execSetProcessing_keepsQueue : KeepsQueue s (execSetProcessing ch s) := by
  unfold execSetProcessing
  split
  · exact runIf_keepsQueue (setProcessingEntry_pending ..)
  · exact idle_keepsQueue s

theorem execLinkMotor_keepsQueue : KeepsQueue s (execLinkMotor ch s) := by
  unfold execLinkMotor
  split
  · split
    · exact runIf_keepsQueue (linkMotorEntry_pending ..)
    · exact runIf_keepsQueue (faultEntry_pending ..)
  · exact idle_keepsQueue s

theorem execUnlink_keepsQueue : KeepsQueue s (execUnlink ch s) := by
  unfold execUnlink
  split
  · split
    · exact runIf_keepsQueue ((endEntry_pending _ _).trans (unlinkMotor_pending s _))
    · exact runIf_keepsQueue (faultEntry_pending ..)
  · exact idle_keepsQueue s

theorem execWaitLine_keepsQueue : KeepsQueue s (execWaitLine ch s) := by
  unfold execWaitLine
  split
  · exact runIf_keepsQueue (waitLineEntry_pending ..)
  · exact idle_keepsQueue s

theorem execCloseWriter_keepsQueue : KeepsQueue s (execCloseWriter ch s) := by
  unfold execCloseWriter
  split
  · exact runIf_keepsQueue (closeWriterEntry_pending s ch)
  · exact idle_keepsQueue s

theorem execCloseReader_keepsQueue : KeepsQueue s (execCloseReader ch s) := by
  unfold execCloseReader
  split
  · exact runIf_keepsQueue (closeReaderEntry_pending s ch)
  · exact idle_keepsQueue s

theorem execMark_keepsQueue : KeepsQueue s (execMark ch s) := by
  unfold execMark
  split
  · exact runIf_keepsQueue (notifyEnding_pending ..)
  · exact idle_keepsQueue s

theorem execJump_keepsQueue : KeepsQueue s (execJump ch s) := by
  unfold execJump
  split
  · exact runIf_keepsQueue (jumpEntry_pending ..)
  · exact idle_keepsQueue s

theorem execEndEntry_keepsQueue : KeepsQueue s (execEndEntry ch s) := by
  unfold execEndEntry
  split
  · exact runIf_keepsQueue (notifyEnding_pending ..)
  · exact idle_keepsQueue s

theorem execUnknownEntry_keepsQueue : KeepsQueue s (execUnknownEntry ch s) := by
  unfold execUnknownEntry
  split
  · exact runIf_keepsQueue (faultEntry_pending ..)
  · exact idle_keepsQueue s

theorem execSlotHanded_keepsQueue : KeepsQueue s (execSlotHanded s) := by
  unfold execSlotHanded
  split
  · split
    · exact runIf_keepsQueue (openSlot_pending ..)
    · exact idle_keepsQueue s
  · exact idle_keepsQueue s

theorem execPeerPageResolved_keepsQueue : KeepsQueue s (execPeerPageResolved ch s) := by
  unfold execPeerPageResolved
  split
  · split
    · exact runIf_keepsQueue (openResolved_pending ..)
    · exact idle_keepsQueue s
  · exact idle_keepsQueue s

theorem execWaitCompleteEnd_keepsQueue : KeepsQueue s (execWaitCompleteEnd ch s) := by
  unfold execWaitCompleteEnd
  split
  · exact runIf_keepsQueue (openResolved_pending ..)
  · exact idle_keepsQueue s

theorem execWaitGateEnd_keepsQueue : KeepsQueue s (execWaitGateEnd ch s) := by
  unfold execWaitGateEnd
  split
  · exact runIf_keepsQueue (endEntry_pending ..)
  · exact idle_keepsQueue s

theorem execPauseBoundaryReached_keepsQueue : KeepsQueue s (execPauseBoundaryReached ch s) := by
  unfold execPauseBoundaryReached
  split
  · exact runIf_keepsQueue rfl
  · exact idle_keepsQueue s

theorem execAbortBoundaryReached_keepsQueue : KeepsQueue s (execAbortBoundaryReached ch s) := by
  unfold execAbortBoundaryReached
  split
  · exact runIf_keepsQueue ((postFinal_pending _ _ _).trans (abortSteps_pending s ch))
  · exact idle_keepsQueue s

end

/-! ## The paths of the lines -/

theorem execLineReadEnd_keepsQueue : KeepsQueue s (execLineReadEnd s) := by
  unfold execLineReadEnd
  split
  · exact runIf_keepsQueue (by simp)
  · exact idle_keepsQueue s

theorem execMotorStep_keepsQueue (m : MotorId) : KeepsQueue s (execMotorStep m s) :=
  runIf_keepsQueue (by simp)

theorem execCaptureEnd_keepsQueue (samples : List Byte) : KeepsQueue s (execCaptureEnd samples s) := by
  unfold execCaptureEnd
  split
  · exact runIf_keepsQueue (finishCapture_pending ..)
  · exact idle_keepsQueue s

theorem execScanWriteEnd_keepsQueue : KeepsQueue s (execScanWriteEnd s) := by
  unfold execScanWriteEnd
  split
  · exact runIf_keepsQueue ((storeScan_pending _ _).trans
      ((releasePort_pending _).trans (endBurst_pending s _)))
  · exact idle_keepsQueue s

theorem execStrobePhaseEnd_keepsQueue : KeepsQueue s (execStrobePhaseEnd s) := by
  unfold execStrobePhaseEnd
  split
  · exact runIf_keepsQueue (by simp)
  · exact idle_keepsQueue s

theorem execFrameTaken_keepsQueue : KeepsQueue s (execFrameTaken s) := by
  unfold execFrameTaken
  split
  · exact runIf_keepsQueue (closeSent_pending ..)
  · exact idle_keepsQueue s

theorem execPageEndReceived_keepsQueue : KeepsQueue s (execPageEndReceived s) :=
  runIf_keepsQueue (by simp)

theorem execCodeInSlotWriteEnd_keepsQueue : KeepsQueue s (execCodeInSlotWriteEnd s) := by
  unfold execCodeInSlotWriteEnd
  split
  · exact runIf_keepsQueue (by simp)
  · exact idle_keepsQueue s

theorem execConcealmentStored_keepsQueue : KeepsQueue s (execConcealmentStored s) := by
  unfold execConcealmentStored
  split
  · exact runIf_keepsQueue (by simp)
  · exact idle_keepsQueue s

/-! ## Every command -/

/-- Every command answers a next state under the queue it was taken from. -/
theorem exec_keepsQueue (c : Instr) : KeepsQueue s (exec c s) := by
  cases c with
  | hardReset cause rom => exact runIf_keepsQueue rfl
  | probe k l => exact execProbe_keepsQueue s k l
  | probeWordReadEnd l => exact execProbeWordReadEnd_keepsQueue s l
  | imageReadEnd l => exact runIf_keepsQueue (bringUp_pending _ _ l)
  | hostRelease => exact runIf_keepsQueue rfl
  | commandWordWrite v => exact runIf_keepsQueue (writeCommandWord_pending s v)
  | reportWordWrite v => exact runIf_keepsQueue (writeReportWord_pending s v)
  | hostMemoryCycle h a w => exact execHostMemoryCycle_keepsQueue s h a w
  | hostWordServed => exact execHostWordServed_keepsQueue s
  | refreshDue => exact runIf_keepsQueue rfl
  | commandFetchEnd => exact runIf_keepsQueue (releasePort_pending s)
  | unknownCommand => exact runIf_keepsQueue (refuse_pending s _)
  | startChain => exact runIf_keepsQueue (startCommand_pending s)
  | stopChannelPause => exact runIf_keepsQueue (stopPause_pending s)
  | stopChannelAbort => exact runIf_keepsQueue (stopAbort_pending s)
  | resumeChannel => exact runIf_keepsQueue (resumeCommand_pending s)
  | motorMove => exact runIf_keepsQueue (moveCommand_pending s)
  | motorStopRamp => exact runIf_keepsQueue (stopRampCommand_pending s)
  | motorStopImmediate => exact runIf_keepsQueue (stopNowCommand_pending s)
  | motorResume => exact runIf_keepsQueue (motorResumeCommand_pending s)
  | motorRelease => exact runIf_keepsQueue (motorReleaseCommand_pending s)
  | loadTableScan => exact runIf_keepsQueue (loadCommand_pending s)
  | loadTableStrobe => exact runIf_keepsQueue (loadCommand_pending s)
  | loadTableRamp => exact runIf_keepsQueue (loadCommand_pending s)
  | loadTablePhase => exact runIf_keepsQueue (loadCommand_pending s)
  | headClass => exact runIf_keepsQueue rfl
  | pageQuery => exact runIf_keepsQueue (queryCommand_pending s)
  | pageQueryWriteEnd => exact execPageQueryWriteEnd_keepsQueue s
  | pageRelease => exact runIf_keepsQueue (releaseCommand_pending s)
  | sensorConfig => exact runIf_keepsQueue (sensorConfigCommand_pending s)
  | eventPriority => exact runIf_keepsQueue (priorityCommand_pending s)
  | eventThreshold => exact runIf_keepsQueue rfl
  | powerRun => exact runIf_keepsQueue (powerCommand_pending s (powerRun_pending s))
  | powerDoze => exact runIf_keepsQueue (powerCommand_pending s (powerDoze_pending s))
  | powerSleep => exact runIf_keepsQueue (powerCommand_pending s rfl)
  | statusQuery => exact runIf_keepsQueue (statusCommand_pending s)
  | clearFlags => exact runIf_keepsQueue (clearCommand_pending s)
  | engineReset => exact runIf_keepsQueue (engineResetCommand_pending s)
  | configReload => exact runIf_keepsQueue (reloadCommand_pending s)
  | reloadReadEnd => exact runIf_keepsQueue (reloadEnd_pending s _)
  | configStore => exact runIf_keepsQueue (storeCommand_pending s)
  | reportWriteEnd => exact execReportWriteEnd_keepsQueue s
  | consumerIndexWriteEnd => exact execConsumerIndexWriteEnd_keepsQueue s
  | entryFetchEnd => exact execEntryFetchEnd_keepsQueue s
  | openWrite ch => exact execOpenWrite_keepsQueue s ch
  | openRead ch => exact execOpenRead_keepsQueue s ch
  | lines ch => exact execLines_keepsQueue s ch
  | setProcessing ch => exact execSetProcessing_keepsQueue s ch
  | linkMotor ch => exact execLinkMotor_keepsQueue s ch
  | unlink ch => exact execUnlink_keepsQueue s ch
  | waitLine ch => exact execWaitLine_keepsQueue s ch
  | closeWriter ch => exact execCloseWriter_keepsQueue s ch
  | closeReader ch => exact execCloseReader_keepsQueue s ch
  | mark ch => exact execMark_keepsQueue s ch
  | jump ch => exact execJump_keepsQueue s ch
  | endEntry ch => exact execEndEntry_keepsQueue s ch
  | unknownEntry ch => exact execUnknownEntry_keepsQueue s ch
  | slotHanded => exact execSlotHanded_keepsQueue s
  | peerPageResolved ch => exact execPeerPageResolved_keepsQueue s ch
  | waitCompleteEnd ch => exact execWaitCompleteEnd_keepsQueue s ch
  | waitLinesEnd ch => exact runIf_keepsQueue (runAgain_pending s ch)
  | waitSpaceEnd => exact runIf_keepsQueue (runAgain_pending s .codeIn)
  | waitGateEnd ch => exact execWaitGateEnd_keepsQueue s ch
  | waitLineTimeout ch => exact runIf_keepsQueue (faultEntry_pending s ch _)
  | waitMotorEnd ch => exact runIf_keepsQueue (runAgain_pending s ch)
  | waitTableEnd => exact runIf_keepsQueue (endTableWait_pending s)
  | pauseBoundaryReached ch => exact execPauseBoundaryReached_keepsQueue s ch
  | abortBoundaryReached ch => exact execAbortBoundaryReached_keepsQueue s ch
  | lineReadEnd => exact execLineReadEnd_keepsQueue s
  | motorStep m => exact execMotorStep_keepsQueue s m
  | holdTimerExpiry m => exact runIf_keepsQueue (setMotor_pending s m _)
  | captureEnd samples => exact execCaptureEnd_keepsQueue s samples
  | scanWriteEnd => exact execScanWriteEnd_keepsQueue s
  | shiftLatchEnd => exact runIf_keepsQueue rfl
  | strobePhaseEnd => exact execStrobePhaseEnd_keepsQueue s
  | scanTableBurstEnd => exact execScanTableBurstEnd_keepsQueue s
  | strobeLoadEnd => exact execStrobeLoadEnd_keepsQueue s
  | rampLoadEnd => exact execRampLoadEnd_keepsQueue s
  | phaseLoadEnd => exact execPhaseLoadEnd_keepsQueue s
  | frameSendStart o => exact runIf_keepsQueue rfl
  | frameTaken => exact execFrameTaken_keepsQueue s
  | lineReceived d => exact runIf_keepsQueue rfl
  | badLineReceived => exact runIf_keepsQueue rfl
  | malformedFrame n => exact runIf_keepsQueue (raise_pending _ _ _ _)
  | pageEndReceived => exact execPageEndReceived_keepsQueue s
  | unsolicitedFrame n => exact runIf_keepsQueue (raise_pending _ _ _ _)
  | codeInSlotWriteEnd => exact execCodeInSlotWriteEnd_keepsQueue s
  | concealmentStored => exact execConcealmentStored_keepsQueue s
  | crstnPulseEnd => exact runIf_keepsQueue rfl
  | debounceLevelChange g => exact runIf_keepsQueue (changeLevel_pending s g)
  | drainTimerExpiry => exact execDrainTimerExpiry_keepsQueue s
  | dozeEntry n => exact runIf_keepsQueue (raise_pending _ _ _ _)
  | sleepEntry => exact runIf_keepsQueue (afterGrant_pending _)
  | sleepTimerExpiry => exact runIf_keepsQueue rfl
  | selfRefreshExitEnd => exact execSelfRefreshExitEnd_keepsQueue s
  | storeSourceBurstEnd => exact execStoreSourceBurstEnd_keepsQueue s
  | storeWordShifted => exact execStoreWordShifted_keepsQueue s
  | eepromReady => exact execEepromReady_keepsQueue s
  | eepromReadyTimeout => exact execEepromReadyTimeout_keepsQueue s
  | storeReadbackEnd w => exact execStoreReadbackEnd_keepsQueue s w
  | sensorSample l => exact runIf_keepsQueue (takeSamples_pending s _ l _)
  | receiveFrameHeader h o c => exact runIf_keepsQueue rfl
  | frameCutShortEnd n => exact runIf_keepsQueue rfl
  | refreshEnd => exact runIf_keepsQueue (freePort_pending s)
  | producerIndexWriteEnd => exact execProducerIndexWriteEnd_keepsQueue s
  | pageQueryFirstWriteEnd => exact execPageQueryFirstWriteEnd_keepsQueue s

/-! ## The statements -/

variable {s} in
theorem step_of_cons {c : Instr} {rest : List Instr} (h : s.pending = c :: rest) :
    step s = exec c { s with pending := rest } := by
  simp only [step, h]

variable {s} in
theorem step_of_nil (h : s.pending = []) : step s = .next s := by
  simp only [step, h]

/-- Settles O1: a step follows its queue's two cases. -/
theorem stepTakesTheFrontCommand : Obligations.StepTakesTheFrontCommand :=
  ⟨fun _ _ _ h => step_of_cons h, fun _ h => step_of_nil h⟩

/-- Settles O2: every row answers its effect settled or the state as it was, and neither `settle` nor any
effect touches the queue. -/
theorem everyCommandAnswersNext : Obligations.EveryCommandAnswersNext :=
  fun c s => exec_keepsQueue s c

end Sys2Proof.Machine
end
